-- ==== Sys2Proof/Word.lean ====
section
/-! DEFINITION. The two word types of the machine: 8-bit bytes and 16-bit words
(spec/00_scope.md R5 and R6). -/

namespace Sys2Proof

/-- An 8-bit value: a register, a memory byte, a port byte (R5). -/
abbrev Byte := BitVec 8

/-- A 16-bit value: a register pair, an address, PC, SP, a port address (R5, R81). -/
abbrev Word := BitVec 16

end Sys2Proof
end

