-- ==== Sys2Proof/Machine/Bits.lean ====
section
/-! DEFINITION. Bit-field, byte-order and sign-extension helpers (spec/00_scope.md R6, R10). -/

namespace Sys2Proof

/-- Bits 15:8 of a word (R6 `v[15:8]`). -/
def hiByte (w : Word) : Byte := w.extractLsb' 8 8

/-- Bits 7:0 of a word (R6 `v[7:0]`). -/
def loByte (w : Word) : Byte := w.extractLsb' 0 8

/-- `{hi, lo}`: the word whose high byte is `hi` (R6, R32). -/
def mkWord (hi lo : Byte) : Word := hi ++ lo

/-- `sext_16(v)` of R6, used for the displacements `d` and `e` (R116). -/
def sext16 (v : Byte) : Word := v.signExtend 16

/-- `v[3:0]`. -/
def loNibble (v : Byte) : BitVec 4 := v.extractLsb' 0 4

/-- `v[7:4]`. -/
def hiNibble (v : Byte) : BitVec 4 := v.extractLsb' 4 4

/-- `parity(v8)` of R10: true when `v` has an even number of 1 bits. -/
def parity (v : Byte) : Bool := (List.range 8).countP (fun k => v.getLsbD k) % 2 == 0

end Sys2Proof
end

