-- ==== Sys2Proof/Syntax.lean ====
section
/-! DEFINITION. The instructions, one constructor per row of spec/opcode_table.json (1,272 rows,
spec/30_encoding.md R130), and the names of their operands (R118).

A constructor's name is its row's mnemonic in lower case, operands joined by `_`: `mhl`, `mbc`,
`mde`, `mnn`, `msp` are `(HL)`, `(BC)`, `(DE)`, `(nn)`, `(SP)`; `ixd`, `iyd` are `(IX+d)`,
`(IY+d)`; `portC`, `portN` are `(C)`, `(n)`; `afAlt` is `AF'`. A row whose mnemonic the table gives
to more than one encoding carries its second opcode byte (`neg_ED4C`) or, in DDCB/FDCB, the register
code `z` of its final opcode (`bit_0_ixd_z1`). The arguments are the operand bytes: `n`, `d`, `e` one
byte each, `nn` the word `{high, low}` (R115, R116). -/

namespace Sys2Proof

/-- `r8[c]` of R118: the seven 8-bit registers an opcode can name (code 6 is no register). -/
inductive R8 where
  | b | c | d | e | h | l | a
  deriving DecidableEq, Repr

/-- The registers that keep their name in the DD/FD spaces' undocumented loads (R214). -/
inductive Plain where
  | b | c | d | e | a
  deriving DecidableEq, Repr

/-- A half of an index register: `XYH` or `XYL` (R33). -/
inductive Half where
  | hi | lo
  deriving DecidableEq, Repr

/-- An index register: IX under prefix DD, IY under prefix FD (R7). -/
inductive Xy where
  | ix | iy
  deriving DecidableEq, Repr

/-- `rp[p]` of R118. -/
inductive Pair where
  | bc | de | hl | sp
  deriving DecidableEq, Repr

/-- `rp2[p]` of R118. -/
inductive Pair2 where
  | bc | de | hl | af
  deriving DecidableEq, Repr

/-- The second operand of `ADD IX,pp` / `ADD IY,rr`: `xy` is the index register itself (R301). -/
inductive AddPair where
  | bc | de | xy | sp
  deriving DecidableEq, Repr

/-- `cc[y]` of R118. -/
inductive Cond where
  | nz | z | nc | c | po | pe | p | m
  deriving DecidableEq, Repr

/-- The conditions of `JR cc`: `cc[0..3]` (R118, R414). -/
inductive JrCond where
  | nz | z | nc | c
  deriving DecidableEq, Repr

/-- `alu[y]` of R118. -/
inductive AluOp where
  | add | adc | sub | sbc | and | xor | or | cp
  deriving DecidableEq, Repr

/-- `rot[y]` of R118. -/
inductive RotOp where
  | rlc | rrc | rl | rr | sla | sra | sll | srl
  deriving DecidableEq, Repr

/-- A three-bit opcode field used as a number: a bit number `b` (R346), or the field `y`. -/
inductive BitNo where
  | b0 | b1 | b2 | b3 | b4 | b5 | b6 | b7
  deriving DecidableEq, Repr

/-- The eight restart targets (R424). -/
inductive Rst where
  | p00 | p08 | p10 | p18 | p20 | p28 | p30 | p38
  deriving DecidableEq, Repr

/-- The direction of a block instruction: the `I` forms ascend, the `D` forms descend. -/
inductive Dir where
  | inc | dec
  deriving DecidableEq, Repr

/-- The four prefix bytes (R111). -/
inductive Pfx where
  | cb | dd | ed | fd
  deriving DecidableEq, Repr

/-- The operand `s` of the eight accumulator operations (R260). -/
inductive Src8 where
  | r (r : R8)
  | n (n : Byte)
  | hl
  | idx (xy : Xy) (d : Byte)
  | half (xy : Xy) (h : Half)
  deriving DecidableEq, Repr

/-- The operand of the 8-bit INC and DEC (R269 to R276). -/
inductive Dst8 where
  | r (r : R8)
  | hl
  | idx (xy : Xy) (d : Byte)
  | half (xy : Xy) (h : Half)
  deriving DecidableEq, Repr

/-- The operand `m` of the CB-space and DDCB/FDCB-space instructions (R343, R346 to R348, R351).
`idxCopy` is the encoding whose register code is not 6. -/
inductive M8 where
  | r (r : R8)
  | hl
  | idx (xy : Xy) (d : Byte)
  | idxCopy (xy : Xy) (d : Byte) (r : R8)
  deriving DecidableEq, Repr

set_option genSizeOf false in
/-- The 1,272 registered encodings. -/
inductive Instr where
  | nop
  | ld_bc_nn (nn : Word)
  | ld_mbc_a
  | inc_bc
  | inc_b
  | dec_b
  | ld_b_n (n : Byte)
  | rlca
  | ex_af_afAlt
  | add_hl_bc
  | ld_a_mbc
  | dec_bc
  | inc_c
  | dec_c
  | ld_c_n (n : Byte)
  | rrca
  | djnz_e (e : Byte)
  | ld_de_nn (nn : Word)
  | ld_mde_a
  | inc_de
  | inc_d
  | dec_d
  | ld_d_n (n : Byte)
  | rla
  | jr_e (e : Byte)
  | add_hl_de
  | ld_a_mde
  | dec_de
  | inc_e
  | dec_e
  | ld_e_n (n : Byte)
  | rra
  | jr_nz_e (e : Byte)
  | ld_hl_nn (nn : Word)
  | ld_mnn_hl (nn : Word)
  | inc_hl
  | inc_h
  | dec_h
  | ld_h_n (n : Byte)
  | daa
  | jr_z_e (e : Byte)
  | add_hl_hl
  | ld_hl_mnn (nn : Word)
  | dec_hl
  | inc_l
  | dec_l
  | ld_l_n (n : Byte)
  | cpl
  | jr_nc_e (e : Byte)
  | ld_sp_nn (nn : Word)
  | ld_mnn_a (nn : Word)
  | inc_sp
  | inc_mhl
  | dec_mhl
  | ld_mhl_n (n : Byte)
  | scf
  | jr_c_e (e : Byte)
  | add_hl_sp
  | ld_a_mnn (nn : Word)
  | dec_sp
  | inc_a
  | dec_a
  | ld_a_n (n : Byte)
  | ccf
  | ld_b_b
  | ld_b_c
  | ld_b_d
  | ld_b_e
  | ld_b_h
  | ld_b_l
  | ld_b_mhl
  | ld_b_a
  | ld_c_b
  | ld_c_c
  | ld_c_d
  | ld_c_e
  | ld_c_h
  | ld_c_l
  | ld_c_mhl
  | ld_c_a
  | ld_d_b
  | ld_d_c
  | ld_d_d
  | ld_d_e
  | ld_d_h
  | ld_d_l
  | ld_d_mhl
  | ld_d_a
  | ld_e_b
  | ld_e_c
  | ld_e_d
  | ld_e_e
  | ld_e_h
  | ld_e_l
  | ld_e_mhl
  | ld_e_a
  | ld_h_b
  | ld_h_c
  | ld_h_d
  | ld_h_e
  | ld_h_h
  | ld_h_l
  | ld_h_mhl
  | ld_h_a
  | ld_l_b
  | ld_l_c
  | ld_l_d
  | ld_l_e
  | ld_l_h
  | ld_l_l
  | ld_l_mhl
  | ld_l_a
  | ld_mhl_b
  | ld_mhl_c
  | ld_mhl_d
  | ld_mhl_e
  | ld_mhl_h
  | ld_mhl_l
  | halt
  | ld_mhl_a
  | ld_a_b
  | ld_a_c
  | ld_a_d
  | ld_a_e
  | ld_a_h
  | ld_a_l
  | ld_a_mhl
  | ld_a_a
  | add_a_b
  | add_a_c
  | add_a_d
  | add_a_e
  | add_a_h
  | add_a_l
  | add_a_mhl
  | add_a_a
  | adc_a_b
  | adc_a_c
  | adc_a_d
  | adc_a_e
  | adc_a_h
  | adc_a_l
  | adc_a_mhl
  | adc_a_a
  | sub_b
  | sub_c
  | sub_d
  | sub_e
  | sub_h
  | sub_l
  | sub_mhl
  | sub_a
  | sbc_a_b
  | sbc_a_c
  | sbc_a_d
  | sbc_a_e
  | sbc_a_h
  | sbc_a_l
  | sbc_a_mhl
  | sbc_a_a
  | and_b
  | and_c
  | and_d
  | and_e
  | and_h
  | and_l
  | and_mhl
  | and_a
  | xor_b
  | xor_c
  | xor_d
  | xor_e
  | xor_h
  | xor_l
  | xor_mhl
  | xor_a
  | or_b
  | or_c
  | or_d
  | or_e
  | or_h
  | or_l
  | or_mhl
  | or_a
  | cp_b
  | cp_c
  | cp_d
  | cp_e
  | cp_h
  | cp_l
  | cp_mhl
  | cp_a
  | ret_nz
  | pop_bc
  | jp_nz_nn (nn : Word)
  | jp_nn (nn : Word)
  | call_nz_nn (nn : Word)
  | push_bc
  | add_a_n (n : Byte)
  | rst_00
  | ret_z
  | ret
  | jp_z_nn (nn : Word)
  | prefix_cb
  | call_z_nn (nn : Word)
  | call_nn (nn : Word)
  | adc_a_n (n : Byte)
  | rst_08
  | ret_nc
  | pop_de
  | jp_nc_nn (nn : Word)
  | out_portN_a (n : Byte)
  | call_nc_nn (nn : Word)
  | push_de
  | sub_n (n : Byte)
  | rst_10
  | ret_c
  | exx
  | jp_c_nn (nn : Word)
  | in_a_portN (n : Byte)
  | call_c_nn (nn : Word)
  | prefix_dd
  | sbc_a_n (n : Byte)
  | rst_18
  | ret_po
  | pop_hl
  | jp_po_nn (nn : Word)
  | ex_msp_hl
  | call_po_nn (nn : Word)
  | push_hl
  | and_n (n : Byte)
  | rst_20
  | ret_pe
  | jp_hl
  | jp_pe_nn (nn : Word)
  | ex_de_hl
  | call_pe_nn (nn : Word)
  | prefix_ed
  | xor_n (n : Byte)
  | rst_28
  | ret_p
  | pop_af
  | jp_p_nn (nn : Word)
  | di
  | call_p_nn (nn : Word)
  | push_af
  | or_n (n : Byte)
  | rst_30
  | ret_m
  | ld_sp_hl
  | jp_m_nn (nn : Word)
  | ei
  | call_m_nn (nn : Word)
  | prefix_fd
  | cp_n (n : Byte)
  | rst_38
  | rlc_b
  | rlc_c
  | rlc_d
  | rlc_e
  | rlc_h
  | rlc_l
  | rlc_mhl
  | rlc_a
  | rrc_b
  | rrc_c
  | rrc_d
  | rrc_e
  | rrc_h
  | rrc_l
  | rrc_mhl
  | rrc_a
  | rl_b
  | rl_c
  | rl_d
  | rl_e
  | rl_h
  | rl_l
  | rl_mhl
  | rl_a
  | rr_b
  | rr_c
  | rr_d
  | rr_e
  | rr_h
  | rr_l
  | rr_mhl
  | rr_a
  | sla_b
  | sla_c
  | sla_d
  | sla_e
  | sla_h
  | sla_l
  | sla_mhl
  | sla_a
  | sra_b
  | sra_c
  | sra_d
  | sra_e
  | sra_h
  | sra_l
  | sra_mhl
  | sra_a
  | sll_b
  | sll_c
  | sll_d
  | sll_e
  | sll_h
  | sll_l
  | sll_mhl
  | sll_a
  | srl_b
  | srl_c
  | srl_d
  | srl_e
  | srl_h
  | srl_l
  | srl_mhl
  | srl_a
  | bit_0_b
  | bit_0_c
  | bit_0_d
  | bit_0_e
  | bit_0_h
  | bit_0_l
  | bit_0_mhl
  | bit_0_a
  | bit_1_b
  | bit_1_c
  | bit_1_d
  | bit_1_e
  | bit_1_h
  | bit_1_l
  | bit_1_mhl
  | bit_1_a
  | bit_2_b
  | bit_2_c
  | bit_2_d
  | bit_2_e
  | bit_2_h
  | bit_2_l
  | bit_2_mhl
  | bit_2_a
  | bit_3_b
  | bit_3_c
  | bit_3_d
  | bit_3_e
  | bit_3_h
  | bit_3_l
  | bit_3_mhl
  | bit_3_a
  | bit_4_b
  | bit_4_c
  | bit_4_d
  | bit_4_e
  | bit_4_h
  | bit_4_l
  | bit_4_mhl
  | bit_4_a
  | bit_5_b
  | bit_5_c
  | bit_5_d
  | bit_5_e
  | bit_5_h
  | bit_5_l
  | bit_5_mhl
  | bit_5_a
  | bit_6_b
  | bit_6_c
  | bit_6_d
  | bit_6_e
  | bit_6_h
  | bit_6_l
  | bit_6_mhl
  | bit_6_a
  | bit_7_b
  | bit_7_c
  | bit_7_d
  | bit_7_e
  | bit_7_h
  | bit_7_l
  | bit_7_mhl
  | bit_7_a
  | res_0_b
  | res_0_c
  | res_0_d
  | res_0_e
  | res_0_h
  | res_0_l
  | res_0_mhl
  | res_0_a
  | res_1_b
  | res_1_c
  | res_1_d
  | res_1_e
  | res_1_h
  | res_1_l
  | res_1_mhl
  | res_1_a
  | res_2_b
  | res_2_c
  | res_2_d
  | res_2_e
  | res_2_h
  | res_2_l
  | res_2_mhl
  | res_2_a
  | res_3_b
  | res_3_c
  | res_3_d
  | res_3_e
  | res_3_h
  | res_3_l
  | res_3_mhl
  | res_3_a
  | res_4_b
  | res_4_c
  | res_4_d
  | res_4_e
  | res_4_h
  | res_4_l
  | res_4_mhl
  | res_4_a
  | res_5_b
  | res_5_c
  | res_5_d
  | res_5_e
  | res_5_h
  | res_5_l
  | res_5_mhl
  | res_5_a
  | res_6_b
  | res_6_c
  | res_6_d
  | res_6_e
  | res_6_h
  | res_6_l
  | res_6_mhl
  | res_6_a
  | res_7_b
  | res_7_c
  | res_7_d
  | res_7_e
  | res_7_h
  | res_7_l
  | res_7_mhl
  | res_7_a
  | set_0_b
  | set_0_c
  | set_0_d
  | set_0_e
  | set_0_h
  | set_0_l
  | set_0_mhl
  | set_0_a
  | set_1_b
  | set_1_c
  | set_1_d
  | set_1_e
  | set_1_h
  | set_1_l
  | set_1_mhl
  | set_1_a
  | set_2_b
  | set_2_c
  | set_2_d
  | set_2_e
  | set_2_h
  | set_2_l
  | set_2_mhl
  | set_2_a
  | set_3_b
  | set_3_c
  | set_3_d
  | set_3_e
  | set_3_h
  | set_3_l
  | set_3_mhl
  | set_3_a
  | set_4_b
  | set_4_c
  | set_4_d
  | set_4_e
  | set_4_h
  | set_4_l
  | set_4_mhl
  | set_4_a
  | set_5_b
  | set_5_c
  | set_5_d
  | set_5_e
  | set_5_h
  | set_5_l
  | set_5_mhl
  | set_5_a
  | set_6_b
  | set_6_c
  | set_6_d
  | set_6_e
  | set_6_h
  | set_6_l
  | set_6_mhl
  | set_6_a
  | set_7_b
  | set_7_c
  | set_7_d
  | set_7_e
  | set_7_h
  | set_7_l
  | set_7_mhl
  | set_7_a
  | in_b_portC
  | out_portC_b
  | sbc_hl_bc
  | ld_mnn_bc (nn : Word)
  | neg
  | retn
  | im_0
  | ld_i_a
  | in_c_portC
  | out_portC_c
  | adc_hl_bc
  | ld_bc_mnn (nn : Word)
  | neg_ED4C
  | reti
  | im_0_ED4E
  | ld_r_a
  | in_d_portC
  | out_portC_d
  | sbc_hl_de
  | ld_mnn_de (nn : Word)
  | neg_ED54
  | retn_ED55
  | im_1
  | ld_a_i
  | in_e_portC
  | out_portC_e
  | adc_hl_de
  | ld_de_mnn (nn : Word)
  | neg_ED5C
  | retn_ED5D
  | im_2
  | ld_a_r
  | in_h_portC
  | out_portC_h
  | sbc_hl_hl
  | ld_mnn_hl_ED63 (nn : Word)
  | neg_ED64
  | retn_ED65
  | im_0_ED66
  | rrd
  | in_l_portC
  | out_portC_l
  | adc_hl_hl
  | ld_hl_mnn_ED6B (nn : Word)
  | neg_ED6C
  | retn_ED6D
  | im_0_ED6E
  | rld
  | in_portC
  | out_portC_0
  | sbc_hl_sp
  | ld_mnn_sp (nn : Word)
  | neg_ED74
  | retn_ED75
  | im_1_ED76
  | in_a_portC
  | out_portC_a
  | adc_hl_sp
  | ld_sp_mnn (nn : Word)
  | neg_ED7C
  | retn_ED7D
  | im_2_ED7E
  | ldi
  | cpi
  | ini
  | outi
  | ldd
  | cpd
  | ind
  | outd
  | ldir
  | cpir
  | inir
  | otir
  | lddr
  | cpdr
  | indr
  | otdr
  | add_ix_bc
  | add_ix_de
  | ld_ix_nn (nn : Word)
  | ld_mnn_ix (nn : Word)
  | inc_ix
  | inc_ixh
  | dec_ixh
  | ld_ixh_n (n : Byte)
  | add_ix_ix
  | ld_ix_mnn (nn : Word)
  | dec_ix
  | inc_ixl
  | dec_ixl
  | ld_ixl_n (n : Byte)
  | inc_ixd (d : Byte)
  | dec_ixd (d : Byte)
  | ld_ixd_n (d : Byte) (n : Byte)
  | add_ix_sp
  | ld_b_ixh
  | ld_b_ixl
  | ld_b_ixd (d : Byte)
  | ld_c_ixh
  | ld_c_ixl
  | ld_c_ixd (d : Byte)
  | ld_d_ixh
  | ld_d_ixl
  | ld_d_ixd (d : Byte)
  | ld_e_ixh
  | ld_e_ixl
  | ld_e_ixd (d : Byte)
  | ld_ixh_b
  | ld_ixh_c
  | ld_ixh_d
  | ld_ixh_e
  | ld_ixh_ixh
  | ld_ixh_ixl
  | ld_h_ixd (d : Byte)
  | ld_ixh_a
  | ld_ixl_b
  | ld_ixl_c
  | ld_ixl_d
  | ld_ixl_e
  | ld_ixl_ixh
  | ld_ixl_ixl
  | ld_l_ixd (d : Byte)
  | ld_ixl_a
  | ld_ixd_b (d : Byte)
  | ld_ixd_c (d : Byte)
  | ld_ixd_d (d : Byte)
  | ld_ixd_e (d : Byte)
  | ld_ixd_h (d : Byte)
  | ld_ixd_l (d : Byte)
  | ld_ixd_a (d : Byte)
  | ld_a_ixh
  | ld_a_ixl
  | ld_a_ixd (d : Byte)
  | add_a_ixh
  | add_a_ixl
  | add_a_ixd (d : Byte)
  | adc_a_ixh
  | adc_a_ixl
  | adc_a_ixd (d : Byte)
  | sub_ixh
  | sub_ixl
  | sub_ixd (d : Byte)
  | sbc_a_ixh
  | sbc_a_ixl
  | sbc_a_ixd (d : Byte)
  | and_ixh
  | and_ixl
  | and_ixd (d : Byte)
  | xor_ixh
  | xor_ixl
  | xor_ixd (d : Byte)
  | or_ixh
  | or_ixl
  | or_ixd (d : Byte)
  | cp_ixh
  | cp_ixl
  | cp_ixd (d : Byte)
  | pop_ix
  | ex_msp_ix
  | push_ix
  | jp_ix
  | ld_sp_ix
  | rlc_ixd_b (d : Byte)
  | rlc_ixd_c (d : Byte)
  | rlc_ixd_d (d : Byte)
  | rlc_ixd_e (d : Byte)
  | rlc_ixd_h (d : Byte)
  | rlc_ixd_l (d : Byte)
  | rlc_ixd (d : Byte)
  | rlc_ixd_a (d : Byte)
  | rrc_ixd_b (d : Byte)
  | rrc_ixd_c (d : Byte)
  | rrc_ixd_d (d : Byte)
  | rrc_ixd_e (d : Byte)
  | rrc_ixd_h (d : Byte)
  | rrc_ixd_l (d : Byte)
  | rrc_ixd (d : Byte)
  | rrc_ixd_a (d : Byte)
  | rl_ixd_b (d : Byte)
  | rl_ixd_c (d : Byte)
  | rl_ixd_d (d : Byte)
  | rl_ixd_e (d : Byte)
  | rl_ixd_h (d : Byte)
  | rl_ixd_l (d : Byte)
  | rl_ixd (d : Byte)
  | rl_ixd_a (d : Byte)
  | rr_ixd_b (d : Byte)
  | rr_ixd_c (d : Byte)
  | rr_ixd_d (d : Byte)
  | rr_ixd_e (d : Byte)
  | rr_ixd_h (d : Byte)
  | rr_ixd_l (d : Byte)
  | rr_ixd (d : Byte)
  | rr_ixd_a (d : Byte)
  | sla_ixd_b (d : Byte)
  | sla_ixd_c (d : Byte)
  | sla_ixd_d (d : Byte)
  | sla_ixd_e (d : Byte)
  | sla_ixd_h (d : Byte)
  | sla_ixd_l (d : Byte)
  | sla_ixd (d : Byte)
  | sla_ixd_a (d : Byte)
  | sra_ixd_b (d : Byte)
  | sra_ixd_c (d : Byte)
  | sra_ixd_d (d : Byte)
  | sra_ixd_e (d : Byte)
  | sra_ixd_h (d : Byte)
  | sra_ixd_l (d : Byte)
  | sra_ixd (d : Byte)
  | sra_ixd_a (d : Byte)
  | sll_ixd_b (d : Byte)
  | sll_ixd_c (d : Byte)
  | sll_ixd_d (d : Byte)
  | sll_ixd_e (d : Byte)
  | sll_ixd_h (d : Byte)
  | sll_ixd_l (d : Byte)
  | sll_ixd (d : Byte)
  | sll_ixd_a (d : Byte)
  | srl_ixd_b (d : Byte)
  | srl_ixd_c (d : Byte)
  | srl_ixd_d (d : Byte)
  | srl_ixd_e (d : Byte)
  | srl_ixd_h (d : Byte)
  | srl_ixd_l (d : Byte)
  | srl_ixd (d : Byte)
  | srl_ixd_a (d : Byte)
  | bit_0_ixd_z0 (d : Byte)
  | bit_0_ixd_z1 (d : Byte)
  | bit_0_ixd_z2 (d : Byte)
  | bit_0_ixd_z3 (d : Byte)
  | bit_0_ixd_z4 (d : Byte)
  | bit_0_ixd_z5 (d : Byte)
  | bit_0_ixd (d : Byte)
  | bit_0_ixd_z7 (d : Byte)
  | bit_1_ixd_z0 (d : Byte)
  | bit_1_ixd_z1 (d : Byte)
  | bit_1_ixd_z2 (d : Byte)
  | bit_1_ixd_z3 (d : Byte)
  | bit_1_ixd_z4 (d : Byte)
  | bit_1_ixd_z5 (d : Byte)
  | bit_1_ixd (d : Byte)
  | bit_1_ixd_z7 (d : Byte)
  | bit_2_ixd_z0 (d : Byte)
  | bit_2_ixd_z1 (d : Byte)
  | bit_2_ixd_z2 (d : Byte)
  | bit_2_ixd_z3 (d : Byte)
  | bit_2_ixd_z4 (d : Byte)
  | bit_2_ixd_z5 (d : Byte)
  | bit_2_ixd (d : Byte)
  | bit_2_ixd_z7 (d : Byte)
  | bit_3_ixd_z0 (d : Byte)
  | bit_3_ixd_z1 (d : Byte)
  | bit_3_ixd_z2 (d : Byte)
  | bit_3_ixd_z3 (d : Byte)
  | bit_3_ixd_z4 (d : Byte)
  | bit_3_ixd_z5 (d : Byte)
  | bit_3_ixd (d : Byte)
  | bit_3_ixd_z7 (d : Byte)
  | bit_4_ixd_z0 (d : Byte)
  | bit_4_ixd_z1 (d : Byte)
  | bit_4_ixd_z2 (d : Byte)
  | bit_4_ixd_z3 (d : Byte)
  | bit_4_ixd_z4 (d : Byte)
  | bit_4_ixd_z5 (d : Byte)
  | bit_4_ixd (d : Byte)
  | bit_4_ixd_z7 (d : Byte)
  | bit_5_ixd_z0 (d : Byte)
  | bit_5_ixd_z1 (d : Byte)
  | bit_5_ixd_z2 (d : Byte)
  | bit_5_ixd_z3 (d : Byte)
  | bit_5_ixd_z4 (d : Byte)
  | bit_5_ixd_z5 (d : Byte)
  | bit_5_ixd (d : Byte)
  | bit_5_ixd_z7 (d : Byte)
  | bit_6_ixd_z0 (d : Byte)
  | bit_6_ixd_z1 (d : Byte)
  | bit_6_ixd_z2 (d : Byte)
  | bit_6_ixd_z3 (d : Byte)
  | bit_6_ixd_z4 (d : Byte)
  | bit_6_ixd_z5 (d : Byte)
  | bit_6_ixd (d : Byte)
  | bit_6_ixd_z7 (d : Byte)
  | bit_7_ixd_z0 (d : Byte)
  | bit_7_ixd_z1 (d : Byte)
  | bit_7_ixd_z2 (d : Byte)
  | bit_7_ixd_z3 (d : Byte)
  | bit_7_ixd_z4 (d : Byte)
  | bit_7_ixd_z5 (d : Byte)
  | bit_7_ixd (d : Byte)
  | bit_7_ixd_z7 (d : Byte)
  | res_0_ixd_b (d : Byte)
  | res_0_ixd_c (d : Byte)
  | res_0_ixd_d (d : Byte)
  | res_0_ixd_e (d : Byte)
  | res_0_ixd_h (d : Byte)
  | res_0_ixd_l (d : Byte)
  | res_0_ixd (d : Byte)
  | res_0_ixd_a (d : Byte)
  | res_1_ixd_b (d : Byte)
  | res_1_ixd_c (d : Byte)
  | res_1_ixd_d (d : Byte)
  | res_1_ixd_e (d : Byte)
  | res_1_ixd_h (d : Byte)
  | res_1_ixd_l (d : Byte)
  | res_1_ixd (d : Byte)
  | res_1_ixd_a (d : Byte)
  | res_2_ixd_b (d : Byte)
  | res_2_ixd_c (d : Byte)
  | res_2_ixd_d (d : Byte)
  | res_2_ixd_e (d : Byte)
  | res_2_ixd_h (d : Byte)
  | res_2_ixd_l (d : Byte)
  | res_2_ixd (d : Byte)
  | res_2_ixd_a (d : Byte)
  | res_3_ixd_b (d : Byte)
  | res_3_ixd_c (d : Byte)
  | res_3_ixd_d (d : Byte)
  | res_3_ixd_e (d : Byte)
  | res_3_ixd_h (d : Byte)
  | res_3_ixd_l (d : Byte)
  | res_3_ixd (d : Byte)
  | res_3_ixd_a (d : Byte)
  | res_4_ixd_b (d : Byte)
  | res_4_ixd_c (d : Byte)
  | res_4_ixd_d (d : Byte)
  | res_4_ixd_e (d : Byte)
  | res_4_ixd_h (d : Byte)
  | res_4_ixd_l (d : Byte)
  | res_4_ixd (d : Byte)
  | res_4_ixd_a (d : Byte)
  | res_5_ixd_b (d : Byte)
  | res_5_ixd_c (d : Byte)
  | res_5_ixd_d (d : Byte)
  | res_5_ixd_e (d : Byte)
  | res_5_ixd_h (d : Byte)
  | res_5_ixd_l (d : Byte)
  | res_5_ixd (d : Byte)
  | res_5_ixd_a (d : Byte)
  | res_6_ixd_b (d : Byte)
  | res_6_ixd_c (d : Byte)
  | res_6_ixd_d (d : Byte)
  | res_6_ixd_e (d : Byte)
  | res_6_ixd_h (d : Byte)
  | res_6_ixd_l (d : Byte)
  | res_6_ixd (d : Byte)
  | res_6_ixd_a (d : Byte)
  | res_7_ixd_b (d : Byte)
  | res_7_ixd_c (d : Byte)
  | res_7_ixd_d (d : Byte)
  | res_7_ixd_e (d : Byte)
  | res_7_ixd_h (d : Byte)
  | res_7_ixd_l (d : Byte)
  | res_7_ixd (d : Byte)
  | res_7_ixd_a (d : Byte)
  | set_0_ixd_b (d : Byte)
  | set_0_ixd_c (d : Byte)
  | set_0_ixd_d (d : Byte)
  | set_0_ixd_e (d : Byte)
  | set_0_ixd_h (d : Byte)
  | set_0_ixd_l (d : Byte)
  | set_0_ixd (d : Byte)
  | set_0_ixd_a (d : Byte)
  | set_1_ixd_b (d : Byte)
  | set_1_ixd_c (d : Byte)
  | set_1_ixd_d (d : Byte)
  | set_1_ixd_e (d : Byte)
  | set_1_ixd_h (d : Byte)
  | set_1_ixd_l (d : Byte)
  | set_1_ixd (d : Byte)
  | set_1_ixd_a (d : Byte)
  | set_2_ixd_b (d : Byte)
  | set_2_ixd_c (d : Byte)
  | set_2_ixd_d (d : Byte)
  | set_2_ixd_e (d : Byte)
  | set_2_ixd_h (d : Byte)
  | set_2_ixd_l (d : Byte)
  | set_2_ixd (d : Byte)
  | set_2_ixd_a (d : Byte)
  | set_3_ixd_b (d : Byte)
  | set_3_ixd_c (d : Byte)
  | set_3_ixd_d (d : Byte)
  | set_3_ixd_e (d : Byte)
  | set_3_ixd_h (d : Byte)
  | set_3_ixd_l (d : Byte)
  | set_3_ixd (d : Byte)
  | set_3_ixd_a (d : Byte)
  | set_4_ixd_b (d : Byte)
  | set_4_ixd_c (d : Byte)
  | set_4_ixd_d (d : Byte)
  | set_4_ixd_e (d : Byte)
  | set_4_ixd_h (d : Byte)
  | set_4_ixd_l (d : Byte)
  | set_4_ixd (d : Byte)
  | set_4_ixd_a (d : Byte)
  | set_5_ixd_b (d : Byte)
  | set_5_ixd_c (d : Byte)
  | set_5_ixd_d (d : Byte)
  | set_5_ixd_e (d : Byte)
  | set_5_ixd_h (d : Byte)
  | set_5_ixd_l (d : Byte)
  | set_5_ixd (d : Byte)
  | set_5_ixd_a (d : Byte)
  | set_6_ixd_b (d : Byte)
  | set_6_ixd_c (d : Byte)
  | set_6_ixd_d (d : Byte)
  | set_6_ixd_e (d : Byte)
  | set_6_ixd_h (d : Byte)
  | set_6_ixd_l (d : Byte)
  | set_6_ixd (d : Byte)
  | set_6_ixd_a (d : Byte)
  | set_7_ixd_b (d : Byte)
  | set_7_ixd_c (d : Byte)
  | set_7_ixd_d (d : Byte)
  | set_7_ixd_e (d : Byte)
  | set_7_ixd_h (d : Byte)
  | set_7_ixd_l (d : Byte)
  | set_7_ixd (d : Byte)
  | set_7_ixd_a (d : Byte)
  | add_iy_bc
  | add_iy_de
  | ld_iy_nn (nn : Word)
  | ld_mnn_iy (nn : Word)
  | inc_iy
  | inc_iyh
  | dec_iyh
  | ld_iyh_n (n : Byte)
  | add_iy_iy
  | ld_iy_mnn (nn : Word)
  | dec_iy
  | inc_iyl
  | dec_iyl
  | ld_iyl_n (n : Byte)
  | inc_iyd (d : Byte)
  | dec_iyd (d : Byte)
  | ld_iyd_n (d : Byte) (n : Byte)
  | add_iy_sp
  | ld_b_iyh
  | ld_b_iyl
  | ld_b_iyd (d : Byte)
  | ld_c_iyh
  | ld_c_iyl
  | ld_c_iyd (d : Byte)
  | ld_d_iyh
  | ld_d_iyl
  | ld_d_iyd (d : Byte)
  | ld_e_iyh
  | ld_e_iyl
  | ld_e_iyd (d : Byte)
  | ld_iyh_b
  | ld_iyh_c
  | ld_iyh_d
  | ld_iyh_e
  | ld_iyh_iyh
  | ld_iyh_iyl
  | ld_h_iyd (d : Byte)
  | ld_iyh_a
  | ld_iyl_b
  | ld_iyl_c
  | ld_iyl_d
  | ld_iyl_e
  | ld_iyl_iyh
  | ld_iyl_iyl
  | ld_l_iyd (d : Byte)
  | ld_iyl_a
  | ld_iyd_b (d : Byte)
  | ld_iyd_c (d : Byte)
  | ld_iyd_d (d : Byte)
  | ld_iyd_e (d : Byte)
  | ld_iyd_h (d : Byte)
  | ld_iyd_l (d : Byte)
  | ld_iyd_a (d : Byte)
  | ld_a_iyh
  | ld_a_iyl
  | ld_a_iyd (d : Byte)
  | add_a_iyh
  | add_a_iyl
  | add_a_iyd (d : Byte)
  | adc_a_iyh
  | adc_a_iyl
  | adc_a_iyd (d : Byte)
  | sub_iyh
  | sub_iyl
  | sub_iyd (d : Byte)
  | sbc_a_iyh
  | sbc_a_iyl
  | sbc_a_iyd (d : Byte)
  | and_iyh
  | and_iyl
  | and_iyd (d : Byte)
  | xor_iyh
  | xor_iyl
  | xor_iyd (d : Byte)
  | or_iyh
  | or_iyl
  | or_iyd (d : Byte)
  | cp_iyh
  | cp_iyl
  | cp_iyd (d : Byte)
  | pop_iy
  | ex_msp_iy
  | push_iy
  | jp_iy
  | ld_sp_iy
  | rlc_iyd_b (d : Byte)
  | rlc_iyd_c (d : Byte)
  | rlc_iyd_d (d : Byte)
  | rlc_iyd_e (d : Byte)
  | rlc_iyd_h (d : Byte)
  | rlc_iyd_l (d : Byte)
  | rlc_iyd (d : Byte)
  | rlc_iyd_a (d : Byte)
  | rrc_iyd_b (d : Byte)
  | rrc_iyd_c (d : Byte)
  | rrc_iyd_d (d : Byte)
  | rrc_iyd_e (d : Byte)
  | rrc_iyd_h (d : Byte)
  | rrc_iyd_l (d : Byte)
  | rrc_iyd (d : Byte)
  | rrc_iyd_a (d : Byte)
  | rl_iyd_b (d : Byte)
  | rl_iyd_c (d : Byte)
  | rl_iyd_d (d : Byte)
  | rl_iyd_e (d : Byte)
  | rl_iyd_h (d : Byte)
  | rl_iyd_l (d : Byte)
  | rl_iyd (d : Byte)
  | rl_iyd_a (d : Byte)
  | rr_iyd_b (d : Byte)
  | rr_iyd_c (d : Byte)
  | rr_iyd_d (d : Byte)
  | rr_iyd_e (d : Byte)
  | rr_iyd_h (d : Byte)
  | rr_iyd_l (d : Byte)
  | rr_iyd (d : Byte)
  | rr_iyd_a (d : Byte)
  | sla_iyd_b (d : Byte)
  | sla_iyd_c (d : Byte)
  | sla_iyd_d (d : Byte)
  | sla_iyd_e (d : Byte)
  | sla_iyd_h (d : Byte)
  | sla_iyd_l (d : Byte)
  | sla_iyd (d : Byte)
  | sla_iyd_a (d : Byte)
  | sra_iyd_b (d : Byte)
  | sra_iyd_c (d : Byte)
  | sra_iyd_d (d : Byte)
  | sra_iyd_e (d : Byte)
  | sra_iyd_h (d : Byte)
  | sra_iyd_l (d : Byte)
  | sra_iyd (d : Byte)
  | sra_iyd_a (d : Byte)
  | sll_iyd_b (d : Byte)
  | sll_iyd_c (d : Byte)
  | sll_iyd_d (d : Byte)
  | sll_iyd_e (d : Byte)
  | sll_iyd_h (d : Byte)
  | sll_iyd_l (d : Byte)
  | sll_iyd (d : Byte)
  | sll_iyd_a (d : Byte)
  | srl_iyd_b (d : Byte)
  | srl_iyd_c (d : Byte)
  | srl_iyd_d (d : Byte)
  | srl_iyd_e (d : Byte)
  | srl_iyd_h (d : Byte)
  | srl_iyd_l (d : Byte)
  | srl_iyd (d : Byte)
  | srl_iyd_a (d : Byte)
  | bit_0_iyd_z0 (d : Byte)
  | bit_0_iyd_z1 (d : Byte)
  | bit_0_iyd_z2 (d : Byte)
  | bit_0_iyd_z3 (d : Byte)
  | bit_0_iyd_z4 (d : Byte)
  | bit_0_iyd_z5 (d : Byte)
  | bit_0_iyd (d : Byte)
  | bit_0_iyd_z7 (d : Byte)
  | bit_1_iyd_z0 (d : Byte)
  | bit_1_iyd_z1 (d : Byte)
  | bit_1_iyd_z2 (d : Byte)
  | bit_1_iyd_z3 (d : Byte)
  | bit_1_iyd_z4 (d : Byte)
  | bit_1_iyd_z5 (d : Byte)
  | bit_1_iyd (d : Byte)
  | bit_1_iyd_z7 (d : Byte)
  | bit_2_iyd_z0 (d : Byte)
  | bit_2_iyd_z1 (d : Byte)
  | bit_2_iyd_z2 (d : Byte)
  | bit_2_iyd_z3 (d : Byte)
  | bit_2_iyd_z4 (d : Byte)
  | bit_2_iyd_z5 (d : Byte)
  | bit_2_iyd (d : Byte)
  | bit_2_iyd_z7 (d : Byte)
  | bit_3_iyd_z0 (d : Byte)
  | bit_3_iyd_z1 (d : Byte)
  | bit_3_iyd_z2 (d : Byte)
  | bit_3_iyd_z3 (d : Byte)
  | bit_3_iyd_z4 (d : Byte)
  | bit_3_iyd_z5 (d : Byte)
  | bit_3_iyd (d : Byte)
  | bit_3_iyd_z7 (d : Byte)
  | bit_4_iyd_z0 (d : Byte)
  | bit_4_iyd_z1 (d : Byte)
  | bit_4_iyd_z2 (d : Byte)
  | bit_4_iyd_z3 (d : Byte)
  | bit_4_iyd_z4 (d : Byte)
  | bit_4_iyd_z5 (d : Byte)
  | bit_4_iyd (d : Byte)
  | bit_4_iyd_z7 (d : Byte)
  | bit_5_iyd_z0 (d : Byte)
  | bit_5_iyd_z1 (d : Byte)
  | bit_5_iyd_z2 (d : Byte)
  | bit_5_iyd_z3 (d : Byte)
  | bit_5_iyd_z4 (d : Byte)
  | bit_5_iyd_z5 (d : Byte)
  | bit_5_iyd (d : Byte)
  | bit_5_iyd_z7 (d : Byte)
  | bit_6_iyd_z0 (d : Byte)
  | bit_6_iyd_z1 (d : Byte)
  | bit_6_iyd_z2 (d : Byte)
  | bit_6_iyd_z3 (d : Byte)
  | bit_6_iyd_z4 (d : Byte)
  | bit_6_iyd_z5 (d : Byte)
  | bit_6_iyd (d : Byte)
  | bit_6_iyd_z7 (d : Byte)
  | bit_7_iyd_z0 (d : Byte)
  | bit_7_iyd_z1 (d : Byte)
  | bit_7_iyd_z2 (d : Byte)
  | bit_7_iyd_z3 (d : Byte)
  | bit_7_iyd_z4 (d : Byte)
  | bit_7_iyd_z5 (d : Byte)
  | bit_7_iyd (d : Byte)
  | bit_7_iyd_z7 (d : Byte)
  | res_0_iyd_b (d : Byte)
  | res_0_iyd_c (d : Byte)
  | res_0_iyd_d (d : Byte)
  | res_0_iyd_e (d : Byte)
  | res_0_iyd_h (d : Byte)
  | res_0_iyd_l (d : Byte)
  | res_0_iyd (d : Byte)
  | res_0_iyd_a (d : Byte)
  | res_1_iyd_b (d : Byte)
  | res_1_iyd_c (d : Byte)
  | res_1_iyd_d (d : Byte)
  | res_1_iyd_e (d : Byte)
  | res_1_iyd_h (d : Byte)
  | res_1_iyd_l (d : Byte)
  | res_1_iyd (d : Byte)
  | res_1_iyd_a (d : Byte)
  | res_2_iyd_b (d : Byte)
  | res_2_iyd_c (d : Byte)
  | res_2_iyd_d (d : Byte)
  | res_2_iyd_e (d : Byte)
  | res_2_iyd_h (d : Byte)
  | res_2_iyd_l (d : Byte)
  | res_2_iyd (d : Byte)
  | res_2_iyd_a (d : Byte)
  | res_3_iyd_b (d : Byte)
  | res_3_iyd_c (d : Byte)
  | res_3_iyd_d (d : Byte)
  | res_3_iyd_e (d : Byte)
  | res_3_iyd_h (d : Byte)
  | res_3_iyd_l (d : Byte)
  | res_3_iyd (d : Byte)
  | res_3_iyd_a (d : Byte)
  | res_4_iyd_b (d : Byte)
  | res_4_iyd_c (d : Byte)
  | res_4_iyd_d (d : Byte)
  | res_4_iyd_e (d : Byte)
  | res_4_iyd_h (d : Byte)
  | res_4_iyd_l (d : Byte)
  | res_4_iyd (d : Byte)
  | res_4_iyd_a (d : Byte)
  | res_5_iyd_b (d : Byte)
  | res_5_iyd_c (d : Byte)
  | res_5_iyd_d (d : Byte)
  | res_5_iyd_e (d : Byte)
  | res_5_iyd_h (d : Byte)
  | res_5_iyd_l (d : Byte)
  | res_5_iyd (d : Byte)
  | res_5_iyd_a (d : Byte)
  | res_6_iyd_b (d : Byte)
  | res_6_iyd_c (d : Byte)
  | res_6_iyd_d (d : Byte)
  | res_6_iyd_e (d : Byte)
  | res_6_iyd_h (d : Byte)
  | res_6_iyd_l (d : Byte)
  | res_6_iyd (d : Byte)
  | res_6_iyd_a (d : Byte)
  | res_7_iyd_b (d : Byte)
  | res_7_iyd_c (d : Byte)
  | res_7_iyd_d (d : Byte)
  | res_7_iyd_e (d : Byte)
  | res_7_iyd_h (d : Byte)
  | res_7_iyd_l (d : Byte)
  | res_7_iyd (d : Byte)
  | res_7_iyd_a (d : Byte)
  | set_0_iyd_b (d : Byte)
  | set_0_iyd_c (d : Byte)
  | set_0_iyd_d (d : Byte)
  | set_0_iyd_e (d : Byte)
  | set_0_iyd_h (d : Byte)
  | set_0_iyd_l (d : Byte)
  | set_0_iyd (d : Byte)
  | set_0_iyd_a (d : Byte)
  | set_1_iyd_b (d : Byte)
  | set_1_iyd_c (d : Byte)
  | set_1_iyd_d (d : Byte)
  | set_1_iyd_e (d : Byte)
  | set_1_iyd_h (d : Byte)
  | set_1_iyd_l (d : Byte)
  | set_1_iyd (d : Byte)
  | set_1_iyd_a (d : Byte)
  | set_2_iyd_b (d : Byte)
  | set_2_iyd_c (d : Byte)
  | set_2_iyd_d (d : Byte)
  | set_2_iyd_e (d : Byte)
  | set_2_iyd_h (d : Byte)
  | set_2_iyd_l (d : Byte)
  | set_2_iyd (d : Byte)
  | set_2_iyd_a (d : Byte)
  | set_3_iyd_b (d : Byte)
  | set_3_iyd_c (d : Byte)
  | set_3_iyd_d (d : Byte)
  | set_3_iyd_e (d : Byte)
  | set_3_iyd_h (d : Byte)
  | set_3_iyd_l (d : Byte)
  | set_3_iyd (d : Byte)
  | set_3_iyd_a (d : Byte)
  | set_4_iyd_b (d : Byte)
  | set_4_iyd_c (d : Byte)
  | set_4_iyd_d (d : Byte)
  | set_4_iyd_e (d : Byte)
  | set_4_iyd_h (d : Byte)
  | set_4_iyd_l (d : Byte)
  | set_4_iyd (d : Byte)
  | set_4_iyd_a (d : Byte)
  | set_5_iyd_b (d : Byte)
  | set_5_iyd_c (d : Byte)
  | set_5_iyd_d (d : Byte)
  | set_5_iyd_e (d : Byte)
  | set_5_iyd_h (d : Byte)
  | set_5_iyd_l (d : Byte)
  | set_5_iyd (d : Byte)
  | set_5_iyd_a (d : Byte)
  | set_6_iyd_b (d : Byte)
  | set_6_iyd_c (d : Byte)
  | set_6_iyd_d (d : Byte)
  | set_6_iyd_e (d : Byte)
  | set_6_iyd_h (d : Byte)
  | set_6_iyd_l (d : Byte)
  | set_6_iyd (d : Byte)
  | set_6_iyd_a (d : Byte)
  | set_7_iyd_b (d : Byte)
  | set_7_iyd_c (d : Byte)
  | set_7_iyd_d (d : Byte)
  | set_7_iyd_e (d : Byte)
  | set_7_iyd_h (d : Byte)
  | set_7_iyd_l (d : Byte)
  | set_7_iyd (d : Byte)
  | set_7_iyd_a (d : Byte)
  deriving DecidableEq, Repr

end Sys2Proof
end

