-- ==== Sys2Proof/Machine/Families.lean ====
section
/-! DEFINITION. The instructions by operand: for each family of rows, the function from its operands to
the row's instruction (the field decomposition of spec/30_encoding.md R119 to R123 and the operand
forms of R260 and R343), and `Form`, the families and the rows that stand alone as one type. Decoding
goes by forms, and statements about a family quantify over its operands.

The functions into `Instr` are marked `noncomputable` for one reason: Lean's code generator cannot
build a constructor numbered above 244 that carries an operand. The kernel evaluates them as it does
any definition. -/

namespace Sys2Proof

/-- The rows of `loadRegReg` (R200). -/
noncomputable def Instr.ldRR (dst : R8) (src : R8) : Instr :=
  match dst, src with
  | .b, .b => .ld_b_b
  | .b, .c => .ld_b_c
  | .b, .d => .ld_b_d
  | .b, .e => .ld_b_e
  | .b, .h => .ld_b_h
  | .b, .l => .ld_b_l
  | .b, .a => .ld_b_a
  | .c, .b => .ld_c_b
  | .c, .c => .ld_c_c
  | .c, .d => .ld_c_d
  | .c, .e => .ld_c_e
  | .c, .h => .ld_c_h
  | .c, .l => .ld_c_l
  | .c, .a => .ld_c_a
  | .d, .b => .ld_d_b
  | .d, .c => .ld_d_c
  | .d, .d => .ld_d_d
  | .d, .e => .ld_d_e
  | .d, .h => .ld_d_h
  | .d, .l => .ld_d_l
  | .d, .a => .ld_d_a
  | .e, .b => .ld_e_b
  | .e, .c => .ld_e_c
  | .e, .d => .ld_e_d
  | .e, .e => .ld_e_e
  | .e, .h => .ld_e_h
  | .e, .l => .ld_e_l
  | .e, .a => .ld_e_a
  | .h, .b => .ld_h_b
  | .h, .c => .ld_h_c
  | .h, .d => .ld_h_d
  | .h, .e => .ld_h_e
  | .h, .h => .ld_h_h
  | .h, .l => .ld_h_l
  | .h, .a => .ld_h_a
  | .l, .b => .ld_l_b
  | .l, .c => .ld_l_c
  | .l, .d => .ld_l_d
  | .l, .e => .ld_l_e
  | .l, .h => .ld_l_h
  | .l, .l => .ld_l_l
  | .l, .a => .ld_l_a
  | .a, .b => .ld_a_b
  | .a, .c => .ld_a_c
  | .a, .d => .ld_a_d
  | .a, .e => .ld_a_e
  | .a, .h => .ld_a_h
  | .a, .l => .ld_a_l
  | .a, .a => .ld_a_a

/-- The rows of `loadRegImm` (R201). -/
noncomputable def Instr.ldRN (r : R8) (n : Byte) : Instr :=
  match r with
  | .b => .ld_b_n n
  | .c => .ld_c_n n
  | .d => .ld_d_n n
  | .e => .ld_e_n n
  | .h => .ld_h_n n
  | .l => .ld_l_n n
  | .a => .ld_a_n n

/-- The rows of `loadRegHl` (R202). -/
noncomputable def Instr.ldRHl (r : R8) : Instr :=
  match r with
  | .b => .ld_b_mhl
  | .c => .ld_c_mhl
  | .d => .ld_d_mhl
  | .e => .ld_e_mhl
  | .h => .ld_h_mhl
  | .l => .ld_l_mhl
  | .a => .ld_a_mhl

/-- The rows of `loadRegIdx` (R203). -/
noncomputable def Instr.ldRXy (r : R8) (xy : Xy) (d : Byte) : Instr :=
  match r, xy with
  | .b, .ix => .ld_b_ixd d
  | .c, .ix => .ld_c_ixd d
  | .d, .ix => .ld_d_ixd d
  | .e, .ix => .ld_e_ixd d
  | .h, .ix => .ld_h_ixd d
  | .l, .ix => .ld_l_ixd d
  | .a, .ix => .ld_a_ixd d
  | .b, .iy => .ld_b_iyd d
  | .c, .iy => .ld_c_iyd d
  | .d, .iy => .ld_d_iyd d
  | .e, .iy => .ld_e_iyd d
  | .h, .iy => .ld_h_iyd d
  | .l, .iy => .ld_l_iyd d
  | .a, .iy => .ld_a_iyd d

/-- The rows of `storeHlReg` (R204). -/
noncomputable def Instr.ldHlR (r : R8) : Instr :=
  match r with
  | .b => .ld_mhl_b
  | .c => .ld_mhl_c
  | .d => .ld_mhl_d
  | .e => .ld_mhl_e
  | .h => .ld_mhl_h
  | .l => .ld_mhl_l
  | .a => .ld_mhl_a

/-- The rows of `storeIdxReg` (R205). -/
noncomputable def Instr.ldXyR (xy : Xy) (d : Byte) (r : R8) : Instr :=
  match xy, r with
  | .ix, .b => .ld_ixd_b d
  | .ix, .c => .ld_ixd_c d
  | .ix, .d => .ld_ixd_d d
  | .ix, .e => .ld_ixd_e d
  | .ix, .h => .ld_ixd_h d
  | .ix, .l => .ld_ixd_l d
  | .ix, .a => .ld_ixd_a d
  | .iy, .b => .ld_iyd_b d
  | .iy, .c => .ld_iyd_c d
  | .iy, .d => .ld_iyd_d d
  | .iy, .e => .ld_iyd_e d
  | .iy, .h => .ld_iyd_h d
  | .iy, .l => .ld_iyd_l d
  | .iy, .a => .ld_iyd_a d

/-- The rows of `storeIdxImm` (R207). -/
noncomputable def Instr.ldXyN (xy : Xy) (d : Byte) (n : Byte) : Instr :=
  match xy with
  | .ix => .ld_ixd_n d n
  | .iy => .ld_iyd_n d n

/-- The rows of `loadPlainHalf` (R214). -/
noncomputable def Instr.ldPlainHalf (r : Plain) (xy : Xy) (h : Half) : Instr :=
  match r, xy, h with
  | .b, .ix, .hi => .ld_b_ixh
  | .b, .ix, .lo => .ld_b_ixl
  | .c, .ix, .hi => .ld_c_ixh
  | .c, .ix, .lo => .ld_c_ixl
  | .d, .ix, .hi => .ld_d_ixh
  | .d, .ix, .lo => .ld_d_ixl
  | .e, .ix, .hi => .ld_e_ixh
  | .e, .ix, .lo => .ld_e_ixl
  | .a, .ix, .hi => .ld_a_ixh
  | .a, .ix, .lo => .ld_a_ixl
  | .b, .iy, .hi => .ld_b_iyh
  | .b, .iy, .lo => .ld_b_iyl
  | .c, .iy, .hi => .ld_c_iyh
  | .c, .iy, .lo => .ld_c_iyl
  | .d, .iy, .hi => .ld_d_iyh
  | .d, .iy, .lo => .ld_d_iyl
  | .e, .iy, .hi => .ld_e_iyh
  | .e, .iy, .lo => .ld_e_iyl
  | .a, .iy, .hi => .ld_a_iyh
  | .a, .iy, .lo => .ld_a_iyl

/-- The rows of `loadHalfPlain` (R214). -/
noncomputable def Instr.ldHalfPlain (xy : Xy) (h : Half) (r : Plain) : Instr :=
  match xy, h, r with
  | .ix, .hi, .b => .ld_ixh_b
  | .ix, .hi, .c => .ld_ixh_c
  | .ix, .hi, .d => .ld_ixh_d
  | .ix, .hi, .e => .ld_ixh_e
  | .ix, .hi, .a => .ld_ixh_a
  | .ix, .lo, .b => .ld_ixl_b
  | .ix, .lo, .c => .ld_ixl_c
  | .ix, .lo, .d => .ld_ixl_d
  | .ix, .lo, .e => .ld_ixl_e
  | .ix, .lo, .a => .ld_ixl_a
  | .iy, .hi, .b => .ld_iyh_b
  | .iy, .hi, .c => .ld_iyh_c
  | .iy, .hi, .d => .ld_iyh_d
  | .iy, .hi, .e => .ld_iyh_e
  | .iy, .hi, .a => .ld_iyh_a
  | .iy, .lo, .b => .ld_iyl_b
  | .iy, .lo, .c => .ld_iyl_c
  | .iy, .lo, .d => .ld_iyl_d
  | .iy, .lo, .e => .ld_iyl_e
  | .iy, .lo, .a => .ld_iyl_a

/-- The rows of `loadHalfHalf` (R214). -/
noncomputable def Instr.ldHalfHalf (xy : Xy) (h : Half) (k : Half) : Instr :=
  match xy, h, k with
  | .ix, .hi, .hi => .ld_ixh_ixh
  | .ix, .hi, .lo => .ld_ixh_ixl
  | .ix, .lo, .hi => .ld_ixl_ixh
  | .ix, .lo, .lo => .ld_ixl_ixl
  | .iy, .hi, .hi => .ld_iyh_iyh
  | .iy, .hi, .lo => .ld_iyh_iyl
  | .iy, .lo, .hi => .ld_iyl_iyh
  | .iy, .lo, .lo => .ld_iyl_iyl

/-- The rows of `loadHalfImm` (R215). -/
noncomputable def Instr.ldHalfN (xy : Xy) (h : Half) (n : Byte) : Instr :=
  match xy, h with
  | .ix, .hi => .ld_ixh_n n
  | .ix, .lo => .ld_ixl_n n
  | .iy, .hi => .ld_iyh_n n
  | .iy, .lo => .ld_iyl_n n

/-- The rows of `loadPairImm` (R225). -/
noncomputable def Instr.ldPairNn (p : Pair) (nn : Word) : Instr :=
  match p with
  | .bc => .ld_bc_nn nn
  | .de => .ld_de_nn nn
  | .hl => .ld_hl_nn nn
  | .sp => .ld_sp_nn nn

/-- The rows of `loadXyImm` (R226). -/
noncomputable def Instr.ldXyNn (xy : Xy) (nn : Word) : Instr :=
  match xy with
  | .ix => .ld_ix_nn nn
  | .iy => .ld_iy_nn nn

/-- The rows of `loadPairDirect` (R228). -/
noncomputable def Instr.ldPairMnn (p : Pair) (nn : Word) : Instr :=
  match p with
  | .bc => .ld_bc_mnn nn
  | .de => .ld_de_mnn nn
  | .hl => .ld_hl_mnn_ED6B nn
  | .sp => .ld_sp_mnn nn

/-- The rows of `loadXyDirect` (R229). -/
noncomputable def Instr.ldXyMnn (xy : Xy) (nn : Word) : Instr :=
  match xy with
  | .ix => .ld_ix_mnn nn
  | .iy => .ld_iy_mnn nn

/-- The rows of `storePairDirect` (R231). -/
noncomputable def Instr.ldMnnPair (nn : Word) (p : Pair) : Instr :=
  match p with
  | .bc => .ld_mnn_bc nn
  | .de => .ld_mnn_de nn
  | .hl => .ld_mnn_hl_ED63 nn
  | .sp => .ld_mnn_sp nn

/-- The rows of `storeXyDirect` (R232). -/
noncomputable def Instr.ldMnnXy (nn : Word) (xy : Xy) : Instr :=
  match xy with
  | .ix => .ld_mnn_ix nn
  | .iy => .ld_mnn_iy nn

/-- The rows of `loadSpXy` (R234). -/
noncomputable def Instr.ldSpXy (xy : Xy) : Instr :=
  match xy with
  | .ix => .ld_sp_ix
  | .iy => .ld_sp_iy

/-- The rows of `exchangeStackXy` (R242). -/
noncomputable def Instr.exSpXy (xy : Xy) : Instr :=
  match xy with
  | .ix => .ex_msp_ix
  | .iy => .ex_msp_iy

/-- The rows of `aluAccumulator` (R261, R262, R263, R264, R265, R266, R267, R268). -/
noncomputable def Instr.alu (op : AluOp) (src : Src8) : Instr :=
  match op, src with
  | .add, .r .b => .add_a_b
  | .add, .r .c => .add_a_c
  | .add, .r .d => .add_a_d
  | .add, .r .e => .add_a_e
  | .add, .r .h => .add_a_h
  | .add, .r .l => .add_a_l
  | .add, .hl => .add_a_mhl
  | .add, .r .a => .add_a_a
  | .adc, .r .b => .adc_a_b
  | .adc, .r .c => .adc_a_c
  | .adc, .r .d => .adc_a_d
  | .adc, .r .e => .adc_a_e
  | .adc, .r .h => .adc_a_h
  | .adc, .r .l => .adc_a_l
  | .adc, .hl => .adc_a_mhl
  | .adc, .r .a => .adc_a_a
  | .sub, .r .b => .sub_b
  | .sub, .r .c => .sub_c
  | .sub, .r .d => .sub_d
  | .sub, .r .e => .sub_e
  | .sub, .r .h => .sub_h
  | .sub, .r .l => .sub_l
  | .sub, .hl => .sub_mhl
  | .sub, .r .a => .sub_a
  | .sbc, .r .b => .sbc_a_b
  | .sbc, .r .c => .sbc_a_c
  | .sbc, .r .d => .sbc_a_d
  | .sbc, .r .e => .sbc_a_e
  | .sbc, .r .h => .sbc_a_h
  | .sbc, .r .l => .sbc_a_l
  | .sbc, .hl => .sbc_a_mhl
  | .sbc, .r .a => .sbc_a_a
  | .and, .r .b => .and_b
  | .and, .r .c => .and_c
  | .and, .r .d => .and_d
  | .and, .r .e => .and_e
  | .and, .r .h => .and_h
  | .and, .r .l => .and_l
  | .and, .hl => .and_mhl
  | .and, .r .a => .and_a
  | .xor, .r .b => .xor_b
  | .xor, .r .c => .xor_c
  | .xor, .r .d => .xor_d
  | .xor, .r .e => .xor_e
  | .xor, .r .h => .xor_h
  | .xor, .r .l => .xor_l
  | .xor, .hl => .xor_mhl
  | .xor, .r .a => .xor_a
  | .or, .r .b => .or_b
  | .or, .r .c => .or_c
  | .or, .r .d => .or_d
  | .or, .r .e => .or_e
  | .or, .r .h => .or_h
  | .or, .r .l => .or_l
  | .or, .hl => .or_mhl
  | .or, .r .a => .or_a
  | .cp, .r .b => .cp_b
  | .cp, .r .c => .cp_c
  | .cp, .r .d => .cp_d
  | .cp, .r .e => .cp_e
  | .cp, .r .h => .cp_h
  | .cp, .r .l => .cp_l
  | .cp, .hl => .cp_mhl
  | .cp, .r .a => .cp_a
  | .add, .n n => .add_a_n n
  | .adc, .n n => .adc_a_n n
  | .sub, .n n => .sub_n n
  | .sbc, .n n => .sbc_a_n n
  | .and, .n n => .and_n n
  | .xor, .n n => .xor_n n
  | .or, .n n => .or_n n
  | .cp, .n n => .cp_n n
  | .add, .half .ix .hi => .add_a_ixh
  | .add, .half .ix .lo => .add_a_ixl
  | .add, .idx .ix d => .add_a_ixd d
  | .adc, .half .ix .hi => .adc_a_ixh
  | .adc, .half .ix .lo => .adc_a_ixl
  | .adc, .idx .ix d => .adc_a_ixd d
  | .sub, .half .ix .hi => .sub_ixh
  | .sub, .half .ix .lo => .sub_ixl
  | .sub, .idx .ix d => .sub_ixd d
  | .sbc, .half .ix .hi => .sbc_a_ixh
  | .sbc, .half .ix .lo => .sbc_a_ixl
  | .sbc, .idx .ix d => .sbc_a_ixd d
  | .and, .half .ix .hi => .and_ixh
  | .and, .half .ix .lo => .and_ixl
  | .and, .idx .ix d => .and_ixd d
  | .xor, .half .ix .hi => .xor_ixh
  | .xor, .half .ix .lo => .xor_ixl
  | .xor, .idx .ix d => .xor_ixd d
  | .or, .half .ix .hi => .or_ixh
  | .or, .half .ix .lo => .or_ixl
  | .or, .idx .ix d => .or_ixd d
  | .cp, .half .ix .hi => .cp_ixh
  | .cp, .half .ix .lo => .cp_ixl
  | .cp, .idx .ix d => .cp_ixd d
  | .add, .half .iy .hi => .add_a_iyh
  | .add, .half .iy .lo => .add_a_iyl
  | .add, .idx .iy d => .add_a_iyd d
  | .adc, .half .iy .hi => .adc_a_iyh
  | .adc, .half .iy .lo => .adc_a_iyl
  | .adc, .idx .iy d => .adc_a_iyd d
  | .sub, .half .iy .hi => .sub_iyh
  | .sub, .half .iy .lo => .sub_iyl
  | .sub, .idx .iy d => .sub_iyd d
  | .sbc, .half .iy .hi => .sbc_a_iyh
  | .sbc, .half .iy .lo => .sbc_a_iyl
  | .sbc, .idx .iy d => .sbc_a_iyd d
  | .and, .half .iy .hi => .and_iyh
  | .and, .half .iy .lo => .and_iyl
  | .and, .idx .iy d => .and_iyd d
  | .xor, .half .iy .hi => .xor_iyh
  | .xor, .half .iy .lo => .xor_iyl
  | .xor, .idx .iy d => .xor_iyd d
  | .or, .half .iy .hi => .or_iyh
  | .or, .half .iy .lo => .or_iyl
  | .or, .idx .iy d => .or_iyd d
  | .cp, .half .iy .hi => .cp_iyh
  | .cp, .half .iy .lo => .cp_iyl
  | .cp, .idx .iy d => .cp_iyd d

/-- The rows of `increment8` (R269, R270, R271, R275). -/
noncomputable def Instr.inc8 (dst : Dst8) : Instr :=
  match dst with
  | .r .b => .inc_b
  | .r .c => .inc_c
  | .r .d => .inc_d
  | .r .e => .inc_e
  | .r .h => .inc_h
  | .r .l => .inc_l
  | .hl => .inc_mhl
  | .r .a => .inc_a
  | .half .ix .hi => .inc_ixh
  | .half .ix .lo => .inc_ixl
  | .idx .ix d => .inc_ixd d
  | .half .iy .hi => .inc_iyh
  | .half .iy .lo => .inc_iyl
  | .idx .iy d => .inc_iyd d

/-- The rows of `decrement8` (R272, R273, R274, R276). -/
noncomputable def Instr.dec8 (dst : Dst8) : Instr :=
  match dst with
  | .r .b => .dec_b
  | .r .c => .dec_c
  | .r .d => .dec_d
  | .r .e => .dec_e
  | .r .h => .dec_h
  | .r .l => .dec_l
  | .hl => .dec_mhl
  | .r .a => .dec_a
  | .half .ix .hi => .dec_ixh
  | .half .ix .lo => .dec_ixl
  | .idx .ix d => .dec_ixd d
  | .half .iy .hi => .dec_iyh
  | .half .iy .lo => .dec_iyl
  | .idx .iy d => .dec_iyd d

/-- The rows of `addHlPair` (R300). -/
noncomputable def Instr.addHl (p : Pair) : Instr :=
  match p with
  | .bc => .add_hl_bc
  | .de => .add_hl_de
  | .hl => .add_hl_hl
  | .sp => .add_hl_sp

/-- The rows of `addXyPair` (R301). -/
noncomputable def Instr.addXy (xy : Xy) (p : AddPair) : Instr :=
  match xy, p with
  | .ix, .bc => .add_ix_bc
  | .ix, .de => .add_ix_de
  | .ix, .xy => .add_ix_ix
  | .ix, .sp => .add_ix_sp
  | .iy, .bc => .add_iy_bc
  | .iy, .de => .add_iy_de
  | .iy, .xy => .add_iy_iy
  | .iy, .sp => .add_iy_sp

/-- The rows of `adcHlPair` (R302). -/
noncomputable def Instr.adcHl (p : Pair) : Instr :=
  match p with
  | .bc => .adc_hl_bc
  | .de => .adc_hl_de
  | .hl => .adc_hl_hl
  | .sp => .adc_hl_sp

/-- The rows of `sbcHlPair` (R303). -/
noncomputable def Instr.sbcHl (p : Pair) : Instr :=
  match p with
  | .bc => .sbc_hl_bc
  | .de => .sbc_hl_de
  | .hl => .sbc_hl_hl
  | .sp => .sbc_hl_sp

/-- The rows of `incrementPair` (R304). -/
noncomputable def Instr.incPair (p : Pair) : Instr :=
  match p with
  | .bc => .inc_bc
  | .de => .inc_de
  | .hl => .inc_hl
  | .sp => .inc_sp

/-- The rows of `decrementPair` (R305). -/
noncomputable def Instr.decPair (p : Pair) : Instr :=
  match p with
  | .bc => .dec_bc
  | .de => .dec_de
  | .hl => .dec_hl
  | .sp => .dec_sp

/-- The rows of `incrementXy` (R306). -/
noncomputable def Instr.incXy (xy : Xy) : Instr :=
  match xy with
  | .ix => .inc_ix
  | .iy => .inc_iy

/-- The rows of `decrementXy` (R307). -/
noncomputable def Instr.decXy (xy : Xy) : Instr :=
  match xy with
  | .ix => .dec_ix
  | .iy => .dec_iy

/-- The rows of `negate` (R310). -/
noncomputable def Instr.negRow (y : BitNo) : Instr :=
  match y with
  | .b0 => .neg
  | .b1 => .neg_ED4C
  | .b2 => .neg_ED54
  | .b3 => .neg_ED5C
  | .b4 => .neg_ED64
  | .b5 => .neg_ED6C
  | .b6 => .neg_ED74
  | .b7 => .neg_ED7C

/-- The rows of `rotateShift` (R335, R336, R337, R338, R339, R340, R341, R342, R351). -/
noncomputable def Instr.rot (op : RotOp) (m : M8) : Instr :=
  match op, m with
  | .rlc, .r .b => .rlc_b
  | .rlc, .r .c => .rlc_c
  | .rlc, .r .d => .rlc_d
  | .rlc, .r .e => .rlc_e
  | .rlc, .r .h => .rlc_h
  | .rlc, .r .l => .rlc_l
  | .rlc, .hl => .rlc_mhl
  | .rlc, .r .a => .rlc_a
  | .rrc, .r .b => .rrc_b
  | .rrc, .r .c => .rrc_c
  | .rrc, .r .d => .rrc_d
  | .rrc, .r .e => .rrc_e
  | .rrc, .r .h => .rrc_h
  | .rrc, .r .l => .rrc_l
  | .rrc, .hl => .rrc_mhl
  | .rrc, .r .a => .rrc_a
  | .rl, .r .b => .rl_b
  | .rl, .r .c => .rl_c
  | .rl, .r .d => .rl_d
  | .rl, .r .e => .rl_e
  | .rl, .r .h => .rl_h
  | .rl, .r .l => .rl_l
  | .rl, .hl => .rl_mhl
  | .rl, .r .a => .rl_a
  | .rr, .r .b => .rr_b
  | .rr, .r .c => .rr_c
  | .rr, .r .d => .rr_d
  | .rr, .r .e => .rr_e
  | .rr, .r .h => .rr_h
  | .rr, .r .l => .rr_l
  | .rr, .hl => .rr_mhl
  | .rr, .r .a => .rr_a
  | .sla, .r .b => .sla_b
  | .sla, .r .c => .sla_c
  | .sla, .r .d => .sla_d
  | .sla, .r .e => .sla_e
  | .sla, .r .h => .sla_h
  | .sla, .r .l => .sla_l
  | .sla, .hl => .sla_mhl
  | .sla, .r .a => .sla_a
  | .sra, .r .b => .sra_b
  | .sra, .r .c => .sra_c
  | .sra, .r .d => .sra_d
  | .sra, .r .e => .sra_e
  | .sra, .r .h => .sra_h
  | .sra, .r .l => .sra_l
  | .sra, .hl => .sra_mhl
  | .sra, .r .a => .sra_a
  | .sll, .r .b => .sll_b
  | .sll, .r .c => .sll_c
  | .sll, .r .d => .sll_d
  | .sll, .r .e => .sll_e
  | .sll, .r .h => .sll_h
  | .sll, .r .l => .sll_l
  | .sll, .hl => .sll_mhl
  | .sll, .r .a => .sll_a
  | .srl, .r .b => .srl_b
  | .srl, .r .c => .srl_c
  | .srl, .r .d => .srl_d
  | .srl, .r .e => .srl_e
  | .srl, .r .h => .srl_h
  | .srl, .r .l => .srl_l
  | .srl, .hl => .srl_mhl
  | .srl, .r .a => .srl_a
  | .rlc, .idxCopy .ix d .b => .rlc_ixd_b d
  | .rlc, .idxCopy .ix d .c => .rlc_ixd_c d
  | .rlc, .idxCopy .ix d .d => .rlc_ixd_d d
  | .rlc, .idxCopy .ix d .e => .rlc_ixd_e d
  | .rlc, .idxCopy .ix d .h => .rlc_ixd_h d
  | .rlc, .idxCopy .ix d .l => .rlc_ixd_l d
  | .rlc, .idx .ix d => .rlc_ixd d
  | .rlc, .idxCopy .ix d .a => .rlc_ixd_a d
  | .rrc, .idxCopy .ix d .b => .rrc_ixd_b d
  | .rrc, .idxCopy .ix d .c => .rrc_ixd_c d
  | .rrc, .idxCopy .ix d .d => .rrc_ixd_d d
  | .rrc, .idxCopy .ix d .e => .rrc_ixd_e d
  | .rrc, .idxCopy .ix d .h => .rrc_ixd_h d
  | .rrc, .idxCopy .ix d .l => .rrc_ixd_l d
  | .rrc, .idx .ix d => .rrc_ixd d
  | .rrc, .idxCopy .ix d .a => .rrc_ixd_a d
  | .rl, .idxCopy .ix d .b => .rl_ixd_b d
  | .rl, .idxCopy .ix d .c => .rl_ixd_c d
  | .rl, .idxCopy .ix d .d => .rl_ixd_d d
  | .rl, .idxCopy .ix d .e => .rl_ixd_e d
  | .rl, .idxCopy .ix d .h => .rl_ixd_h d
  | .rl, .idxCopy .ix d .l => .rl_ixd_l d
  | .rl, .idx .ix d => .rl_ixd d
  | .rl, .idxCopy .ix d .a => .rl_ixd_a d
  | .rr, .idxCopy .ix d .b => .rr_ixd_b d
  | .rr, .idxCopy .ix d .c => .rr_ixd_c d
  | .rr, .idxCopy .ix d .d => .rr_ixd_d d
  | .rr, .idxCopy .ix d .e => .rr_ixd_e d
  | .rr, .idxCopy .ix d .h => .rr_ixd_h d
  | .rr, .idxCopy .ix d .l => .rr_ixd_l d
  | .rr, .idx .ix d => .rr_ixd d
  | .rr, .idxCopy .ix d .a => .rr_ixd_a d
  | .sla, .idxCopy .ix d .b => .sla_ixd_b d
  | .sla, .idxCopy .ix d .c => .sla_ixd_c d
  | .sla, .idxCopy .ix d .d => .sla_ixd_d d
  | .sla, .idxCopy .ix d .e => .sla_ixd_e d
  | .sla, .idxCopy .ix d .h => .sla_ixd_h d
  | .sla, .idxCopy .ix d .l => .sla_ixd_l d
  | .sla, .idx .ix d => .sla_ixd d
  | .sla, .idxCopy .ix d .a => .sla_ixd_a d
  | .sra, .idxCopy .ix d .b => .sra_ixd_b d
  | .sra, .idxCopy .ix d .c => .sra_ixd_c d
  | .sra, .idxCopy .ix d .d => .sra_ixd_d d
  | .sra, .idxCopy .ix d .e => .sra_ixd_e d
  | .sra, .idxCopy .ix d .h => .sra_ixd_h d
  | .sra, .idxCopy .ix d .l => .sra_ixd_l d
  | .sra, .idx .ix d => .sra_ixd d
  | .sra, .idxCopy .ix d .a => .sra_ixd_a d
  | .sll, .idxCopy .ix d .b => .sll_ixd_b d
  | .sll, .idxCopy .ix d .c => .sll_ixd_c d
  | .sll, .idxCopy .ix d .d => .sll_ixd_d d
  | .sll, .idxCopy .ix d .e => .sll_ixd_e d
  | .sll, .idxCopy .ix d .h => .sll_ixd_h d
  | .sll, .idxCopy .ix d .l => .sll_ixd_l d
  | .sll, .idx .ix d => .sll_ixd d
  | .sll, .idxCopy .ix d .a => .sll_ixd_a d
  | .srl, .idxCopy .ix d .b => .srl_ixd_b d
  | .srl, .idxCopy .ix d .c => .srl_ixd_c d
  | .srl, .idxCopy .ix d .d => .srl_ixd_d d
  | .srl, .idxCopy .ix d .e => .srl_ixd_e d
  | .srl, .idxCopy .ix d .h => .srl_ixd_h d
  | .srl, .idxCopy .ix d .l => .srl_ixd_l d
  | .srl, .idx .ix d => .srl_ixd d
  | .srl, .idxCopy .ix d .a => .srl_ixd_a d
  | .rlc, .idxCopy .iy d .b => .rlc_iyd_b d
  | .rlc, .idxCopy .iy d .c => .rlc_iyd_c d
  | .rlc, .idxCopy .iy d .d => .rlc_iyd_d d
  | .rlc, .idxCopy .iy d .e => .rlc_iyd_e d
  | .rlc, .idxCopy .iy d .h => .rlc_iyd_h d
  | .rlc, .idxCopy .iy d .l => .rlc_iyd_l d
  | .rlc, .idx .iy d => .rlc_iyd d
  | .rlc, .idxCopy .iy d .a => .rlc_iyd_a d
  | .rrc, .idxCopy .iy d .b => .rrc_iyd_b d
  | .rrc, .idxCopy .iy d .c => .rrc_iyd_c d
  | .rrc, .idxCopy .iy d .d => .rrc_iyd_d d
  | .rrc, .idxCopy .iy d .e => .rrc_iyd_e d
  | .rrc, .idxCopy .iy d .h => .rrc_iyd_h d
  | .rrc, .idxCopy .iy d .l => .rrc_iyd_l d
  | .rrc, .idx .iy d => .rrc_iyd d
  | .rrc, .idxCopy .iy d .a => .rrc_iyd_a d
  | .rl, .idxCopy .iy d .b => .rl_iyd_b d
  | .rl, .idxCopy .iy d .c => .rl_iyd_c d
  | .rl, .idxCopy .iy d .d => .rl_iyd_d d
  | .rl, .idxCopy .iy d .e => .rl_iyd_e d
  | .rl, .idxCopy .iy d .h => .rl_iyd_h d
  | .rl, .idxCopy .iy d .l => .rl_iyd_l d
  | .rl, .idx .iy d => .rl_iyd d
  | .rl, .idxCopy .iy d .a => .rl_iyd_a d
  | .rr, .idxCopy .iy d .b => .rr_iyd_b d
  | .rr, .idxCopy .iy d .c => .rr_iyd_c d
  | .rr, .idxCopy .iy d .d => .rr_iyd_d d
  | .rr, .idxCopy .iy d .e => .rr_iyd_e d
  | .rr, .idxCopy .iy d .h => .rr_iyd_h d
  | .rr, .idxCopy .iy d .l => .rr_iyd_l d
  | .rr, .idx .iy d => .rr_iyd d
  | .rr, .idxCopy .iy d .a => .rr_iyd_a d
  | .sla, .idxCopy .iy d .b => .sla_iyd_b d
  | .sla, .idxCopy .iy d .c => .sla_iyd_c d
  | .sla, .idxCopy .iy d .d => .sla_iyd_d d
  | .sla, .idxCopy .iy d .e => .sla_iyd_e d
  | .sla, .idxCopy .iy d .h => .sla_iyd_h d
  | .sla, .idxCopy .iy d .l => .sla_iyd_l d
  | .sla, .idx .iy d => .sla_iyd d
  | .sla, .idxCopy .iy d .a => .sla_iyd_a d
  | .sra, .idxCopy .iy d .b => .sra_iyd_b d
  | .sra, .idxCopy .iy d .c => .sra_iyd_c d
  | .sra, .idxCopy .iy d .d => .sra_iyd_d d
  | .sra, .idxCopy .iy d .e => .sra_iyd_e d
  | .sra, .idxCopy .iy d .h => .sra_iyd_h d
  | .sra, .idxCopy .iy d .l => .sra_iyd_l d
  | .sra, .idx .iy d => .sra_iyd d
  | .sra, .idxCopy .iy d .a => .sra_iyd_a d
  | .sll, .idxCopy .iy d .b => .sll_iyd_b d
  | .sll, .idxCopy .iy d .c => .sll_iyd_c d
  | .sll, .idxCopy .iy d .d => .sll_iyd_d d
  | .sll, .idxCopy .iy d .e => .sll_iyd_e d
  | .sll, .idxCopy .iy d .h => .sll_iyd_h d
  | .sll, .idxCopy .iy d .l => .sll_iyd_l d
  | .sll, .idx .iy d => .sll_iyd d
  | .sll, .idxCopy .iy d .a => .sll_iyd_a d
  | .srl, .idxCopy .iy d .b => .srl_iyd_b d
  | .srl, .idxCopy .iy d .c => .srl_iyd_c d
  | .srl, .idxCopy .iy d .d => .srl_iyd_d d
  | .srl, .idxCopy .iy d .e => .srl_iyd_e d
  | .srl, .idxCopy .iy d .h => .srl_iyd_h d
  | .srl, .idxCopy .iy d .l => .srl_iyd_l d
  | .srl, .idx .iy d => .srl_iyd d
  | .srl, .idxCopy .iy d .a => .srl_iyd_a d

/-- The rows of `bitTest` (R346, R347, R348). -/
noncomputable def Instr.bit (b : BitNo) (m : M8) : Instr :=
  match b, m with
  | .b0, .r .b => .bit_0_b
  | .b0, .r .c => .bit_0_c
  | .b0, .r .d => .bit_0_d
  | .b0, .r .e => .bit_0_e
  | .b0, .r .h => .bit_0_h
  | .b0, .r .l => .bit_0_l
  | .b0, .hl => .bit_0_mhl
  | .b0, .r .a => .bit_0_a
  | .b1, .r .b => .bit_1_b
  | .b1, .r .c => .bit_1_c
  | .b1, .r .d => .bit_1_d
  | .b1, .r .e => .bit_1_e
  | .b1, .r .h => .bit_1_h
  | .b1, .r .l => .bit_1_l
  | .b1, .hl => .bit_1_mhl
  | .b1, .r .a => .bit_1_a
  | .b2, .r .b => .bit_2_b
  | .b2, .r .c => .bit_2_c
  | .b2, .r .d => .bit_2_d
  | .b2, .r .e => .bit_2_e
  | .b2, .r .h => .bit_2_h
  | .b2, .r .l => .bit_2_l
  | .b2, .hl => .bit_2_mhl
  | .b2, .r .a => .bit_2_a
  | .b3, .r .b => .bit_3_b
  | .b3, .r .c => .bit_3_c
  | .b3, .r .d => .bit_3_d
  | .b3, .r .e => .bit_3_e
  | .b3, .r .h => .bit_3_h
  | .b3, .r .l => .bit_3_l
  | .b3, .hl => .bit_3_mhl
  | .b3, .r .a => .bit_3_a
  | .b4, .r .b => .bit_4_b
  | .b4, .r .c => .bit_4_c
  | .b4, .r .d => .bit_4_d
  | .b4, .r .e => .bit_4_e
  | .b4, .r .h => .bit_4_h
  | .b4, .r .l => .bit_4_l
  | .b4, .hl => .bit_4_mhl
  | .b4, .r .a => .bit_4_a
  | .b5, .r .b => .bit_5_b
  | .b5, .r .c => .bit_5_c
  | .b5, .r .d => .bit_5_d
  | .b5, .r .e => .bit_5_e
  | .b5, .r .h => .bit_5_h
  | .b5, .r .l => .bit_5_l
  | .b5, .hl => .bit_5_mhl
  | .b5, .r .a => .bit_5_a
  | .b6, .r .b => .bit_6_b
  | .b6, .r .c => .bit_6_c
  | .b6, .r .d => .bit_6_d
  | .b6, .r .e => .bit_6_e
  | .b6, .r .h => .bit_6_h
  | .b6, .r .l => .bit_6_l
  | .b6, .hl => .bit_6_mhl
  | .b6, .r .a => .bit_6_a
  | .b7, .r .b => .bit_7_b
  | .b7, .r .c => .bit_7_c
  | .b7, .r .d => .bit_7_d
  | .b7, .r .e => .bit_7_e
  | .b7, .r .h => .bit_7_h
  | .b7, .r .l => .bit_7_l
  | .b7, .hl => .bit_7_mhl
  | .b7, .r .a => .bit_7_a
  | .b0, .idxCopy .ix d .b => .bit_0_ixd_z0 d
  | .b0, .idxCopy .ix d .c => .bit_0_ixd_z1 d
  | .b0, .idxCopy .ix d .d => .bit_0_ixd_z2 d
  | .b0, .idxCopy .ix d .e => .bit_0_ixd_z3 d
  | .b0, .idxCopy .ix d .h => .bit_0_ixd_z4 d
  | .b0, .idxCopy .ix d .l => .bit_0_ixd_z5 d
  | .b0, .idx .ix d => .bit_0_ixd d
  | .b0, .idxCopy .ix d .a => .bit_0_ixd_z7 d
  | .b1, .idxCopy .ix d .b => .bit_1_ixd_z0 d
  | .b1, .idxCopy .ix d .c => .bit_1_ixd_z1 d
  | .b1, .idxCopy .ix d .d => .bit_1_ixd_z2 d
  | .b1, .idxCopy .ix d .e => .bit_1_ixd_z3 d
  | .b1, .idxCopy .ix d .h => .bit_1_ixd_z4 d
  | .b1, .idxCopy .ix d .l => .bit_1_ixd_z5 d
  | .b1, .idx .ix d => .bit_1_ixd d
  | .b1, .idxCopy .ix d .a => .bit_1_ixd_z7 d
  | .b2, .idxCopy .ix d .b => .bit_2_ixd_z0 d
  | .b2, .idxCopy .ix d .c => .bit_2_ixd_z1 d
  | .b2, .idxCopy .ix d .d => .bit_2_ixd_z2 d
  | .b2, .idxCopy .ix d .e => .bit_2_ixd_z3 d
  | .b2, .idxCopy .ix d .h => .bit_2_ixd_z4 d
  | .b2, .idxCopy .ix d .l => .bit_2_ixd_z5 d
  | .b2, .idx .ix d => .bit_2_ixd d
  | .b2, .idxCopy .ix d .a => .bit_2_ixd_z7 d
  | .b3, .idxCopy .ix d .b => .bit_3_ixd_z0 d
  | .b3, .idxCopy .ix d .c => .bit_3_ixd_z1 d
  | .b3, .idxCopy .ix d .d => .bit_3_ixd_z2 d
  | .b3, .idxCopy .ix d .e => .bit_3_ixd_z3 d
  | .b3, .idxCopy .ix d .h => .bit_3_ixd_z4 d
  | .b3, .idxCopy .ix d .l => .bit_3_ixd_z5 d
  | .b3, .idx .ix d => .bit_3_ixd d
  | .b3, .idxCopy .ix d .a => .bit_3_ixd_z7 d
  | .b4, .idxCopy .ix d .b => .bit_4_ixd_z0 d
  | .b4, .idxCopy .ix d .c => .bit_4_ixd_z1 d
  | .b4, .idxCopy .ix d .d => .bit_4_ixd_z2 d
  | .b4, .idxCopy .ix d .e => .bit_4_ixd_z3 d
  | .b4, .idxCopy .ix d .h => .bit_4_ixd_z4 d
  | .b4, .idxCopy .ix d .l => .bit_4_ixd_z5 d
  | .b4, .idx .ix d => .bit_4_ixd d
  | .b4, .idxCopy .ix d .a => .bit_4_ixd_z7 d
  | .b5, .idxCopy .ix d .b => .bit_5_ixd_z0 d
  | .b5, .idxCopy .ix d .c => .bit_5_ixd_z1 d
  | .b5, .idxCopy .ix d .d => .bit_5_ixd_z2 d
  | .b5, .idxCopy .ix d .e => .bit_5_ixd_z3 d
  | .b5, .idxCopy .ix d .h => .bit_5_ixd_z4 d
  | .b5, .idxCopy .ix d .l => .bit_5_ixd_z5 d
  | .b5, .idx .ix d => .bit_5_ixd d
  | .b5, .idxCopy .ix d .a => .bit_5_ixd_z7 d
  | .b6, .idxCopy .ix d .b => .bit_6_ixd_z0 d
  | .b6, .idxCopy .ix d .c => .bit_6_ixd_z1 d
  | .b6, .idxCopy .ix d .d => .bit_6_ixd_z2 d
  | .b6, .idxCopy .ix d .e => .bit_6_ixd_z3 d
  | .b6, .idxCopy .ix d .h => .bit_6_ixd_z4 d
  | .b6, .idxCopy .ix d .l => .bit_6_ixd_z5 d
  | .b6, .idx .ix d => .bit_6_ixd d
  | .b6, .idxCopy .ix d .a => .bit_6_ixd_z7 d
  | .b7, .idxCopy .ix d .b => .bit_7_ixd_z0 d
  | .b7, .idxCopy .ix d .c => .bit_7_ixd_z1 d
  | .b7, .idxCopy .ix d .d => .bit_7_ixd_z2 d
  | .b7, .idxCopy .ix d .e => .bit_7_ixd_z3 d
  | .b7, .idxCopy .ix d .h => .bit_7_ixd_z4 d
  | .b7, .idxCopy .ix d .l => .bit_7_ixd_z5 d
  | .b7, .idx .ix d => .bit_7_ixd d
  | .b7, .idxCopy .ix d .a => .bit_7_ixd_z7 d
  | .b0, .idxCopy .iy d .b => .bit_0_iyd_z0 d
  | .b0, .idxCopy .iy d .c => .bit_0_iyd_z1 d
  | .b0, .idxCopy .iy d .d => .bit_0_iyd_z2 d
  | .b0, .idxCopy .iy d .e => .bit_0_iyd_z3 d
  | .b0, .idxCopy .iy d .h => .bit_0_iyd_z4 d
  | .b0, .idxCopy .iy d .l => .bit_0_iyd_z5 d
  | .b0, .idx .iy d => .bit_0_iyd d
  | .b0, .idxCopy .iy d .a => .bit_0_iyd_z7 d
  | .b1, .idxCopy .iy d .b => .bit_1_iyd_z0 d
  | .b1, .idxCopy .iy d .c => .bit_1_iyd_z1 d
  | .b1, .idxCopy .iy d .d => .bit_1_iyd_z2 d
  | .b1, .idxCopy .iy d .e => .bit_1_iyd_z3 d
  | .b1, .idxCopy .iy d .h => .bit_1_iyd_z4 d
  | .b1, .idxCopy .iy d .l => .bit_1_iyd_z5 d
  | .b1, .idx .iy d => .bit_1_iyd d
  | .b1, .idxCopy .iy d .a => .bit_1_iyd_z7 d
  | .b2, .idxCopy .iy d .b => .bit_2_iyd_z0 d
  | .b2, .idxCopy .iy d .c => .bit_2_iyd_z1 d
  | .b2, .idxCopy .iy d .d => .bit_2_iyd_z2 d
  | .b2, .idxCopy .iy d .e => .bit_2_iyd_z3 d
  | .b2, .idxCopy .iy d .h => .bit_2_iyd_z4 d
  | .b2, .idxCopy .iy d .l => .bit_2_iyd_z5 d
  | .b2, .idx .iy d => .bit_2_iyd d
  | .b2, .idxCopy .iy d .a => .bit_2_iyd_z7 d
  | .b3, .idxCopy .iy d .b => .bit_3_iyd_z0 d
  | .b3, .idxCopy .iy d .c => .bit_3_iyd_z1 d
  | .b3, .idxCopy .iy d .d => .bit_3_iyd_z2 d
  | .b3, .idxCopy .iy d .e => .bit_3_iyd_z3 d
  | .b3, .idxCopy .iy d .h => .bit_3_iyd_z4 d
  | .b3, .idxCopy .iy d .l => .bit_3_iyd_z5 d
  | .b3, .idx .iy d => .bit_3_iyd d
  | .b3, .idxCopy .iy d .a => .bit_3_iyd_z7 d
  | .b4, .idxCopy .iy d .b => .bit_4_iyd_z0 d
  | .b4, .idxCopy .iy d .c => .bit_4_iyd_z1 d
  | .b4, .idxCopy .iy d .d => .bit_4_iyd_z2 d
  | .b4, .idxCopy .iy d .e => .bit_4_iyd_z3 d
  | .b4, .idxCopy .iy d .h => .bit_4_iyd_z4 d
  | .b4, .idxCopy .iy d .l => .bit_4_iyd_z5 d
  | .b4, .idx .iy d => .bit_4_iyd d
  | .b4, .idxCopy .iy d .a => .bit_4_iyd_z7 d
  | .b5, .idxCopy .iy d .b => .bit_5_iyd_z0 d
  | .b5, .idxCopy .iy d .c => .bit_5_iyd_z1 d
  | .b5, .idxCopy .iy d .d => .bit_5_iyd_z2 d
  | .b5, .idxCopy .iy d .e => .bit_5_iyd_z3 d
  | .b5, .idxCopy .iy d .h => .bit_5_iyd_z4 d
  | .b5, .idxCopy .iy d .l => .bit_5_iyd_z5 d
  | .b5, .idx .iy d => .bit_5_iyd d
  | .b5, .idxCopy .iy d .a => .bit_5_iyd_z7 d
  | .b6, .idxCopy .iy d .b => .bit_6_iyd_z0 d
  | .b6, .idxCopy .iy d .c => .bit_6_iyd_z1 d
  | .b6, .idxCopy .iy d .d => .bit_6_iyd_z2 d
  | .b6, .idxCopy .iy d .e => .bit_6_iyd_z3 d
  | .b6, .idxCopy .iy d .h => .bit_6_iyd_z4 d
  | .b6, .idxCopy .iy d .l => .bit_6_iyd_z5 d
  | .b6, .idx .iy d => .bit_6_iyd d
  | .b6, .idxCopy .iy d .a => .bit_6_iyd_z7 d
  | .b7, .idxCopy .iy d .b => .bit_7_iyd_z0 d
  | .b7, .idxCopy .iy d .c => .bit_7_iyd_z1 d
  | .b7, .idxCopy .iy d .d => .bit_7_iyd_z2 d
  | .b7, .idxCopy .iy d .e => .bit_7_iyd_z3 d
  | .b7, .idxCopy .iy d .h => .bit_7_iyd_z4 d
  | .b7, .idxCopy .iy d .l => .bit_7_iyd_z5 d
  | .b7, .idx .iy d => .bit_7_iyd d
  | .b7, .idxCopy .iy d .a => .bit_7_iyd_z7 d

/-- The rows of `bitReset` (R349, R351). -/
noncomputable def Instr.res (b : BitNo) (m : M8) : Instr :=
  match b, m with
  | .b0, .r .b => .res_0_b
  | .b0, .r .c => .res_0_c
  | .b0, .r .d => .res_0_d
  | .b0, .r .e => .res_0_e
  | .b0, .r .h => .res_0_h
  | .b0, .r .l => .res_0_l
  | .b0, .hl => .res_0_mhl
  | .b0, .r .a => .res_0_a
  | .b1, .r .b => .res_1_b
  | .b1, .r .c => .res_1_c
  | .b1, .r .d => .res_1_d
  | .b1, .r .e => .res_1_e
  | .b1, .r .h => .res_1_h
  | .b1, .r .l => .res_1_l
  | .b1, .hl => .res_1_mhl
  | .b1, .r .a => .res_1_a
  | .b2, .r .b => .res_2_b
  | .b2, .r .c => .res_2_c
  | .b2, .r .d => .res_2_d
  | .b2, .r .e => .res_2_e
  | .b2, .r .h => .res_2_h
  | .b2, .r .l => .res_2_l
  | .b2, .hl => .res_2_mhl
  | .b2, .r .a => .res_2_a
  | .b3, .r .b => .res_3_b
  | .b3, .r .c => .res_3_c
  | .b3, .r .d => .res_3_d
  | .b3, .r .e => .res_3_e
  | .b3, .r .h => .res_3_h
  | .b3, .r .l => .res_3_l
  | .b3, .hl => .res_3_mhl
  | .b3, .r .a => .res_3_a
  | .b4, .r .b => .res_4_b
  | .b4, .r .c => .res_4_c
  | .b4, .r .d => .res_4_d
  | .b4, .r .e => .res_4_e
  | .b4, .r .h => .res_4_h
  | .b4, .r .l => .res_4_l
  | .b4, .hl => .res_4_mhl
  | .b4, .r .a => .res_4_a
  | .b5, .r .b => .res_5_b
  | .b5, .r .c => .res_5_c
  | .b5, .r .d => .res_5_d
  | .b5, .r .e => .res_5_e
  | .b5, .r .h => .res_5_h
  | .b5, .r .l => .res_5_l
  | .b5, .hl => .res_5_mhl
  | .b5, .r .a => .res_5_a
  | .b6, .r .b => .res_6_b
  | .b6, .r .c => .res_6_c
  | .b6, .r .d => .res_6_d
  | .b6, .r .e => .res_6_e
  | .b6, .r .h => .res_6_h
  | .b6, .r .l => .res_6_l
  | .b6, .hl => .res_6_mhl
  | .b6, .r .a => .res_6_a
  | .b7, .r .b => .res_7_b
  | .b7, .r .c => .res_7_c
  | .b7, .r .d => .res_7_d
  | .b7, .r .e => .res_7_e
  | .b7, .r .h => .res_7_h
  | .b7, .r .l => .res_7_l
  | .b7, .hl => .res_7_mhl
  | .b7, .r .a => .res_7_a
  | .b0, .idxCopy .ix d .b => .res_0_ixd_b d
  | .b0, .idxCopy .ix d .c => .res_0_ixd_c d
  | .b0, .idxCopy .ix d .d => .res_0_ixd_d d
  | .b0, .idxCopy .ix d .e => .res_0_ixd_e d
  | .b0, .idxCopy .ix d .h => .res_0_ixd_h d
  | .b0, .idxCopy .ix d .l => .res_0_ixd_l d
  | .b0, .idx .ix d => .res_0_ixd d
  | .b0, .idxCopy .ix d .a => .res_0_ixd_a d
  | .b1, .idxCopy .ix d .b => .res_1_ixd_b d
  | .b1, .idxCopy .ix d .c => .res_1_ixd_c d
  | .b1, .idxCopy .ix d .d => .res_1_ixd_d d
  | .b1, .idxCopy .ix d .e => .res_1_ixd_e d
  | .b1, .idxCopy .ix d .h => .res_1_ixd_h d
  | .b1, .idxCopy .ix d .l => .res_1_ixd_l d
  | .b1, .idx .ix d => .res_1_ixd d
  | .b1, .idxCopy .ix d .a => .res_1_ixd_a d
  | .b2, .idxCopy .ix d .b => .res_2_ixd_b d
  | .b2, .idxCopy .ix d .c => .res_2_ixd_c d
  | .b2, .idxCopy .ix d .d => .res_2_ixd_d d
  | .b2, .idxCopy .ix d .e => .res_2_ixd_e d
  | .b2, .idxCopy .ix d .h => .res_2_ixd_h d
  | .b2, .idxCopy .ix d .l => .res_2_ixd_l d
  | .b2, .idx .ix d => .res_2_ixd d
  | .b2, .idxCopy .ix d .a => .res_2_ixd_a d
  | .b3, .idxCopy .ix d .b => .res_3_ixd_b d
  | .b3, .idxCopy .ix d .c => .res_3_ixd_c d
  | .b3, .idxCopy .ix d .d => .res_3_ixd_d d
  | .b3, .idxCopy .ix d .e => .res_3_ixd_e d
  | .b3, .idxCopy .ix d .h => .res_3_ixd_h d
  | .b3, .idxCopy .ix d .l => .res_3_ixd_l d
  | .b3, .idx .ix d => .res_3_ixd d
  | .b3, .idxCopy .ix d .a => .res_3_ixd_a d
  | .b4, .idxCopy .ix d .b => .res_4_ixd_b d
  | .b4, .idxCopy .ix d .c => .res_4_ixd_c d
  | .b4, .idxCopy .ix d .d => .res_4_ixd_d d
  | .b4, .idxCopy .ix d .e => .res_4_ixd_e d
  | .b4, .idxCopy .ix d .h => .res_4_ixd_h d
  | .b4, .idxCopy .ix d .l => .res_4_ixd_l d
  | .b4, .idx .ix d => .res_4_ixd d
  | .b4, .idxCopy .ix d .a => .res_4_ixd_a d
  | .b5, .idxCopy .ix d .b => .res_5_ixd_b d
  | .b5, .idxCopy .ix d .c => .res_5_ixd_c d
  | .b5, .idxCopy .ix d .d => .res_5_ixd_d d
  | .b5, .idxCopy .ix d .e => .res_5_ixd_e d
  | .b5, .idxCopy .ix d .h => .res_5_ixd_h d
  | .b5, .idxCopy .ix d .l => .res_5_ixd_l d
  | .b5, .idx .ix d => .res_5_ixd d
  | .b5, .idxCopy .ix d .a => .res_5_ixd_a d
  | .b6, .idxCopy .ix d .b => .res_6_ixd_b d
  | .b6, .idxCopy .ix d .c => .res_6_ixd_c d
  | .b6, .idxCopy .ix d .d => .res_6_ixd_d d
  | .b6, .idxCopy .ix d .e => .res_6_ixd_e d
  | .b6, .idxCopy .ix d .h => .res_6_ixd_h d
  | .b6, .idxCopy .ix d .l => .res_6_ixd_l d
  | .b6, .idx .ix d => .res_6_ixd d
  | .b6, .idxCopy .ix d .a => .res_6_ixd_a d
  | .b7, .idxCopy .ix d .b => .res_7_ixd_b d
  | .b7, .idxCopy .ix d .c => .res_7_ixd_c d
  | .b7, .idxCopy .ix d .d => .res_7_ixd_d d
  | .b7, .idxCopy .ix d .e => .res_7_ixd_e d
  | .b7, .idxCopy .ix d .h => .res_7_ixd_h d
  | .b7, .idxCopy .ix d .l => .res_7_ixd_l d
  | .b7, .idx .ix d => .res_7_ixd d
  | .b7, .idxCopy .ix d .a => .res_7_ixd_a d
  | .b0, .idxCopy .iy d .b => .res_0_iyd_b d
  | .b0, .idxCopy .iy d .c => .res_0_iyd_c d
  | .b0, .idxCopy .iy d .d => .res_0_iyd_d d
  | .b0, .idxCopy .iy d .e => .res_0_iyd_e d
  | .b0, .idxCopy .iy d .h => .res_0_iyd_h d
  | .b0, .idxCopy .iy d .l => .res_0_iyd_l d
  | .b0, .idx .iy d => .res_0_iyd d
  | .b0, .idxCopy .iy d .a => .res_0_iyd_a d
  | .b1, .idxCopy .iy d .b => .res_1_iyd_b d
  | .b1, .idxCopy .iy d .c => .res_1_iyd_c d
  | .b1, .idxCopy .iy d .d => .res_1_iyd_d d
  | .b1, .idxCopy .iy d .e => .res_1_iyd_e d
  | .b1, .idxCopy .iy d .h => .res_1_iyd_h d
  | .b1, .idxCopy .iy d .l => .res_1_iyd_l d
  | .b1, .idx .iy d => .res_1_iyd d
  | .b1, .idxCopy .iy d .a => .res_1_iyd_a d
  | .b2, .idxCopy .iy d .b => .res_2_iyd_b d
  | .b2, .idxCopy .iy d .c => .res_2_iyd_c d
  | .b2, .idxCopy .iy d .d => .res_2_iyd_d d
  | .b2, .idxCopy .iy d .e => .res_2_iyd_e d
  | .b2, .idxCopy .iy d .h => .res_2_iyd_h d
  | .b2, .idxCopy .iy d .l => .res_2_iyd_l d
  | .b2, .idx .iy d => .res_2_iyd d
  | .b2, .idxCopy .iy d .a => .res_2_iyd_a d
  | .b3, .idxCopy .iy d .b => .res_3_iyd_b d
  | .b3, .idxCopy .iy d .c => .res_3_iyd_c d
  | .b3, .idxCopy .iy d .d => .res_3_iyd_d d
  | .b3, .idxCopy .iy d .e => .res_3_iyd_e d
  | .b3, .idxCopy .iy d .h => .res_3_iyd_h d
  | .b3, .idxCopy .iy d .l => .res_3_iyd_l d
  | .b3, .idx .iy d => .res_3_iyd d
  | .b3, .idxCopy .iy d .a => .res_3_iyd_a d
  | .b4, .idxCopy .iy d .b => .res_4_iyd_b d
  | .b4, .idxCopy .iy d .c => .res_4_iyd_c d
  | .b4, .idxCopy .iy d .d => .res_4_iyd_d d
  | .b4, .idxCopy .iy d .e => .res_4_iyd_e d
  | .b4, .idxCopy .iy d .h => .res_4_iyd_h d
  | .b4, .idxCopy .iy d .l => .res_4_iyd_l d
  | .b4, .idx .iy d => .res_4_iyd d
  | .b4, .idxCopy .iy d .a => .res_4_iyd_a d
  | .b5, .idxCopy .iy d .b => .res_5_iyd_b d
  | .b5, .idxCopy .iy d .c => .res_5_iyd_c d
  | .b5, .idxCopy .iy d .d => .res_5_iyd_d d
  | .b5, .idxCopy .iy d .e => .res_5_iyd_e d
  | .b5, .idxCopy .iy d .h => .res_5_iyd_h d
  | .b5, .idxCopy .iy d .l => .res_5_iyd_l d
  | .b5, .idx .iy d => .res_5_iyd d
  | .b5, .idxCopy .iy d .a => .res_5_iyd_a d
  | .b6, .idxCopy .iy d .b => .res_6_iyd_b d
  | .b6, .idxCopy .iy d .c => .res_6_iyd_c d
  | .b6, .idxCopy .iy d .d => .res_6_iyd_d d
  | .b6, .idxCopy .iy d .e => .res_6_iyd_e d
  | .b6, .idxCopy .iy d .h => .res_6_iyd_h d
  | .b6, .idxCopy .iy d .l => .res_6_iyd_l d
  | .b6, .idx .iy d => .res_6_iyd d
  | .b6, .idxCopy .iy d .a => .res_6_iyd_a d
  | .b7, .idxCopy .iy d .b => .res_7_iyd_b d
  | .b7, .idxCopy .iy d .c => .res_7_iyd_c d
  | .b7, .idxCopy .iy d .d => .res_7_iyd_d d
  | .b7, .idxCopy .iy d .e => .res_7_iyd_e d
  | .b7, .idxCopy .iy d .h => .res_7_iyd_h d
  | .b7, .idxCopy .iy d .l => .res_7_iyd_l d
  | .b7, .idx .iy d => .res_7_iyd d
  | .b7, .idxCopy .iy d .a => .res_7_iyd_a d

/-- The rows of `bitSet` (R350, R351). -/
noncomputable def Instr.set (b : BitNo) (m : M8) : Instr :=
  match b, m with
  | .b0, .r .b => .set_0_b
  | .b0, .r .c => .set_0_c
  | .b0, .r .d => .set_0_d
  | .b0, .r .e => .set_0_e
  | .b0, .r .h => .set_0_h
  | .b0, .r .l => .set_0_l
  | .b0, .hl => .set_0_mhl
  | .b0, .r .a => .set_0_a
  | .b1, .r .b => .set_1_b
  | .b1, .r .c => .set_1_c
  | .b1, .r .d => .set_1_d
  | .b1, .r .e => .set_1_e
  | .b1, .r .h => .set_1_h
  | .b1, .r .l => .set_1_l
  | .b1, .hl => .set_1_mhl
  | .b1, .r .a => .set_1_a
  | .b2, .r .b => .set_2_b
  | .b2, .r .c => .set_2_c
  | .b2, .r .d => .set_2_d
  | .b2, .r .e => .set_2_e
  | .b2, .r .h => .set_2_h
  | .b2, .r .l => .set_2_l
  | .b2, .hl => .set_2_mhl
  | .b2, .r .a => .set_2_a
  | .b3, .r .b => .set_3_b
  | .b3, .r .c => .set_3_c
  | .b3, .r .d => .set_3_d
  | .b3, .r .e => .set_3_e
  | .b3, .r .h => .set_3_h
  | .b3, .r .l => .set_3_l
  | .b3, .hl => .set_3_mhl
  | .b3, .r .a => .set_3_a
  | .b4, .r .b => .set_4_b
  | .b4, .r .c => .set_4_c
  | .b4, .r .d => .set_4_d
  | .b4, .r .e => .set_4_e
  | .b4, .r .h => .set_4_h
  | .b4, .r .l => .set_4_l
  | .b4, .hl => .set_4_mhl
  | .b4, .r .a => .set_4_a
  | .b5, .r .b => .set_5_b
  | .b5, .r .c => .set_5_c
  | .b5, .r .d => .set_5_d
  | .b5, .r .e => .set_5_e
  | .b5, .r .h => .set_5_h
  | .b5, .r .l => .set_5_l
  | .b5, .hl => .set_5_mhl
  | .b5, .r .a => .set_5_a
  | .b6, .r .b => .set_6_b
  | .b6, .r .c => .set_6_c
  | .b6, .r .d => .set_6_d
  | .b6, .r .e => .set_6_e
  | .b6, .r .h => .set_6_h
  | .b6, .r .l => .set_6_l
  | .b6, .hl => .set_6_mhl
  | .b6, .r .a => .set_6_a
  | .b7, .r .b => .set_7_b
  | .b7, .r .c => .set_7_c
  | .b7, .r .d => .set_7_d
  | .b7, .r .e => .set_7_e
  | .b7, .r .h => .set_7_h
  | .b7, .r .l => .set_7_l
  | .b7, .hl => .set_7_mhl
  | .b7, .r .a => .set_7_a
  | .b0, .idxCopy .ix d .b => .set_0_ixd_b d
  | .b0, .idxCopy .ix d .c => .set_0_ixd_c d
  | .b0, .idxCopy .ix d .d => .set_0_ixd_d d
  | .b0, .idxCopy .ix d .e => .set_0_ixd_e d
  | .b0, .idxCopy .ix d .h => .set_0_ixd_h d
  | .b0, .idxCopy .ix d .l => .set_0_ixd_l d
  | .b0, .idx .ix d => .set_0_ixd d
  | .b0, .idxCopy .ix d .a => .set_0_ixd_a d
  | .b1, .idxCopy .ix d .b => .set_1_ixd_b d
  | .b1, .idxCopy .ix d .c => .set_1_ixd_c d
  | .b1, .idxCopy .ix d .d => .set_1_ixd_d d
  | .b1, .idxCopy .ix d .e => .set_1_ixd_e d
  | .b1, .idxCopy .ix d .h => .set_1_ixd_h d
  | .b1, .idxCopy .ix d .l => .set_1_ixd_l d
  | .b1, .idx .ix d => .set_1_ixd d
  | .b1, .idxCopy .ix d .a => .set_1_ixd_a d
  | .b2, .idxCopy .ix d .b => .set_2_ixd_b d
  | .b2, .idxCopy .ix d .c => .set_2_ixd_c d
  | .b2, .idxCopy .ix d .d => .set_2_ixd_d d
  | .b2, .idxCopy .ix d .e => .set_2_ixd_e d
  | .b2, .idxCopy .ix d .h => .set_2_ixd_h d
  | .b2, .idxCopy .ix d .l => .set_2_ixd_l d
  | .b2, .idx .ix d => .set_2_ixd d
  | .b2, .idxCopy .ix d .a => .set_2_ixd_a d
  | .b3, .idxCopy .ix d .b => .set_3_ixd_b d
  | .b3, .idxCopy .ix d .c => .set_3_ixd_c d
  | .b3, .idxCopy .ix d .d => .set_3_ixd_d d
  | .b3, .idxCopy .ix d .e => .set_3_ixd_e d
  | .b3, .idxCopy .ix d .h => .set_3_ixd_h d
  | .b3, .idxCopy .ix d .l => .set_3_ixd_l d
  | .b3, .idx .ix d => .set_3_ixd d
  | .b3, .idxCopy .ix d .a => .set_3_ixd_a d
  | .b4, .idxCopy .ix d .b => .set_4_ixd_b d
  | .b4, .idxCopy .ix d .c => .set_4_ixd_c d
  | .b4, .idxCopy .ix d .d => .set_4_ixd_d d
  | .b4, .idxCopy .ix d .e => .set_4_ixd_e d
  | .b4, .idxCopy .ix d .h => .set_4_ixd_h d
  | .b4, .idxCopy .ix d .l => .set_4_ixd_l d
  | .b4, .idx .ix d => .set_4_ixd d
  | .b4, .idxCopy .ix d .a => .set_4_ixd_a d
  | .b5, .idxCopy .ix d .b => .set_5_ixd_b d
  | .b5, .idxCopy .ix d .c => .set_5_ixd_c d
  | .b5, .idxCopy .ix d .d => .set_5_ixd_d d
  | .b5, .idxCopy .ix d .e => .set_5_ixd_e d
  | .b5, .idxCopy .ix d .h => .set_5_ixd_h d
  | .b5, .idxCopy .ix d .l => .set_5_ixd_l d
  | .b5, .idx .ix d => .set_5_ixd d
  | .b5, .idxCopy .ix d .a => .set_5_ixd_a d
  | .b6, .idxCopy .ix d .b => .set_6_ixd_b d
  | .b6, .idxCopy .ix d .c => .set_6_ixd_c d
  | .b6, .idxCopy .ix d .d => .set_6_ixd_d d
  | .b6, .idxCopy .ix d .e => .set_6_ixd_e d
  | .b6, .idxCopy .ix d .h => .set_6_ixd_h d
  | .b6, .idxCopy .ix d .l => .set_6_ixd_l d
  | .b6, .idx .ix d => .set_6_ixd d
  | .b6, .idxCopy .ix d .a => .set_6_ixd_a d
  | .b7, .idxCopy .ix d .b => .set_7_ixd_b d
  | .b7, .idxCopy .ix d .c => .set_7_ixd_c d
  | .b7, .idxCopy .ix d .d => .set_7_ixd_d d
  | .b7, .idxCopy .ix d .e => .set_7_ixd_e d
  | .b7, .idxCopy .ix d .h => .set_7_ixd_h d
  | .b7, .idxCopy .ix d .l => .set_7_ixd_l d
  | .b7, .idx .ix d => .set_7_ixd d
  | .b7, .idxCopy .ix d .a => .set_7_ixd_a d
  | .b0, .idxCopy .iy d .b => .set_0_iyd_b d
  | .b0, .idxCopy .iy d .c => .set_0_iyd_c d
  | .b0, .idxCopy .iy d .d => .set_0_iyd_d d
  | .b0, .idxCopy .iy d .e => .set_0_iyd_e d
  | .b0, .idxCopy .iy d .h => .set_0_iyd_h d
  | .b0, .idxCopy .iy d .l => .set_0_iyd_l d
  | .b0, .idx .iy d => .set_0_iyd d
  | .b0, .idxCopy .iy d .a => .set_0_iyd_a d
  | .b1, .idxCopy .iy d .b => .set_1_iyd_b d
  | .b1, .idxCopy .iy d .c => .set_1_iyd_c d
  | .b1, .idxCopy .iy d .d => .set_1_iyd_d d
  | .b1, .idxCopy .iy d .e => .set_1_iyd_e d
  | .b1, .idxCopy .iy d .h => .set_1_iyd_h d
  | .b1, .idxCopy .iy d .l => .set_1_iyd_l d
  | .b1, .idx .iy d => .set_1_iyd d
  | .b1, .idxCopy .iy d .a => .set_1_iyd_a d
  | .b2, .idxCopy .iy d .b => .set_2_iyd_b d
  | .b2, .idxCopy .iy d .c => .set_2_iyd_c d
  | .b2, .idxCopy .iy d .d => .set_2_iyd_d d
  | .b2, .idxCopy .iy d .e => .set_2_iyd_e d
  | .b2, .idxCopy .iy d .h => .set_2_iyd_h d
  | .b2, .idxCopy .iy d .l => .set_2_iyd_l d
  | .b2, .idx .iy d => .set_2_iyd d
  | .b2, .idxCopy .iy d .a => .set_2_iyd_a d
  | .b3, .idxCopy .iy d .b => .set_3_iyd_b d
  | .b3, .idxCopy .iy d .c => .set_3_iyd_c d
  | .b3, .idxCopy .iy d .d => .set_3_iyd_d d
  | .b3, .idxCopy .iy d .e => .set_3_iyd_e d
  | .b3, .idxCopy .iy d .h => .set_3_iyd_h d
  | .b3, .idxCopy .iy d .l => .set_3_iyd_l d
  | .b3, .idx .iy d => .set_3_iyd d
  | .b3, .idxCopy .iy d .a => .set_3_iyd_a d
  | .b4, .idxCopy .iy d .b => .set_4_iyd_b d
  | .b4, .idxCopy .iy d .c => .set_4_iyd_c d
  | .b4, .idxCopy .iy d .d => .set_4_iyd_d d
  | .b4, .idxCopy .iy d .e => .set_4_iyd_e d
  | .b4, .idxCopy .iy d .h => .set_4_iyd_h d
  | .b4, .idxCopy .iy d .l => .set_4_iyd_l d
  | .b4, .idx .iy d => .set_4_iyd d
  | .b4, .idxCopy .iy d .a => .set_4_iyd_a d
  | .b5, .idxCopy .iy d .b => .set_5_iyd_b d
  | .b5, .idxCopy .iy d .c => .set_5_iyd_c d
  | .b5, .idxCopy .iy d .d => .set_5_iyd_d d
  | .b5, .idxCopy .iy d .e => .set_5_iyd_e d
  | .b5, .idxCopy .iy d .h => .set_5_iyd_h d
  | .b5, .idxCopy .iy d .l => .set_5_iyd_l d
  | .b5, .idx .iy d => .set_5_iyd d
  | .b5, .idxCopy .iy d .a => .set_5_iyd_a d
  | .b6, .idxCopy .iy d .b => .set_6_iyd_b d
  | .b6, .idxCopy .iy d .c => .set_6_iyd_c d
  | .b6, .idxCopy .iy d .d => .set_6_iyd_d d
  | .b6, .idxCopy .iy d .e => .set_6_iyd_e d
  | .b6, .idxCopy .iy d .h => .set_6_iyd_h d
  | .b6, .idxCopy .iy d .l => .set_6_iyd_l d
  | .b6, .idx .iy d => .set_6_iyd d
  | .b6, .idxCopy .iy d .a => .set_6_iyd_a d
  | .b7, .idxCopy .iy d .b => .set_7_iyd_b d
  | .b7, .idxCopy .iy d .c => .set_7_iyd_c d
  | .b7, .idxCopy .iy d .d => .set_7_iyd_d d
  | .b7, .idxCopy .iy d .e => .set_7_iyd_e d
  | .b7, .idxCopy .iy d .h => .set_7_iyd_h d
  | .b7, .idxCopy .iy d .l => .set_7_iyd_l d
  | .b7, .idx .iy d => .set_7_iyd d
  | .b7, .idxCopy .iy d .a => .set_7_iyd_a d

/-- The rows of `blockLoadOnce` (R381, R382). -/
noncomputable def Instr.ldStep (dir : Dir) : Instr :=
  match dir with
  | .inc => .ldi
  | .dec => .ldd

/-- The rows of `blockLoadRepeat` (R383, R384). -/
noncomputable def Instr.ldRep (dir : Dir) : Instr :=
  match dir with
  | .inc => .ldir
  | .dec => .lddr

/-- The rows of `blockCompareOnce` (R385, R386). -/
noncomputable def Instr.cpStep (dir : Dir) : Instr :=
  match dir with
  | .inc => .cpi
  | .dec => .cpd

/-- The rows of `blockCompareRepeat` (R387, R388). -/
noncomputable def Instr.cpRep (dir : Dir) : Instr :=
  match dir with
  | .inc => .cpir
  | .dec => .cpdr

/-- The rows of `blockInOnce` (R458, R459). -/
noncomputable def Instr.inStep (dir : Dir) : Instr :=
  match dir with
  | .inc => .ini
  | .dec => .ind

/-- The rows of `blockInRepeat` (R460, R461). -/
noncomputable def Instr.inRep (dir : Dir) : Instr :=
  match dir with
  | .inc => .inir
  | .dec => .indr

/-- The rows of `blockOutOnce` (R462, R463). -/
noncomputable def Instr.outStep (dir : Dir) : Instr :=
  match dir with
  | .inc => .outi
  | .dec => .outd

/-- The rows of `blockOutRepeat` (R464, R465). -/
noncomputable def Instr.outRep (dir : Dir) : Instr :=
  match dir with
  | .inc => .otir
  | .dec => .otdr

/-- The rows of `jumpIf` (R412). -/
noncomputable def Instr.jpCc (cc : Cond) (nn : Word) : Instr :=
  match cc with
  | .nz => .jp_nz_nn nn
  | .z => .jp_z_nn nn
  | .nc => .jp_nc_nn nn
  | .c => .jp_c_nn nn
  | .po => .jp_po_nn nn
  | .pe => .jp_pe_nn nn
  | .p => .jp_p_nn nn
  | .m => .jp_m_nn nn

/-- The rows of `jumpRelativeIf` (R414). -/
noncomputable def Instr.jrCc (cc : JrCond) (e : Byte) : Instr :=
  match cc with
  | .nz => .jr_nz_e e
  | .z => .jr_z_e e
  | .nc => .jr_nc_e e
  | .c => .jr_c_e e

/-- The rows of `jumpXy` (R417). -/
noncomputable def Instr.jpXy (xy : Xy) : Instr :=
  match xy with
  | .ix => .jp_ix
  | .iy => .jp_iy

/-- The rows of `callIf` (R419). -/
noncomputable def Instr.callCc (cc : Cond) (nn : Word) : Instr :=
  match cc with
  | .nz => .call_nz_nn nn
  | .z => .call_z_nn nn
  | .nc => .call_nc_nn nn
  | .c => .call_c_nn nn
  | .po => .call_po_nn nn
  | .pe => .call_pe_nn nn
  | .p => .call_p_nn nn
  | .m => .call_m_nn nn

/-- The rows of `returnIf` (R421). -/
noncomputable def Instr.retCc (cc : Cond) : Instr :=
  match cc with
  | .nz => .ret_nz
  | .z => .ret_z
  | .nc => .ret_nc
  | .c => .ret_c
  | .po => .ret_po
  | .pe => .ret_pe
  | .p => .ret_p
  | .m => .ret_m

/-- The rows of `returnFromHandler` (R422, R423). -/
noncomputable def Instr.retRow (y : BitNo) : Instr :=
  match y with
  | .b0 => .retn
  | .b1 => .reti
  | .b2 => .retn_ED55
  | .b3 => .retn_ED5D
  | .b4 => .retn_ED65
  | .b5 => .retn_ED6D
  | .b6 => .retn_ED75
  | .b7 => .retn_ED7D

/-- The rows of `restart` (R424). -/
noncomputable def Instr.rst (p : Rst) : Instr :=
  match p with
  | .p00 => .rst_00
  | .p08 => .rst_08
  | .p10 => .rst_10
  | .p18 => .rst_18
  | .p20 => .rst_20
  | .p28 => .rst_28
  | .p30 => .rst_30
  | .p38 => .rst_38

/-- The rows of `pushPair` (R425). -/
noncomputable def Instr.push (q : Pair2) : Instr :=
  match q with
  | .bc => .push_bc
  | .de => .push_de
  | .hl => .push_hl
  | .af => .push_af

/-- The rows of `popPair` (R427). -/
noncomputable def Instr.pop (q : Pair2) : Instr :=
  match q with
  | .bc => .pop_bc
  | .de => .pop_de
  | .hl => .pop_hl
  | .af => .pop_af

/-- The rows of `pushXyReg` (R426). -/
noncomputable def Instr.pushXy (xy : Xy) : Instr :=
  match xy with
  | .ix => .push_ix
  | .iy => .push_iy

/-- The rows of `popXyReg` (R428). -/
noncomputable def Instr.popXy (xy : Xy) : Instr :=
  match xy with
  | .ix => .pop_ix
  | .iy => .pop_iy

/-- The rows of `inRegC` (R453). -/
noncomputable def Instr.inR (r : R8) : Instr :=
  match r with
  | .b => .in_b_portC
  | .c => .in_c_portC
  | .d => .in_d_portC
  | .e => .in_e_portC
  | .h => .in_h_portC
  | .l => .in_l_portC
  | .a => .in_a_portC

/-- The rows of `outCReg` (R456). -/
noncomputable def Instr.outR (r : R8) : Instr :=
  match r with
  | .b => .out_portC_b
  | .c => .out_portC_c
  | .d => .out_portC_d
  | .e => .out_portC_e
  | .h => .out_portC_h
  | .l => .out_portC_l
  | .a => .out_portC_a

/-- The rows of `interruptMode` (R485). -/
noncomputable def Instr.imRow (y : BitNo) : Instr :=
  match y with
  | .b0 => .im_0
  | .b1 => .im_0_ED4E
  | .b2 => .im_1
  | .b3 => .im_2
  | .b4 => .im_0_ED66
  | .b5 => .im_0_ED6E
  | .b6 => .im_1_ED76
  | .b7 => .im_2_ED7E

/-- The rows of `latchPrefix` (R153). -/
noncomputable def Instr.prefixOf (p : Pfx) : Instr :=
  match p with
  | .cb => .prefix_cb
  | .dd => .prefix_dd
  | .ed => .prefix_ed
  | .fd => .prefix_fd

/-- The families with their operands, and the rows that stand alone. -/
inductive Form where
  | ldRR (dst : R8) (src : R8)
  | ldRN (r : R8) (n : Byte)
  | ldRHl (r : R8)
  | ldRXy (r : R8) (xy : Xy) (d : Byte)
  | ldHlR (r : R8)
  | ldXyR (xy : Xy) (d : Byte) (r : R8)
  | ldXyN (xy : Xy) (d : Byte) (n : Byte)
  | ldPlainHalf (r : Plain) (xy : Xy) (h : Half)
  | ldHalfPlain (xy : Xy) (h : Half) (r : Plain)
  | ldHalfHalf (xy : Xy) (h : Half) (k : Half)
  | ldHalfN (xy : Xy) (h : Half) (n : Byte)
  | ldPairNn (p : Pair) (nn : Word)
  | ldXyNn (xy : Xy) (nn : Word)
  | ldPairMnn (p : Pair) (nn : Word)
  | ldXyMnn (xy : Xy) (nn : Word)
  | ldMnnPair (nn : Word) (p : Pair)
  | ldMnnXy (nn : Word) (xy : Xy)
  | ldSpXy (xy : Xy)
  | exSpXy (xy : Xy)
  | alu (op : AluOp) (src : Src8)
  | inc8 (dst : Dst8)
  | dec8 (dst : Dst8)
  | addHl (p : Pair)
  | addXy (xy : Xy) (p : AddPair)
  | adcHl (p : Pair)
  | sbcHl (p : Pair)
  | incPair (p : Pair)
  | decPair (p : Pair)
  | incXy (xy : Xy)
  | decXy (xy : Xy)
  | negRow (y : BitNo)
  | rot (op : RotOp) (m : M8)
  | bit (b : BitNo) (m : M8)
  | res (b : BitNo) (m : M8)
  | set (b : BitNo) (m : M8)
  | ldStep (dir : Dir)
  | ldRep (dir : Dir)
  | cpStep (dir : Dir)
  | cpRep (dir : Dir)
  | inStep (dir : Dir)
  | inRep (dir : Dir)
  | outStep (dir : Dir)
  | outRep (dir : Dir)
  | jpCc (cc : Cond) (nn : Word)
  | jrCc (cc : JrCond) (e : Byte)
  | jpXy (xy : Xy)
  | callCc (cc : Cond) (nn : Word)
  | retCc (cc : Cond)
  | retRow (y : BitNo)
  | rst (p : Rst)
  | push (q : Pair2)
  | pop (q : Pair2)
  | pushXy (xy : Xy)
  | popXy (xy : Xy)
  | inR (r : R8)
  | outR (r : R8)
  | imRow (y : BitNo)
  | prefixOf (p : Pfx)
  | nop
  | ld_mbc_a
  | rlca
  | ex_af_afAlt
  | ld_a_mbc
  | rrca
  | djnz_e (e : Byte)
  | ld_mde_a
  | rla
  | jr_e (e : Byte)
  | ld_a_mde
  | rra
  | ld_mnn_hl (nn : Word)
  | daa
  | ld_hl_mnn (nn : Word)
  | cpl
  | ld_mnn_a (nn : Word)
  | ld_mhl_n (n : Byte)
  | scf
  | ld_a_mnn (nn : Word)
  | ccf
  | halt
  | jp_nn (nn : Word)
  | ret
  | call_nn (nn : Word)
  | out_portN_a (n : Byte)
  | exx
  | in_a_portN (n : Byte)
  | ex_msp_hl
  | jp_hl
  | ex_de_hl
  | di
  | ld_sp_hl
  | ei
  | ld_i_a
  | ld_r_a
  | ld_a_i
  | ld_a_r
  | rrd
  | rld
  | in_portC
  | out_portC_0
  deriving DecidableEq, Repr

/-- The instruction of a form. -/
noncomputable def Form.instr (f : Form) : Instr :=
  match f with
  | .ldRR dst src => .ldRR dst src
  | .ldRN r n => .ldRN r n
  | .ldRHl r => .ldRHl r
  | .ldRXy r xy d => .ldRXy r xy d
  | .ldHlR r => .ldHlR r
  | .ldXyR xy d r => .ldXyR xy d r
  | .ldXyN xy d n => .ldXyN xy d n
  | .ldPlainHalf r xy h => .ldPlainHalf r xy h
  | .ldHalfPlain xy h r => .ldHalfPlain xy h r
  | .ldHalfHalf xy h k => .ldHalfHalf xy h k
  | .ldHalfN xy h n => .ldHalfN xy h n
  | .ldPairNn p nn => .ldPairNn p nn
  | .ldXyNn xy nn => .ldXyNn xy nn
  | .ldPairMnn p nn => .ldPairMnn p nn
  | .ldXyMnn xy nn => .ldXyMnn xy nn
  | .ldMnnPair nn p => .ldMnnPair nn p
  | .ldMnnXy nn xy => .ldMnnXy nn xy
  | .ldSpXy xy => .ldSpXy xy
  | .exSpXy xy => .exSpXy xy
  | .alu op src => .alu op src
  | .inc8 dst => .inc8 dst
  | .dec8 dst => .dec8 dst
  | .addHl p => .addHl p
  | .addXy xy p => .addXy xy p
  | .adcHl p => .adcHl p
  | .sbcHl p => .sbcHl p
  | .incPair p => .incPair p
  | .decPair p => .decPair p
  | .incXy xy => .incXy xy
  | .decXy xy => .decXy xy
  | .negRow y => .negRow y
  | .rot op m => .rot op m
  | .bit b m => .bit b m
  | .res b m => .res b m
  | .set b m => .set b m
  | .ldStep dir => .ldStep dir
  | .ldRep dir => .ldRep dir
  | .cpStep dir => .cpStep dir
  | .cpRep dir => .cpRep dir
  | .inStep dir => .inStep dir
  | .inRep dir => .inRep dir
  | .outStep dir => .outStep dir
  | .outRep dir => .outRep dir
  | .jpCc cc nn => .jpCc cc nn
  | .jrCc cc e => .jrCc cc e
  | .jpXy xy => .jpXy xy
  | .callCc cc nn => .callCc cc nn
  | .retCc cc => .retCc cc
  | .retRow y => .retRow y
  | .rst p => .rst p
  | .push q => .push q
  | .pop q => .pop q
  | .pushXy xy => .pushXy xy
  | .popXy xy => .popXy xy
  | .inR r => .inR r
  | .outR r => .outR r
  | .imRow y => .imRow y
  | .prefixOf p => .prefixOf p
  | .nop => .nop
  | .ld_mbc_a => .ld_mbc_a
  | .rlca => .rlca
  | .ex_af_afAlt => .ex_af_afAlt
  | .ld_a_mbc => .ld_a_mbc
  | .rrca => .rrca
  | .djnz_e e => .djnz_e e
  | .ld_mde_a => .ld_mde_a
  | .rla => .rla
  | .jr_e e => .jr_e e
  | .ld_a_mde => .ld_a_mde
  | .rra => .rra
  | .ld_mnn_hl nn => .ld_mnn_hl nn
  | .daa => .daa
  | .ld_hl_mnn nn => .ld_hl_mnn nn
  | .cpl => .cpl
  | .ld_mnn_a nn => .ld_mnn_a nn
  | .ld_mhl_n n => .ld_mhl_n n
  | .scf => .scf
  | .ld_a_mnn nn => .ld_a_mnn nn
  | .ccf => .ccf
  | .halt => .halt
  | .jp_nn nn => .jp_nn nn
  | .ret => .ret
  | .call_nn nn => .call_nn nn
  | .out_portN_a n => .out_portN_a n
  | .exx => .exx
  | .in_a_portN n => .in_a_portN n
  | .ex_msp_hl => .ex_msp_hl
  | .jp_hl => .jp_hl
  | .ex_de_hl => .ex_de_hl
  | .di => .di
  | .ld_sp_hl => .ld_sp_hl
  | .ei => .ei
  | .ld_i_a => .ld_i_a
  | .ld_r_a => .ld_r_a
  | .ld_a_i => .ld_a_i
  | .ld_a_r => .ld_a_r
  | .rrd => .rrd
  | .rld => .rld
  | .in_portC => .in_portC
  | .out_portC_0 => .out_portC_0

/-- The form of an instruction. -/
def Instr.form (i : Instr) : Form :=
  match i with
  | .nop => .nop
  | .ld_bc_nn nn => .ldPairNn .bc nn
  | .ld_mbc_a => .ld_mbc_a
  | .inc_bc => .incPair .bc
  | .inc_b => .inc8 (.r .b)
  | .dec_b => .dec8 (.r .b)
  | .ld_b_n n => .ldRN .b n
  | .rlca => .rlca
  | .ex_af_afAlt => .ex_af_afAlt
  | .add_hl_bc => .addHl .bc
  | .ld_a_mbc => .ld_a_mbc
  | .dec_bc => .decPair .bc
  | .inc_c => .inc8 (.r .c)
  | .dec_c => .dec8 (.r .c)
  | .ld_c_n n => .ldRN .c n
  | .rrca => .rrca
  | .djnz_e e => .djnz_e e
  | .ld_de_nn nn => .ldPairNn .de nn
  | .ld_mde_a => .ld_mde_a
  | .inc_de => .incPair .de
  | .inc_d => .inc8 (.r .d)
  | .dec_d => .dec8 (.r .d)
  | .ld_d_n n => .ldRN .d n
  | .rla => .rla
  | .jr_e e => .jr_e e
  | .add_hl_de => .addHl .de
  | .ld_a_mde => .ld_a_mde
  | .dec_de => .decPair .de
  | .inc_e => .inc8 (.r .e)
  | .dec_e => .dec8 (.r .e)
  | .ld_e_n n => .ldRN .e n
  | .rra => .rra
  | .jr_nz_e e => .jrCc .nz e
  | .ld_hl_nn nn => .ldPairNn .hl nn
  | .ld_mnn_hl nn => .ld_mnn_hl nn
  | .inc_hl => .incPair .hl
  | .inc_h => .inc8 (.r .h)
  | .dec_h => .dec8 (.r .h)
  | .ld_h_n n => .ldRN .h n
  | .daa => .daa
  | .jr_z_e e => .jrCc .z e
  | .add_hl_hl => .addHl .hl
  | .ld_hl_mnn nn => .ld_hl_mnn nn
  | .dec_hl => .decPair .hl
  | .inc_l => .inc8 (.r .l)
  | .dec_l => .dec8 (.r .l)
  | .ld_l_n n => .ldRN .l n
  | .cpl => .cpl
  | .jr_nc_e e => .jrCc .nc e
  | .ld_sp_nn nn => .ldPairNn .sp nn
  | .ld_mnn_a nn => .ld_mnn_a nn
  | .inc_sp => .incPair .sp
  | .inc_mhl => .inc8 .hl
  | .dec_mhl => .dec8 .hl
  | .ld_mhl_n n => .ld_mhl_n n
  | .scf => .scf
  | .jr_c_e e => .jrCc .c e
  | .add_hl_sp => .addHl .sp
  | .ld_a_mnn nn => .ld_a_mnn nn
  | .dec_sp => .decPair .sp
  | .inc_a => .inc8 (.r .a)
  | .dec_a => .dec8 (.r .a)
  | .ld_a_n n => .ldRN .a n
  | .ccf => .ccf
  | .ld_b_b => .ldRR .b .b
  | .ld_b_c => .ldRR .b .c
  | .ld_b_d => .ldRR .b .d
  | .ld_b_e => .ldRR .b .e
  | .ld_b_h => .ldRR .b .h
  | .ld_b_l => .ldRR .b .l
  | .ld_b_mhl => .ldRHl .b
  | .ld_b_a => .ldRR .b .a
  | .ld_c_b => .ldRR .c .b
  | .ld_c_c => .ldRR .c .c
  | .ld_c_d => .ldRR .c .d
  | .ld_c_e => .ldRR .c .e
  | .ld_c_h => .ldRR .c .h
  | .ld_c_l => .ldRR .c .l
  | .ld_c_mhl => .ldRHl .c
  | .ld_c_a => .ldRR .c .a
  | .ld_d_b => .ldRR .d .b
  | .ld_d_c => .ldRR .d .c
  | .ld_d_d => .ldRR .d .d
  | .ld_d_e => .ldRR .d .e
  | .ld_d_h => .ldRR .d .h
  | .ld_d_l => .ldRR .d .l
  | .ld_d_mhl => .ldRHl .d
  | .ld_d_a => .ldRR .d .a
  | .ld_e_b => .ldRR .e .b
  | .ld_e_c => .ldRR .e .c
  | .ld_e_d => .ldRR .e .d
  | .ld_e_e => .ldRR .e .e
  | .ld_e_h => .ldRR .e .h
  | .ld_e_l => .ldRR .e .l
  | .ld_e_mhl => .ldRHl .e
  | .ld_e_a => .ldRR .e .a
  | .ld_h_b => .ldRR .h .b
  | .ld_h_c => .ldRR .h .c
  | .ld_h_d => .ldRR .h .d
  | .ld_h_e => .ldRR .h .e
  | .ld_h_h => .ldRR .h .h
  | .ld_h_l => .ldRR .h .l
  | .ld_h_mhl => .ldRHl .h
  | .ld_h_a => .ldRR .h .a
  | .ld_l_b => .ldRR .l .b
  | .ld_l_c => .ldRR .l .c
  | .ld_l_d => .ldRR .l .d
  | .ld_l_e => .ldRR .l .e
  | .ld_l_h => .ldRR .l .h
  | .ld_l_l => .ldRR .l .l
  | .ld_l_mhl => .ldRHl .l
  | .ld_l_a => .ldRR .l .a
  | .ld_mhl_b => .ldHlR .b
  | .ld_mhl_c => .ldHlR .c
  | .ld_mhl_d => .ldHlR .d
  | .ld_mhl_e => .ldHlR .e
  | .ld_mhl_h => .ldHlR .h
  | .ld_mhl_l => .ldHlR .l
  | .halt => .halt
  | .ld_mhl_a => .ldHlR .a
  | .ld_a_b => .ldRR .a .b
  | .ld_a_c => .ldRR .a .c
  | .ld_a_d => .ldRR .a .d
  | .ld_a_e => .ldRR .a .e
  | .ld_a_h => .ldRR .a .h
  | .ld_a_l => .ldRR .a .l
  | .ld_a_mhl => .ldRHl .a
  | .ld_a_a => .ldRR .a .a
  | .add_a_b => .alu .add (.r .b)
  | .add_a_c => .alu .add (.r .c)
  | .add_a_d => .alu .add (.r .d)
  | .add_a_e => .alu .add (.r .e)
  | .add_a_h => .alu .add (.r .h)
  | .add_a_l => .alu .add (.r .l)
  | .add_a_mhl => .alu .add .hl
  | .add_a_a => .alu .add (.r .a)
  | .adc_a_b => .alu .adc (.r .b)
  | .adc_a_c => .alu .adc (.r .c)
  | .adc_a_d => .alu .adc (.r .d)
  | .adc_a_e => .alu .adc (.r .e)
  | .adc_a_h => .alu .adc (.r .h)
  | .adc_a_l => .alu .adc (.r .l)
  | .adc_a_mhl => .alu .adc .hl
  | .adc_a_a => .alu .adc (.r .a)
  | .sub_b => .alu .sub (.r .b)
  | .sub_c => .alu .sub (.r .c)
  | .sub_d => .alu .sub (.r .d)
  | .sub_e => .alu .sub (.r .e)
  | .sub_h => .alu .sub (.r .h)
  | .sub_l => .alu .sub (.r .l)
  | .sub_mhl => .alu .sub .hl
  | .sub_a => .alu .sub (.r .a)
  | .sbc_a_b => .alu .sbc (.r .b)
  | .sbc_a_c => .alu .sbc (.r .c)
  | .sbc_a_d => .alu .sbc (.r .d)
  | .sbc_a_e => .alu .sbc (.r .e)
  | .sbc_a_h => .alu .sbc (.r .h)
  | .sbc_a_l => .alu .sbc (.r .l)
  | .sbc_a_mhl => .alu .sbc .hl
  | .sbc_a_a => .alu .sbc (.r .a)
  | .and_b => .alu .and (.r .b)
  | .and_c => .alu .and (.r .c)
  | .and_d => .alu .and (.r .d)
  | .and_e => .alu .and (.r .e)
  | .and_h => .alu .and (.r .h)
  | .and_l => .alu .and (.r .l)
  | .and_mhl => .alu .and .hl
  | .and_a => .alu .and (.r .a)
  | .xor_b => .alu .xor (.r .b)
  | .xor_c => .alu .xor (.r .c)
  | .xor_d => .alu .xor (.r .d)
  | .xor_e => .alu .xor (.r .e)
  | .xor_h => .alu .xor (.r .h)
  | .xor_l => .alu .xor (.r .l)
  | .xor_mhl => .alu .xor .hl
  | .xor_a => .alu .xor (.r .a)
  | .or_b => .alu .or (.r .b)
  | .or_c => .alu .or (.r .c)
  | .or_d => .alu .or (.r .d)
  | .or_e => .alu .or (.r .e)
  | .or_h => .alu .or (.r .h)
  | .or_l => .alu .or (.r .l)
  | .or_mhl => .alu .or .hl
  | .or_a => .alu .or (.r .a)
  | .cp_b => .alu .cp (.r .b)
  | .cp_c => .alu .cp (.r .c)
  | .cp_d => .alu .cp (.r .d)
  | .cp_e => .alu .cp (.r .e)
  | .cp_h => .alu .cp (.r .h)
  | .cp_l => .alu .cp (.r .l)
  | .cp_mhl => .alu .cp .hl
  | .cp_a => .alu .cp (.r .a)
  | .ret_nz => .retCc .nz
  | .pop_bc => .pop .bc
  | .jp_nz_nn nn => .jpCc .nz nn
  | .jp_nn nn => .jp_nn nn
  | .call_nz_nn nn => .callCc .nz nn
  | .push_bc => .push .bc
  | .add_a_n n => .alu .add (.n n)
  | .rst_00 => .rst .p00
  | .ret_z => .retCc .z
  | .ret => .ret
  | .jp_z_nn nn => .jpCc .z nn
  | .prefix_cb => .prefixOf .cb
  | .call_z_nn nn => .callCc .z nn
  | .call_nn nn => .call_nn nn
  | .adc_a_n n => .alu .adc (.n n)
  | .rst_08 => .rst .p08
  | .ret_nc => .retCc .nc
  | .pop_de => .pop .de
  | .jp_nc_nn nn => .jpCc .nc nn
  | .out_portN_a n => .out_portN_a n
  | .call_nc_nn nn => .callCc .nc nn
  | .push_de => .push .de
  | .sub_n n => .alu .sub (.n n)
  | .rst_10 => .rst .p10
  | .ret_c => .retCc .c
  | .exx => .exx
  | .jp_c_nn nn => .jpCc .c nn
  | .in_a_portN n => .in_a_portN n
  | .call_c_nn nn => .callCc .c nn
  | .prefix_dd => .prefixOf .dd
  | .sbc_a_n n => .alu .sbc (.n n)
  | .rst_18 => .rst .p18
  | .ret_po => .retCc .po
  | .pop_hl => .pop .hl
  | .jp_po_nn nn => .jpCc .po nn
  | .ex_msp_hl => .ex_msp_hl
  | .call_po_nn nn => .callCc .po nn
  | .push_hl => .push .hl
  | .and_n n => .alu .and (.n n)
  | .rst_20 => .rst .p20
  | .ret_pe => .retCc .pe
  | .jp_hl => .jp_hl
  | .jp_pe_nn nn => .jpCc .pe nn
  | .ex_de_hl => .ex_de_hl
  | .call_pe_nn nn => .callCc .pe nn
  | .prefix_ed => .prefixOf .ed
  | .xor_n n => .alu .xor (.n n)
  | .rst_28 => .rst .p28
  | .ret_p => .retCc .p
  | .pop_af => .pop .af
  | .jp_p_nn nn => .jpCc .p nn
  | .di => .di
  | .call_p_nn nn => .callCc .p nn
  | .push_af => .push .af
  | .or_n n => .alu .or (.n n)
  | .rst_30 => .rst .p30
  | .ret_m => .retCc .m
  | .ld_sp_hl => .ld_sp_hl
  | .jp_m_nn nn => .jpCc .m nn
  | .ei => .ei
  | .call_m_nn nn => .callCc .m nn
  | .prefix_fd => .prefixOf .fd
  | .cp_n n => .alu .cp (.n n)
  | .rst_38 => .rst .p38
  | .rlc_b => .rot .rlc (.r .b)
  | .rlc_c => .rot .rlc (.r .c)
  | .rlc_d => .rot .rlc (.r .d)
  | .rlc_e => .rot .rlc (.r .e)
  | .rlc_h => .rot .rlc (.r .h)
  | .rlc_l => .rot .rlc (.r .l)
  | .rlc_mhl => .rot .rlc .hl
  | .rlc_a => .rot .rlc (.r .a)
  | .rrc_b => .rot .rrc (.r .b)
  | .rrc_c => .rot .rrc (.r .c)
  | .rrc_d => .rot .rrc (.r .d)
  | .rrc_e => .rot .rrc (.r .e)
  | .rrc_h => .rot .rrc (.r .h)
  | .rrc_l => .rot .rrc (.r .l)
  | .rrc_mhl => .rot .rrc .hl
  | .rrc_a => .rot .rrc (.r .a)
  | .rl_b => .rot .rl (.r .b)
  | .rl_c => .rot .rl (.r .c)
  | .rl_d => .rot .rl (.r .d)
  | .rl_e => .rot .rl (.r .e)
  | .rl_h => .rot .rl (.r .h)
  | .rl_l => .rot .rl (.r .l)
  | .rl_mhl => .rot .rl .hl
  | .rl_a => .rot .rl (.r .a)
  | .rr_b => .rot .rr (.r .b)
  | .rr_c => .rot .rr (.r .c)
  | .rr_d => .rot .rr (.r .d)
  | .rr_e => .rot .rr (.r .e)
  | .rr_h => .rot .rr (.r .h)
  | .rr_l => .rot .rr (.r .l)
  | .rr_mhl => .rot .rr .hl
  | .rr_a => .rot .rr (.r .a)
  | .sla_b => .rot .sla (.r .b)
  | .sla_c => .rot .sla (.r .c)
  | .sla_d => .rot .sla (.r .d)
  | .sla_e => .rot .sla (.r .e)
  | .sla_h => .rot .sla (.r .h)
  | .sla_l => .rot .sla (.r .l)
  | .sla_mhl => .rot .sla .hl
  | .sla_a => .rot .sla (.r .a)
  | .sra_b => .rot .sra (.r .b)
  | .sra_c => .rot .sra (.r .c)
  | .sra_d => .rot .sra (.r .d)
  | .sra_e => .rot .sra (.r .e)
  | .sra_h => .rot .sra (.r .h)
  | .sra_l => .rot .sra (.r .l)
  | .sra_mhl => .rot .sra .hl
  | .sra_a => .rot .sra (.r .a)
  | .sll_b => .rot .sll (.r .b)
  | .sll_c => .rot .sll (.r .c)
  | .sll_d => .rot .sll (.r .d)
  | .sll_e => .rot .sll (.r .e)
  | .sll_h => .rot .sll (.r .h)
  | .sll_l => .rot .sll (.r .l)
  | .sll_mhl => .rot .sll .hl
  | .sll_a => .rot .sll (.r .a)
  | .srl_b => .rot .srl (.r .b)
  | .srl_c => .rot .srl (.r .c)
  | .srl_d => .rot .srl (.r .d)
  | .srl_e => .rot .srl (.r .e)
  | .srl_h => .rot .srl (.r .h)
  | .srl_l => .rot .srl (.r .l)
  | .srl_mhl => .rot .srl .hl
  | .srl_a => .rot .srl (.r .a)
  | .bit_0_b => .bit .b0 (.r .b)
  | .bit_0_c => .bit .b0 (.r .c)
  | .bit_0_d => .bit .b0 (.r .d)
  | .bit_0_e => .bit .b0 (.r .e)
  | .bit_0_h => .bit .b0 (.r .h)
  | .bit_0_l => .bit .b0 (.r .l)
  | .bit_0_mhl => .bit .b0 .hl
  | .bit_0_a => .bit .b0 (.r .a)
  | .bit_1_b => .bit .b1 (.r .b)
  | .bit_1_c => .bit .b1 (.r .c)
  | .bit_1_d => .bit .b1 (.r .d)
  | .bit_1_e => .bit .b1 (.r .e)
  | .bit_1_h => .bit .b1 (.r .h)
  | .bit_1_l => .bit .b1 (.r .l)
  | .bit_1_mhl => .bit .b1 .hl
  | .bit_1_a => .bit .b1 (.r .a)
  | .bit_2_b => .bit .b2 (.r .b)
  | .bit_2_c => .bit .b2 (.r .c)
  | .bit_2_d => .bit .b2 (.r .d)
  | .bit_2_e => .bit .b2 (.r .e)
  | .bit_2_h => .bit .b2 (.r .h)
  | .bit_2_l => .bit .b2 (.r .l)
  | .bit_2_mhl => .bit .b2 .hl
  | .bit_2_a => .bit .b2 (.r .a)
  | .bit_3_b => .bit .b3 (.r .b)
  | .bit_3_c => .bit .b3 (.r .c)
  | .bit_3_d => .bit .b3 (.r .d)
  | .bit_3_e => .bit .b3 (.r .e)
  | .bit_3_h => .bit .b3 (.r .h)
  | .bit_3_l => .bit .b3 (.r .l)
  | .bit_3_mhl => .bit .b3 .hl
  | .bit_3_a => .bit .b3 (.r .a)
  | .bit_4_b => .bit .b4 (.r .b)
  | .bit_4_c => .bit .b4 (.r .c)
  | .bit_4_d => .bit .b4 (.r .d)
  | .bit_4_e => .bit .b4 (.r .e)
  | .bit_4_h => .bit .b4 (.r .h)
  | .bit_4_l => .bit .b4 (.r .l)
  | .bit_4_mhl => .bit .b4 .hl
  | .bit_4_a => .bit .b4 (.r .a)
  | .bit_5_b => .bit .b5 (.r .b)
  | .bit_5_c => .bit .b5 (.r .c)
  | .bit_5_d => .bit .b5 (.r .d)
  | .bit_5_e => .bit .b5 (.r .e)
  | .bit_5_h => .bit .b5 (.r .h)
  | .bit_5_l => .bit .b5 (.r .l)
  | .bit_5_mhl => .bit .b5 .hl
  | .bit_5_a => .bit .b5 (.r .a)
  | .bit_6_b => .bit .b6 (.r .b)
  | .bit_6_c => .bit .b6 (.r .c)
  | .bit_6_d => .bit .b6 (.r .d)
  | .bit_6_e => .bit .b6 (.r .e)
  | .bit_6_h => .bit .b6 (.r .h)
  | .bit_6_l => .bit .b6 (.r .l)
  | .bit_6_mhl => .bit .b6 .hl
  | .bit_6_a => .bit .b6 (.r .a)
  | .bit_7_b => .bit .b7 (.r .b)
  | .bit_7_c => .bit .b7 (.r .c)
  | .bit_7_d => .bit .b7 (.r .d)
  | .bit_7_e => .bit .b7 (.r .e)
  | .bit_7_h => .bit .b7 (.r .h)
  | .bit_7_l => .bit .b7 (.r .l)
  | .bit_7_mhl => .bit .b7 .hl
  | .bit_7_a => .bit .b7 (.r .a)
  | .res_0_b => .res .b0 (.r .b)
  | .res_0_c => .res .b0 (.r .c)
  | .res_0_d => .res .b0 (.r .d)
  | .res_0_e => .res .b0 (.r .e)
  | .res_0_h => .res .b0 (.r .h)
  | .res_0_l => .res .b0 (.r .l)
  | .res_0_mhl => .res .b0 .hl
  | .res_0_a => .res .b0 (.r .a)
  | .res_1_b => .res .b1 (.r .b)
  | .res_1_c => .res .b1 (.r .c)
  | .res_1_d => .res .b1 (.r .d)
  | .res_1_e => .res .b1 (.r .e)
  | .res_1_h => .res .b1 (.r .h)
  | .res_1_l => .res .b1 (.r .l)
  | .res_1_mhl => .res .b1 .hl
  | .res_1_a => .res .b1 (.r .a)
  | .res_2_b => .res .b2 (.r .b)
  | .res_2_c => .res .b2 (.r .c)
  | .res_2_d => .res .b2 (.r .d)
  | .res_2_e => .res .b2 (.r .e)
  | .res_2_h => .res .b2 (.r .h)
  | .res_2_l => .res .b2 (.r .l)
  | .res_2_mhl => .res .b2 .hl
  | .res_2_a => .res .b2 (.r .a)
  | .res_3_b => .res .b3 (.r .b)
  | .res_3_c => .res .b3 (.r .c)
  | .res_3_d => .res .b3 (.r .d)
  | .res_3_e => .res .b3 (.r .e)
  | .res_3_h => .res .b3 (.r .h)
  | .res_3_l => .res .b3 (.r .l)
  | .res_3_mhl => .res .b3 .hl
  | .res_3_a => .res .b3 (.r .a)
  | .res_4_b => .res .b4 (.r .b)
  | .res_4_c => .res .b4 (.r .c)
  | .res_4_d => .res .b4 (.r .d)
  | .res_4_e => .res .b4 (.r .e)
  | .res_4_h => .res .b4 (.r .h)
  | .res_4_l => .res .b4 (.r .l)
  | .res_4_mhl => .res .b4 .hl
  | .res_4_a => .res .b4 (.r .a)
  | .res_5_b => .res .b5 (.r .b)
  | .res_5_c => .res .b5 (.r .c)
  | .res_5_d => .res .b5 (.r .d)
  | .res_5_e => .res .b5 (.r .e)
  | .res_5_h => .res .b5 (.r .h)
  | .res_5_l => .res .b5 (.r .l)
  | .res_5_mhl => .res .b5 .hl
  | .res_5_a => .res .b5 (.r .a)
  | .res_6_b => .res .b6 (.r .b)
  | .res_6_c => .res .b6 (.r .c)
  | .res_6_d => .res .b6 (.r .d)
  | .res_6_e => .res .b6 (.r .e)
  | .res_6_h => .res .b6 (.r .h)
  | .res_6_l => .res .b6 (.r .l)
  | .res_6_mhl => .res .b6 .hl
  | .res_6_a => .res .b6 (.r .a)
  | .res_7_b => .res .b7 (.r .b)
  | .res_7_c => .res .b7 (.r .c)
  | .res_7_d => .res .b7 (.r .d)
  | .res_7_e => .res .b7 (.r .e)
  | .res_7_h => .res .b7 (.r .h)
  | .res_7_l => .res .b7 (.r .l)
  | .res_7_mhl => .res .b7 .hl
  | .res_7_a => .res .b7 (.r .a)
  | .set_0_b => .set .b0 (.r .b)
  | .set_0_c => .set .b0 (.r .c)
  | .set_0_d => .set .b0 (.r .d)
  | .set_0_e => .set .b0 (.r .e)
  | .set_0_h => .set .b0 (.r .h)
  | .set_0_l => .set .b0 (.r .l)
  | .set_0_mhl => .set .b0 .hl
  | .set_0_a => .set .b0 (.r .a)
  | .set_1_b => .set .b1 (.r .b)
  | .set_1_c => .set .b1 (.r .c)
  | .set_1_d => .set .b1 (.r .d)
  | .set_1_e => .set .b1 (.r .e)
  | .set_1_h => .set .b1 (.r .h)
  | .set_1_l => .set .b1 (.r .l)
  | .set_1_mhl => .set .b1 .hl
  | .set_1_a => .set .b1 (.r .a)
  | .set_2_b => .set .b2 (.r .b)
  | .set_2_c => .set .b2 (.r .c)
  | .set_2_d => .set .b2 (.r .d)
  | .set_2_e => .set .b2 (.r .e)
  | .set_2_h => .set .b2 (.r .h)
  | .set_2_l => .set .b2 (.r .l)
  | .set_2_mhl => .set .b2 .hl
  | .set_2_a => .set .b2 (.r .a)
  | .set_3_b => .set .b3 (.r .b)
  | .set_3_c => .set .b3 (.r .c)
  | .set_3_d => .set .b3 (.r .d)
  | .set_3_e => .set .b3 (.r .e)
  | .set_3_h => .set .b3 (.r .h)
  | .set_3_l => .set .b3 (.r .l)
  | .set_3_mhl => .set .b3 .hl
  | .set_3_a => .set .b3 (.r .a)
  | .set_4_b => .set .b4 (.r .b)
  | .set_4_c => .set .b4 (.r .c)
  | .set_4_d => .set .b4 (.r .d)
  | .set_4_e => .set .b4 (.r .e)
  | .set_4_h => .set .b4 (.r .h)
  | .set_4_l => .set .b4 (.r .l)
  | .set_4_mhl => .set .b4 .hl
  | .set_4_a => .set .b4 (.r .a)
  | .set_5_b => .set .b5 (.r .b)
  | .set_5_c => .set .b5 (.r .c)
  | .set_5_d => .set .b5 (.r .d)
  | .set_5_e => .set .b5 (.r .e)
  | .set_5_h => .set .b5 (.r .h)
  | .set_5_l => .set .b5 (.r .l)
  | .set_5_mhl => .set .b5 .hl
  | .set_5_a => .set .b5 (.r .a)
  | .set_6_b => .set .b6 (.r .b)
  | .set_6_c => .set .b6 (.r .c)
  | .set_6_d => .set .b6 (.r .d)
  | .set_6_e => .set .b6 (.r .e)
  | .set_6_h => .set .b6 (.r .h)
  | .set_6_l => .set .b6 (.r .l)
  | .set_6_mhl => .set .b6 .hl
  | .set_6_a => .set .b6 (.r .a)
  | .set_7_b => .set .b7 (.r .b)
  | .set_7_c => .set .b7 (.r .c)
  | .set_7_d => .set .b7 (.r .d)
  | .set_7_e => .set .b7 (.r .e)
  | .set_7_h => .set .b7 (.r .h)
  | .set_7_l => .set .b7 (.r .l)
  | .set_7_mhl => .set .b7 .hl
  | .set_7_a => .set .b7 (.r .a)
  | .in_b_portC => .inR .b
  | .out_portC_b => .outR .b
  | .sbc_hl_bc => .sbcHl .bc
  | .ld_mnn_bc nn => .ldMnnPair nn .bc
  | .neg => .negRow .b0
  | .retn => .retRow .b0
  | .im_0 => .imRow .b0
  | .ld_i_a => .ld_i_a
  | .in_c_portC => .inR .c
  | .out_portC_c => .outR .c
  | .adc_hl_bc => .adcHl .bc
  | .ld_bc_mnn nn => .ldPairMnn .bc nn
  | .neg_ED4C => .negRow .b1
  | .reti => .retRow .b1
  | .im_0_ED4E => .imRow .b1
  | .ld_r_a => .ld_r_a
  | .in_d_portC => .inR .d
  | .out_portC_d => .outR .d
  | .sbc_hl_de => .sbcHl .de
  | .ld_mnn_de nn => .ldMnnPair nn .de
  | .neg_ED54 => .negRow .b2
  | .retn_ED55 => .retRow .b2
  | .im_1 => .imRow .b2
  | .ld_a_i => .ld_a_i
  | .in_e_portC => .inR .e
  | .out_portC_e => .outR .e
  | .adc_hl_de => .adcHl .de
  | .ld_de_mnn nn => .ldPairMnn .de nn
  | .neg_ED5C => .negRow .b3
  | .retn_ED5D => .retRow .b3
  | .im_2 => .imRow .b3
  | .ld_a_r => .ld_a_r
  | .in_h_portC => .inR .h
  | .out_portC_h => .outR .h
  | .sbc_hl_hl => .sbcHl .hl
  | .ld_mnn_hl_ED63 nn => .ldMnnPair nn .hl
  | .neg_ED64 => .negRow .b4
  | .retn_ED65 => .retRow .b4
  | .im_0_ED66 => .imRow .b4
  | .rrd => .rrd
  | .in_l_portC => .inR .l
  | .out_portC_l => .outR .l
  | .adc_hl_hl => .adcHl .hl
  | .ld_hl_mnn_ED6B nn => .ldPairMnn .hl nn
  | .neg_ED6C => .negRow .b5
  | .retn_ED6D => .retRow .b5
  | .im_0_ED6E => .imRow .b5
  | .rld => .rld
  | .in_portC => .in_portC
  | .out_portC_0 => .out_portC_0
  | .sbc_hl_sp => .sbcHl .sp
  | .ld_mnn_sp nn => .ldMnnPair nn .sp
  | .neg_ED74 => .negRow .b6
  | .retn_ED75 => .retRow .b6
  | .im_1_ED76 => .imRow .b6
  | .in_a_portC => .inR .a
  | .out_portC_a => .outR .a
  | .adc_hl_sp => .adcHl .sp
  | .ld_sp_mnn nn => .ldPairMnn .sp nn
  | .neg_ED7C => .negRow .b7
  | .retn_ED7D => .retRow .b7
  | .im_2_ED7E => .imRow .b7
  | .ldi => .ldStep .inc
  | .cpi => .cpStep .inc
  | .ini => .inStep .inc
  | .outi => .outStep .inc
  | .ldd => .ldStep .dec
  | .cpd => .cpStep .dec
  | .ind => .inStep .dec
  | .outd => .outStep .dec
  | .ldir => .ldRep .inc
  | .cpir => .cpRep .inc
  | .inir => .inRep .inc
  | .otir => .outRep .inc
  | .lddr => .ldRep .dec
  | .cpdr => .cpRep .dec
  | .indr => .inRep .dec
  | .otdr => .outRep .dec
  | .add_ix_bc => .addXy .ix .bc
  | .add_ix_de => .addXy .ix .de
  | .ld_ix_nn nn => .ldXyNn .ix nn
  | .ld_mnn_ix nn => .ldMnnXy nn .ix
  | .inc_ix => .incXy .ix
  | .inc_ixh => .inc8 (.half .ix .hi)
  | .dec_ixh => .dec8 (.half .ix .hi)
  | .ld_ixh_n n => .ldHalfN .ix .hi n
  | .add_ix_ix => .addXy .ix .xy
  | .ld_ix_mnn nn => .ldXyMnn .ix nn
  | .dec_ix => .decXy .ix
  | .inc_ixl => .inc8 (.half .ix .lo)
  | .dec_ixl => .dec8 (.half .ix .lo)
  | .ld_ixl_n n => .ldHalfN .ix .lo n
  | .inc_ixd d => .inc8 (.idx .ix d)
  | .dec_ixd d => .dec8 (.idx .ix d)
  | .ld_ixd_n d n => .ldXyN .ix d n
  | .add_ix_sp => .addXy .ix .sp
  | .ld_b_ixh => .ldPlainHalf .b .ix .hi
  | .ld_b_ixl => .ldPlainHalf .b .ix .lo
  | .ld_b_ixd d => .ldRXy .b .ix d
  | .ld_c_ixh => .ldPlainHalf .c .ix .hi
  | .ld_c_ixl => .ldPlainHalf .c .ix .lo
  | .ld_c_ixd d => .ldRXy .c .ix d
  | .ld_d_ixh => .ldPlainHalf .d .ix .hi
  | .ld_d_ixl => .ldPlainHalf .d .ix .lo
  | .ld_d_ixd d => .ldRXy .d .ix d
  | .ld_e_ixh => .ldPlainHalf .e .ix .hi
  | .ld_e_ixl => .ldPlainHalf .e .ix .lo
  | .ld_e_ixd d => .ldRXy .e .ix d
  | .ld_ixh_b => .ldHalfPlain .ix .hi .b
  | .ld_ixh_c => .ldHalfPlain .ix .hi .c
  | .ld_ixh_d => .ldHalfPlain .ix .hi .d
  | .ld_ixh_e => .ldHalfPlain .ix .hi .e
  | .ld_ixh_ixh => .ldHalfHalf .ix .hi .hi
  | .ld_ixh_ixl => .ldHalfHalf .ix .hi .lo
  | .ld_h_ixd d => .ldRXy .h .ix d
  | .ld_ixh_a => .ldHalfPlain .ix .hi .a
  | .ld_ixl_b => .ldHalfPlain .ix .lo .b
  | .ld_ixl_c => .ldHalfPlain .ix .lo .c
  | .ld_ixl_d => .ldHalfPlain .ix .lo .d
  | .ld_ixl_e => .ldHalfPlain .ix .lo .e
  | .ld_ixl_ixh => .ldHalfHalf .ix .lo .hi
  | .ld_ixl_ixl => .ldHalfHalf .ix .lo .lo
  | .ld_l_ixd d => .ldRXy .l .ix d
  | .ld_ixl_a => .ldHalfPlain .ix .lo .a
  | .ld_ixd_b d => .ldXyR .ix d .b
  | .ld_ixd_c d => .ldXyR .ix d .c
  | .ld_ixd_d d => .ldXyR .ix d .d
  | .ld_ixd_e d => .ldXyR .ix d .e
  | .ld_ixd_h d => .ldXyR .ix d .h
  | .ld_ixd_l d => .ldXyR .ix d .l
  | .ld_ixd_a d => .ldXyR .ix d .a
  | .ld_a_ixh => .ldPlainHalf .a .ix .hi
  | .ld_a_ixl => .ldPlainHalf .a .ix .lo
  | .ld_a_ixd d => .ldRXy .a .ix d
  | .add_a_ixh => .alu .add (.half .ix .hi)
  | .add_a_ixl => .alu .add (.half .ix .lo)
  | .add_a_ixd d => .alu .add (.idx .ix d)
  | .adc_a_ixh => .alu .adc (.half .ix .hi)
  | .adc_a_ixl => .alu .adc (.half .ix .lo)
  | .adc_a_ixd d => .alu .adc (.idx .ix d)
  | .sub_ixh => .alu .sub (.half .ix .hi)
  | .sub_ixl => .alu .sub (.half .ix .lo)
  | .sub_ixd d => .alu .sub (.idx .ix d)
  | .sbc_a_ixh => .alu .sbc (.half .ix .hi)
  | .sbc_a_ixl => .alu .sbc (.half .ix .lo)
  | .sbc_a_ixd d => .alu .sbc (.idx .ix d)
  | .and_ixh => .alu .and (.half .ix .hi)
  | .and_ixl => .alu .and (.half .ix .lo)
  | .and_ixd d => .alu .and (.idx .ix d)
  | .xor_ixh => .alu .xor (.half .ix .hi)
  | .xor_ixl => .alu .xor (.half .ix .lo)
  | .xor_ixd d => .alu .xor (.idx .ix d)
  | .or_ixh => .alu .or (.half .ix .hi)
  | .or_ixl => .alu .or (.half .ix .lo)
  | .or_ixd d => .alu .or (.idx .ix d)
  | .cp_ixh => .alu .cp (.half .ix .hi)
  | .cp_ixl => .alu .cp (.half .ix .lo)
  | .cp_ixd d => .alu .cp (.idx .ix d)
  | .pop_ix => .popXy .ix
  | .ex_msp_ix => .exSpXy .ix
  | .push_ix => .pushXy .ix
  | .jp_ix => .jpXy .ix
  | .ld_sp_ix => .ldSpXy .ix
  | .rlc_ixd_b d => .rot .rlc (.idxCopy .ix d .b)
  | .rlc_ixd_c d => .rot .rlc (.idxCopy .ix d .c)
  | .rlc_ixd_d d => .rot .rlc (.idxCopy .ix d .d)
  | .rlc_ixd_e d => .rot .rlc (.idxCopy .ix d .e)
  | .rlc_ixd_h d => .rot .rlc (.idxCopy .ix d .h)
  | .rlc_ixd_l d => .rot .rlc (.idxCopy .ix d .l)
  | .rlc_ixd d => .rot .rlc (.idx .ix d)
  | .rlc_ixd_a d => .rot .rlc (.idxCopy .ix d .a)
  | .rrc_ixd_b d => .rot .rrc (.idxCopy .ix d .b)
  | .rrc_ixd_c d => .rot .rrc (.idxCopy .ix d .c)
  | .rrc_ixd_d d => .rot .rrc (.idxCopy .ix d .d)
  | .rrc_ixd_e d => .rot .rrc (.idxCopy .ix d .e)
  | .rrc_ixd_h d => .rot .rrc (.idxCopy .ix d .h)
  | .rrc_ixd_l d => .rot .rrc (.idxCopy .ix d .l)
  | .rrc_ixd d => .rot .rrc (.idx .ix d)
  | .rrc_ixd_a d => .rot .rrc (.idxCopy .ix d .a)
  | .rl_ixd_b d => .rot .rl (.idxCopy .ix d .b)
  | .rl_ixd_c d => .rot .rl (.idxCopy .ix d .c)
  | .rl_ixd_d d => .rot .rl (.idxCopy .ix d .d)
  | .rl_ixd_e d => .rot .rl (.idxCopy .ix d .e)
  | .rl_ixd_h d => .rot .rl (.idxCopy .ix d .h)
  | .rl_ixd_l d => .rot .rl (.idxCopy .ix d .l)
  | .rl_ixd d => .rot .rl (.idx .ix d)
  | .rl_ixd_a d => .rot .rl (.idxCopy .ix d .a)
  | .rr_ixd_b d => .rot .rr (.idxCopy .ix d .b)
  | .rr_ixd_c d => .rot .rr (.idxCopy .ix d .c)
  | .rr_ixd_d d => .rot .rr (.idxCopy .ix d .d)
  | .rr_ixd_e d => .rot .rr (.idxCopy .ix d .e)
  | .rr_ixd_h d => .rot .rr (.idxCopy .ix d .h)
  | .rr_ixd_l d => .rot .rr (.idxCopy .ix d .l)
  | .rr_ixd d => .rot .rr (.idx .ix d)
  | .rr_ixd_a d => .rot .rr (.idxCopy .ix d .a)
  | .sla_ixd_b d => .rot .sla (.idxCopy .ix d .b)
  | .sla_ixd_c d => .rot .sla (.idxCopy .ix d .c)
  | .sla_ixd_d d => .rot .sla (.idxCopy .ix d .d)
  | .sla_ixd_e d => .rot .sla (.idxCopy .ix d .e)
  | .sla_ixd_h d => .rot .sla (.idxCopy .ix d .h)
  | .sla_ixd_l d => .rot .sla (.idxCopy .ix d .l)
  | .sla_ixd d => .rot .sla (.idx .ix d)
  | .sla_ixd_a d => .rot .sla (.idxCopy .ix d .a)
  | .sra_ixd_b d => .rot .sra (.idxCopy .ix d .b)
  | .sra_ixd_c d => .rot .sra (.idxCopy .ix d .c)
  | .sra_ixd_d d => .rot .sra (.idxCopy .ix d .d)
  | .sra_ixd_e d => .rot .sra (.idxCopy .ix d .e)
  | .sra_ixd_h d => .rot .sra (.idxCopy .ix d .h)
  | .sra_ixd_l d => .rot .sra (.idxCopy .ix d .l)
  | .sra_ixd d => .rot .sra (.idx .ix d)
  | .sra_ixd_a d => .rot .sra (.idxCopy .ix d .a)
  | .sll_ixd_b d => .rot .sll (.idxCopy .ix d .b)
  | .sll_ixd_c d => .rot .sll (.idxCopy .ix d .c)
  | .sll_ixd_d d => .rot .sll (.idxCopy .ix d .d)
  | .sll_ixd_e d => .rot .sll (.idxCopy .ix d .e)
  | .sll_ixd_h d => .rot .sll (.idxCopy .ix d .h)
  | .sll_ixd_l d => .rot .sll (.idxCopy .ix d .l)
  | .sll_ixd d => .rot .sll (.idx .ix d)
  | .sll_ixd_a d => .rot .sll (.idxCopy .ix d .a)
  | .srl_ixd_b d => .rot .srl (.idxCopy .ix d .b)
  | .srl_ixd_c d => .rot .srl (.idxCopy .ix d .c)
  | .srl_ixd_d d => .rot .srl (.idxCopy .ix d .d)
  | .srl_ixd_e d => .rot .srl (.idxCopy .ix d .e)
  | .srl_ixd_h d => .rot .srl (.idxCopy .ix d .h)
  | .srl_ixd_l d => .rot .srl (.idxCopy .ix d .l)
  | .srl_ixd d => .rot .srl (.idx .ix d)
  | .srl_ixd_a d => .rot .srl (.idxCopy .ix d .a)
  | .bit_0_ixd_z0 d => .bit .b0 (.idxCopy .ix d .b)
  | .bit_0_ixd_z1 d => .bit .b0 (.idxCopy .ix d .c)
  | .bit_0_ixd_z2 d => .bit .b0 (.idxCopy .ix d .d)
  | .bit_0_ixd_z3 d => .bit .b0 (.idxCopy .ix d .e)
  | .bit_0_ixd_z4 d => .bit .b0 (.idxCopy .ix d .h)
  | .bit_0_ixd_z5 d => .bit .b0 (.idxCopy .ix d .l)
  | .bit_0_ixd d => .bit .b0 (.idx .ix d)
  | .bit_0_ixd_z7 d => .bit .b0 (.idxCopy .ix d .a)
  | .bit_1_ixd_z0 d => .bit .b1 (.idxCopy .ix d .b)
  | .bit_1_ixd_z1 d => .bit .b1 (.idxCopy .ix d .c)
  | .bit_1_ixd_z2 d => .bit .b1 (.idxCopy .ix d .d)
  | .bit_1_ixd_z3 d => .bit .b1 (.idxCopy .ix d .e)
  | .bit_1_ixd_z4 d => .bit .b1 (.idxCopy .ix d .h)
  | .bit_1_ixd_z5 d => .bit .b1 (.idxCopy .ix d .l)
  | .bit_1_ixd d => .bit .b1 (.idx .ix d)
  | .bit_1_ixd_z7 d => .bit .b1 (.idxCopy .ix d .a)
  | .bit_2_ixd_z0 d => .bit .b2 (.idxCopy .ix d .b)
  | .bit_2_ixd_z1 d => .bit .b2 (.idxCopy .ix d .c)
  | .bit_2_ixd_z2 d => .bit .b2 (.idxCopy .ix d .d)
  | .bit_2_ixd_z3 d => .bit .b2 (.idxCopy .ix d .e)
  | .bit_2_ixd_z4 d => .bit .b2 (.idxCopy .ix d .h)
  | .bit_2_ixd_z5 d => .bit .b2 (.idxCopy .ix d .l)
  | .bit_2_ixd d => .bit .b2 (.idx .ix d)
  | .bit_2_ixd_z7 d => .bit .b2 (.idxCopy .ix d .a)
  | .bit_3_ixd_z0 d => .bit .b3 (.idxCopy .ix d .b)
  | .bit_3_ixd_z1 d => .bit .b3 (.idxCopy .ix d .c)
  | .bit_3_ixd_z2 d => .bit .b3 (.idxCopy .ix d .d)
  | .bit_3_ixd_z3 d => .bit .b3 (.idxCopy .ix d .e)
  | .bit_3_ixd_z4 d => .bit .b3 (.idxCopy .ix d .h)
  | .bit_3_ixd_z5 d => .bit .b3 (.idxCopy .ix d .l)
  | .bit_3_ixd d => .bit .b3 (.idx .ix d)
  | .bit_3_ixd_z7 d => .bit .b3 (.idxCopy .ix d .a)
  | .bit_4_ixd_z0 d => .bit .b4 (.idxCopy .ix d .b)
  | .bit_4_ixd_z1 d => .bit .b4 (.idxCopy .ix d .c)
  | .bit_4_ixd_z2 d => .bit .b4 (.idxCopy .ix d .d)
  | .bit_4_ixd_z3 d => .bit .b4 (.idxCopy .ix d .e)
  | .bit_4_ixd_z4 d => .bit .b4 (.idxCopy .ix d .h)
  | .bit_4_ixd_z5 d => .bit .b4 (.idxCopy .ix d .l)
  | .bit_4_ixd d => .bit .b4 (.idx .ix d)
  | .bit_4_ixd_z7 d => .bit .b4 (.idxCopy .ix d .a)
  | .bit_5_ixd_z0 d => .bit .b5 (.idxCopy .ix d .b)
  | .bit_5_ixd_z1 d => .bit .b5 (.idxCopy .ix d .c)
  | .bit_5_ixd_z2 d => .bit .b5 (.idxCopy .ix d .d)
  | .bit_5_ixd_z3 d => .bit .b5 (.idxCopy .ix d .e)
  | .bit_5_ixd_z4 d => .bit .b5 (.idxCopy .ix d .h)
  | .bit_5_ixd_z5 d => .bit .b5 (.idxCopy .ix d .l)
  | .bit_5_ixd d => .bit .b5 (.idx .ix d)
  | .bit_5_ixd_z7 d => .bit .b5 (.idxCopy .ix d .a)
  | .bit_6_ixd_z0 d => .bit .b6 (.idxCopy .ix d .b)
  | .bit_6_ixd_z1 d => .bit .b6 (.idxCopy .ix d .c)
  | .bit_6_ixd_z2 d => .bit .b6 (.idxCopy .ix d .d)
  | .bit_6_ixd_z3 d => .bit .b6 (.idxCopy .ix d .e)
  | .bit_6_ixd_z4 d => .bit .b6 (.idxCopy .ix d .h)
  | .bit_6_ixd_z5 d => .bit .b6 (.idxCopy .ix d .l)
  | .bit_6_ixd d => .bit .b6 (.idx .ix d)
  | .bit_6_ixd_z7 d => .bit .b6 (.idxCopy .ix d .a)
  | .bit_7_ixd_z0 d => .bit .b7 (.idxCopy .ix d .b)
  | .bit_7_ixd_z1 d => .bit .b7 (.idxCopy .ix d .c)
  | .bit_7_ixd_z2 d => .bit .b7 (.idxCopy .ix d .d)
  | .bit_7_ixd_z3 d => .bit .b7 (.idxCopy .ix d .e)
  | .bit_7_ixd_z4 d => .bit .b7 (.idxCopy .ix d .h)
  | .bit_7_ixd_z5 d => .bit .b7 (.idxCopy .ix d .l)
  | .bit_7_ixd d => .bit .b7 (.idx .ix d)
  | .bit_7_ixd_z7 d => .bit .b7 (.idxCopy .ix d .a)
  | .res_0_ixd_b d => .res .b0 (.idxCopy .ix d .b)
  | .res_0_ixd_c d => .res .b0 (.idxCopy .ix d .c)
  | .res_0_ixd_d d => .res .b0 (.idxCopy .ix d .d)
  | .res_0_ixd_e d => .res .b0 (.idxCopy .ix d .e)
  | .res_0_ixd_h d => .res .b0 (.idxCopy .ix d .h)
  | .res_0_ixd_l d => .res .b0 (.idxCopy .ix d .l)
  | .res_0_ixd d => .res .b0 (.idx .ix d)
  | .res_0_ixd_a d => .res .b0 (.idxCopy .ix d .a)
  | .res_1_ixd_b d => .res .b1 (.idxCopy .ix d .b)
  | .res_1_ixd_c d => .res .b1 (.idxCopy .ix d .c)
  | .res_1_ixd_d d => .res .b1 (.idxCopy .ix d .d)
  | .res_1_ixd_e d => .res .b1 (.idxCopy .ix d .e)
  | .res_1_ixd_h d => .res .b1 (.idxCopy .ix d .h)
  | .res_1_ixd_l d => .res .b1 (.idxCopy .ix d .l)
  | .res_1_ixd d => .res .b1 (.idx .ix d)
  | .res_1_ixd_a d => .res .b1 (.idxCopy .ix d .a)
  | .res_2_ixd_b d => .res .b2 (.idxCopy .ix d .b)
  | .res_2_ixd_c d => .res .b2 (.idxCopy .ix d .c)
  | .res_2_ixd_d d => .res .b2 (.idxCopy .ix d .d)
  | .res_2_ixd_e d => .res .b2 (.idxCopy .ix d .e)
  | .res_2_ixd_h d => .res .b2 (.idxCopy .ix d .h)
  | .res_2_ixd_l d => .res .b2 (.idxCopy .ix d .l)
  | .res_2_ixd d => .res .b2 (.idx .ix d)
  | .res_2_ixd_a d => .res .b2 (.idxCopy .ix d .a)
  | .res_3_ixd_b d => .res .b3 (.idxCopy .ix d .b)
  | .res_3_ixd_c d => .res .b3 (.idxCopy .ix d .c)
  | .res_3_ixd_d d => .res .b3 (.idxCopy .ix d .d)
  | .res_3_ixd_e d => .res .b3 (.idxCopy .ix d .e)
  | .res_3_ixd_h d => .res .b3 (.idxCopy .ix d .h)
  | .res_3_ixd_l d => .res .b3 (.idxCopy .ix d .l)
  | .res_3_ixd d => .res .b3 (.idx .ix d)
  | .res_3_ixd_a d => .res .b3 (.idxCopy .ix d .a)
  | .res_4_ixd_b d => .res .b4 (.idxCopy .ix d .b)
  | .res_4_ixd_c d => .res .b4 (.idxCopy .ix d .c)
  | .res_4_ixd_d d => .res .b4 (.idxCopy .ix d .d)
  | .res_4_ixd_e d => .res .b4 (.idxCopy .ix d .e)
  | .res_4_ixd_h d => .res .b4 (.idxCopy .ix d .h)
  | .res_4_ixd_l d => .res .b4 (.idxCopy .ix d .l)
  | .res_4_ixd d => .res .b4 (.idx .ix d)
  | .res_4_ixd_a d => .res .b4 (.idxCopy .ix d .a)
  | .res_5_ixd_b d => .res .b5 (.idxCopy .ix d .b)
  | .res_5_ixd_c d => .res .b5 (.idxCopy .ix d .c)
  | .res_5_ixd_d d => .res .b5 (.idxCopy .ix d .d)
  | .res_5_ixd_e d => .res .b5 (.idxCopy .ix d .e)
  | .res_5_ixd_h d => .res .b5 (.idxCopy .ix d .h)
  | .res_5_ixd_l d => .res .b5 (.idxCopy .ix d .l)
  | .res_5_ixd d => .res .b5 (.idx .ix d)
  | .res_5_ixd_a d => .res .b5 (.idxCopy .ix d .a)
  | .res_6_ixd_b d => .res .b6 (.idxCopy .ix d .b)
  | .res_6_ixd_c d => .res .b6 (.idxCopy .ix d .c)
  | .res_6_ixd_d d => .res .b6 (.idxCopy .ix d .d)
  | .res_6_ixd_e d => .res .b6 (.idxCopy .ix d .e)
  | .res_6_ixd_h d => .res .b6 (.idxCopy .ix d .h)
  | .res_6_ixd_l d => .res .b6 (.idxCopy .ix d .l)
  | .res_6_ixd d => .res .b6 (.idx .ix d)
  | .res_6_ixd_a d => .res .b6 (.idxCopy .ix d .a)
  | .res_7_ixd_b d => .res .b7 (.idxCopy .ix d .b)
  | .res_7_ixd_c d => .res .b7 (.idxCopy .ix d .c)
  | .res_7_ixd_d d => .res .b7 (.idxCopy .ix d .d)
  | .res_7_ixd_e d => .res .b7 (.idxCopy .ix d .e)
  | .res_7_ixd_h d => .res .b7 (.idxCopy .ix d .h)
  | .res_7_ixd_l d => .res .b7 (.idxCopy .ix d .l)
  | .res_7_ixd d => .res .b7 (.idx .ix d)
  | .res_7_ixd_a d => .res .b7 (.idxCopy .ix d .a)
  | .set_0_ixd_b d => .set .b0 (.idxCopy .ix d .b)
  | .set_0_ixd_c d => .set .b0 (.idxCopy .ix d .c)
  | .set_0_ixd_d d => .set .b0 (.idxCopy .ix d .d)
  | .set_0_ixd_e d => .set .b0 (.idxCopy .ix d .e)
  | .set_0_ixd_h d => .set .b0 (.idxCopy .ix d .h)
  | .set_0_ixd_l d => .set .b0 (.idxCopy .ix d .l)
  | .set_0_ixd d => .set .b0 (.idx .ix d)
  | .set_0_ixd_a d => .set .b0 (.idxCopy .ix d .a)
  | .set_1_ixd_b d => .set .b1 (.idxCopy .ix d .b)
  | .set_1_ixd_c d => .set .b1 (.idxCopy .ix d .c)
  | .set_1_ixd_d d => .set .b1 (.idxCopy .ix d .d)
  | .set_1_ixd_e d => .set .b1 (.idxCopy .ix d .e)
  | .set_1_ixd_h d => .set .b1 (.idxCopy .ix d .h)
  | .set_1_ixd_l d => .set .b1 (.idxCopy .ix d .l)
  | .set_1_ixd d => .set .b1 (.idx .ix d)
  | .set_1_ixd_a d => .set .b1 (.idxCopy .ix d .a)
  | .set_2_ixd_b d => .set .b2 (.idxCopy .ix d .b)
  | .set_2_ixd_c d => .set .b2 (.idxCopy .ix d .c)
  | .set_2_ixd_d d => .set .b2 (.idxCopy .ix d .d)
  | .set_2_ixd_e d => .set .b2 (.idxCopy .ix d .e)
  | .set_2_ixd_h d => .set .b2 (.idxCopy .ix d .h)
  | .set_2_ixd_l d => .set .b2 (.idxCopy .ix d .l)
  | .set_2_ixd d => .set .b2 (.idx .ix d)
  | .set_2_ixd_a d => .set .b2 (.idxCopy .ix d .a)
  | .set_3_ixd_b d => .set .b3 (.idxCopy .ix d .b)
  | .set_3_ixd_c d => .set .b3 (.idxCopy .ix d .c)
  | .set_3_ixd_d d => .set .b3 (.idxCopy .ix d .d)
  | .set_3_ixd_e d => .set .b3 (.idxCopy .ix d .e)
  | .set_3_ixd_h d => .set .b3 (.idxCopy .ix d .h)
  | .set_3_ixd_l d => .set .b3 (.idxCopy .ix d .l)
  | .set_3_ixd d => .set .b3 (.idx .ix d)
  | .set_3_ixd_a d => .set .b3 (.idxCopy .ix d .a)
  | .set_4_ixd_b d => .set .b4 (.idxCopy .ix d .b)
  | .set_4_ixd_c d => .set .b4 (.idxCopy .ix d .c)
  | .set_4_ixd_d d => .set .b4 (.idxCopy .ix d .d)
  | .set_4_ixd_e d => .set .b4 (.idxCopy .ix d .e)
  | .set_4_ixd_h d => .set .b4 (.idxCopy .ix d .h)
  | .set_4_ixd_l d => .set .b4 (.idxCopy .ix d .l)
  | .set_4_ixd d => .set .b4 (.idx .ix d)
  | .set_4_ixd_a d => .set .b4 (.idxCopy .ix d .a)
  | .set_5_ixd_b d => .set .b5 (.idxCopy .ix d .b)
  | .set_5_ixd_c d => .set .b5 (.idxCopy .ix d .c)
  | .set_5_ixd_d d => .set .b5 (.idxCopy .ix d .d)
  | .set_5_ixd_e d => .set .b5 (.idxCopy .ix d .e)
  | .set_5_ixd_h d => .set .b5 (.idxCopy .ix d .h)
  | .set_5_ixd_l d => .set .b5 (.idxCopy .ix d .l)
  | .set_5_ixd d => .set .b5 (.idx .ix d)
  | .set_5_ixd_a d => .set .b5 (.idxCopy .ix d .a)
  | .set_6_ixd_b d => .set .b6 (.idxCopy .ix d .b)
  | .set_6_ixd_c d => .set .b6 (.idxCopy .ix d .c)
  | .set_6_ixd_d d => .set .b6 (.idxCopy .ix d .d)
  | .set_6_ixd_e d => .set .b6 (.idxCopy .ix d .e)
  | .set_6_ixd_h d => .set .b6 (.idxCopy .ix d .h)
  | .set_6_ixd_l d => .set .b6 (.idxCopy .ix d .l)
  | .set_6_ixd d => .set .b6 (.idx .ix d)
  | .set_6_ixd_a d => .set .b6 (.idxCopy .ix d .a)
  | .set_7_ixd_b d => .set .b7 (.idxCopy .ix d .b)
  | .set_7_ixd_c d => .set .b7 (.idxCopy .ix d .c)
  | .set_7_ixd_d d => .set .b7 (.idxCopy .ix d .d)
  | .set_7_ixd_e d => .set .b7 (.idxCopy .ix d .e)
  | .set_7_ixd_h d => .set .b7 (.idxCopy .ix d .h)
  | .set_7_ixd_l d => .set .b7 (.idxCopy .ix d .l)
  | .set_7_ixd d => .set .b7 (.idx .ix d)
  | .set_7_ixd_a d => .set .b7 (.idxCopy .ix d .a)
  | .add_iy_bc => .addXy .iy .bc
  | .add_iy_de => .addXy .iy .de
  | .ld_iy_nn nn => .ldXyNn .iy nn
  | .ld_mnn_iy nn => .ldMnnXy nn .iy
  | .inc_iy => .incXy .iy
  | .inc_iyh => .inc8 (.half .iy .hi)
  | .dec_iyh => .dec8 (.half .iy .hi)
  | .ld_iyh_n n => .ldHalfN .iy .hi n
  | .add_iy_iy => .addXy .iy .xy
  | .ld_iy_mnn nn => .ldXyMnn .iy nn
  | .dec_iy => .decXy .iy
  | .inc_iyl => .inc8 (.half .iy .lo)
  | .dec_iyl => .dec8 (.half .iy .lo)
  | .ld_iyl_n n => .ldHalfN .iy .lo n
  | .inc_iyd d => .inc8 (.idx .iy d)
  | .dec_iyd d => .dec8 (.idx .iy d)
  | .ld_iyd_n d n => .ldXyN .iy d n
  | .add_iy_sp => .addXy .iy .sp
  | .ld_b_iyh => .ldPlainHalf .b .iy .hi
  | .ld_b_iyl => .ldPlainHalf .b .iy .lo
  | .ld_b_iyd d => .ldRXy .b .iy d
  | .ld_c_iyh => .ldPlainHalf .c .iy .hi
  | .ld_c_iyl => .ldPlainHalf .c .iy .lo
  | .ld_c_iyd d => .ldRXy .c .iy d
  | .ld_d_iyh => .ldPlainHalf .d .iy .hi
  | .ld_d_iyl => .ldPlainHalf .d .iy .lo
  | .ld_d_iyd d => .ldRXy .d .iy d
  | .ld_e_iyh => .ldPlainHalf .e .iy .hi
  | .ld_e_iyl => .ldPlainHalf .e .iy .lo
  | .ld_e_iyd d => .ldRXy .e .iy d
  | .ld_iyh_b => .ldHalfPlain .iy .hi .b
  | .ld_iyh_c => .ldHalfPlain .iy .hi .c
  | .ld_iyh_d => .ldHalfPlain .iy .hi .d
  | .ld_iyh_e => .ldHalfPlain .iy .hi .e
  | .ld_iyh_iyh => .ldHalfHalf .iy .hi .hi
  | .ld_iyh_iyl => .ldHalfHalf .iy .hi .lo
  | .ld_h_iyd d => .ldRXy .h .iy d
  | .ld_iyh_a => .ldHalfPlain .iy .hi .a
  | .ld_iyl_b => .ldHalfPlain .iy .lo .b
  | .ld_iyl_c => .ldHalfPlain .iy .lo .c
  | .ld_iyl_d => .ldHalfPlain .iy .lo .d
  | .ld_iyl_e => .ldHalfPlain .iy .lo .e
  | .ld_iyl_iyh => .ldHalfHalf .iy .lo .hi
  | .ld_iyl_iyl => .ldHalfHalf .iy .lo .lo
  | .ld_l_iyd d => .ldRXy .l .iy d
  | .ld_iyl_a => .ldHalfPlain .iy .lo .a
  | .ld_iyd_b d => .ldXyR .iy d .b
  | .ld_iyd_c d => .ldXyR .iy d .c
  | .ld_iyd_d d => .ldXyR .iy d .d
  | .ld_iyd_e d => .ldXyR .iy d .e
  | .ld_iyd_h d => .ldXyR .iy d .h
  | .ld_iyd_l d => .ldXyR .iy d .l
  | .ld_iyd_a d => .ldXyR .iy d .a
  | .ld_a_iyh => .ldPlainHalf .a .iy .hi
  | .ld_a_iyl => .ldPlainHalf .a .iy .lo
  | .ld_a_iyd d => .ldRXy .a .iy d
  | .add_a_iyh => .alu .add (.half .iy .hi)
  | .add_a_iyl => .alu .add (.half .iy .lo)
  | .add_a_iyd d => .alu .add (.idx .iy d)
  | .adc_a_iyh => .alu .adc (.half .iy .hi)
  | .adc_a_iyl => .alu .adc (.half .iy .lo)
  | .adc_a_iyd d => .alu .adc (.idx .iy d)
  | .sub_iyh => .alu .sub (.half .iy .hi)
  | .sub_iyl => .alu .sub (.half .iy .lo)
  | .sub_iyd d => .alu .sub (.idx .iy d)
  | .sbc_a_iyh => .alu .sbc (.half .iy .hi)
  | .sbc_a_iyl => .alu .sbc (.half .iy .lo)
  | .sbc_a_iyd d => .alu .sbc (.idx .iy d)
  | .and_iyh => .alu .and (.half .iy .hi)
  | .and_iyl => .alu .and (.half .iy .lo)
  | .and_iyd d => .alu .and (.idx .iy d)
  | .xor_iyh => .alu .xor (.half .iy .hi)
  | .xor_iyl => .alu .xor (.half .iy .lo)
  | .xor_iyd d => .alu .xor (.idx .iy d)
  | .or_iyh => .alu .or (.half .iy .hi)
  | .or_iyl => .alu .or (.half .iy .lo)
  | .or_iyd d => .alu .or (.idx .iy d)
  | .cp_iyh => .alu .cp (.half .iy .hi)
  | .cp_iyl => .alu .cp (.half .iy .lo)
  | .cp_iyd d => .alu .cp (.idx .iy d)
  | .pop_iy => .popXy .iy
  | .ex_msp_iy => .exSpXy .iy
  | .push_iy => .pushXy .iy
  | .jp_iy => .jpXy .iy
  | .ld_sp_iy => .ldSpXy .iy
  | .rlc_iyd_b d => .rot .rlc (.idxCopy .iy d .b)
  | .rlc_iyd_c d => .rot .rlc (.idxCopy .iy d .c)
  | .rlc_iyd_d d => .rot .rlc (.idxCopy .iy d .d)
  | .rlc_iyd_e d => .rot .rlc (.idxCopy .iy d .e)
  | .rlc_iyd_h d => .rot .rlc (.idxCopy .iy d .h)
  | .rlc_iyd_l d => .rot .rlc (.idxCopy .iy d .l)
  | .rlc_iyd d => .rot .rlc (.idx .iy d)
  | .rlc_iyd_a d => .rot .rlc (.idxCopy .iy d .a)
  | .rrc_iyd_b d => .rot .rrc (.idxCopy .iy d .b)
  | .rrc_iyd_c d => .rot .rrc (.idxCopy .iy d .c)
  | .rrc_iyd_d d => .rot .rrc (.idxCopy .iy d .d)
  | .rrc_iyd_e d => .rot .rrc (.idxCopy .iy d .e)
  | .rrc_iyd_h d => .rot .rrc (.idxCopy .iy d .h)
  | .rrc_iyd_l d => .rot .rrc (.idxCopy .iy d .l)
  | .rrc_iyd d => .rot .rrc (.idx .iy d)
  | .rrc_iyd_a d => .rot .rrc (.idxCopy .iy d .a)
  | .rl_iyd_b d => .rot .rl (.idxCopy .iy d .b)
  | .rl_iyd_c d => .rot .rl (.idxCopy .iy d .c)
  | .rl_iyd_d d => .rot .rl (.idxCopy .iy d .d)
  | .rl_iyd_e d => .rot .rl (.idxCopy .iy d .e)
  | .rl_iyd_h d => .rot .rl (.idxCopy .iy d .h)
  | .rl_iyd_l d => .rot .rl (.idxCopy .iy d .l)
  | .rl_iyd d => .rot .rl (.idx .iy d)
  | .rl_iyd_a d => .rot .rl (.idxCopy .iy d .a)
  | .rr_iyd_b d => .rot .rr (.idxCopy .iy d .b)
  | .rr_iyd_c d => .rot .rr (.idxCopy .iy d .c)
  | .rr_iyd_d d => .rot .rr (.idxCopy .iy d .d)
  | .rr_iyd_e d => .rot .rr (.idxCopy .iy d .e)
  | .rr_iyd_h d => .rot .rr (.idxCopy .iy d .h)
  | .rr_iyd_l d => .rot .rr (.idxCopy .iy d .l)
  | .rr_iyd d => .rot .rr (.idx .iy d)
  | .rr_iyd_a d => .rot .rr (.idxCopy .iy d .a)
  | .sla_iyd_b d => .rot .sla (.idxCopy .iy d .b)
  | .sla_iyd_c d => .rot .sla (.idxCopy .iy d .c)
  | .sla_iyd_d d => .rot .sla (.idxCopy .iy d .d)
  | .sla_iyd_e d => .rot .sla (.idxCopy .iy d .e)
  | .sla_iyd_h d => .rot .sla (.idxCopy .iy d .h)
  | .sla_iyd_l d => .rot .sla (.idxCopy .iy d .l)
  | .sla_iyd d => .rot .sla (.idx .iy d)
  | .sla_iyd_a d => .rot .sla (.idxCopy .iy d .a)
  | .sra_iyd_b d => .rot .sra (.idxCopy .iy d .b)
  | .sra_iyd_c d => .rot .sra (.idxCopy .iy d .c)
  | .sra_iyd_d d => .rot .sra (.idxCopy .iy d .d)
  | .sra_iyd_e d => .rot .sra (.idxCopy .iy d .e)
  | .sra_iyd_h d => .rot .sra (.idxCopy .iy d .h)
  | .sra_iyd_l d => .rot .sra (.idxCopy .iy d .l)
  | .sra_iyd d => .rot .sra (.idx .iy d)
  | .sra_iyd_a d => .rot .sra (.idxCopy .iy d .a)
  | .sll_iyd_b d => .rot .sll (.idxCopy .iy d .b)
  | .sll_iyd_c d => .rot .sll (.idxCopy .iy d .c)
  | .sll_iyd_d d => .rot .sll (.idxCopy .iy d .d)
  | .sll_iyd_e d => .rot .sll (.idxCopy .iy d .e)
  | .sll_iyd_h d => .rot .sll (.idxCopy .iy d .h)
  | .sll_iyd_l d => .rot .sll (.idxCopy .iy d .l)
  | .sll_iyd d => .rot .sll (.idx .iy d)
  | .sll_iyd_a d => .rot .sll (.idxCopy .iy d .a)
  | .srl_iyd_b d => .rot .srl (.idxCopy .iy d .b)
  | .srl_iyd_c d => .rot .srl (.idxCopy .iy d .c)
  | .srl_iyd_d d => .rot .srl (.idxCopy .iy d .d)
  | .srl_iyd_e d => .rot .srl (.idxCopy .iy d .e)
  | .srl_iyd_h d => .rot .srl (.idxCopy .iy d .h)
  | .srl_iyd_l d => .rot .srl (.idxCopy .iy d .l)
  | .srl_iyd d => .rot .srl (.idx .iy d)
  | .srl_iyd_a d => .rot .srl (.idxCopy .iy d .a)
  | .bit_0_iyd_z0 d => .bit .b0 (.idxCopy .iy d .b)
  | .bit_0_iyd_z1 d => .bit .b0 (.idxCopy .iy d .c)
  | .bit_0_iyd_z2 d => .bit .b0 (.idxCopy .iy d .d)
  | .bit_0_iyd_z3 d => .bit .b0 (.idxCopy .iy d .e)
  | .bit_0_iyd_z4 d => .bit .b0 (.idxCopy .iy d .h)
  | .bit_0_iyd_z5 d => .bit .b0 (.idxCopy .iy d .l)
  | .bit_0_iyd d => .bit .b0 (.idx .iy d)
  | .bit_0_iyd_z7 d => .bit .b0 (.idxCopy .iy d .a)
  | .bit_1_iyd_z0 d => .bit .b1 (.idxCopy .iy d .b)
  | .bit_1_iyd_z1 d => .bit .b1 (.idxCopy .iy d .c)
  | .bit_1_iyd_z2 d => .bit .b1 (.idxCopy .iy d .d)
  | .bit_1_iyd_z3 d => .bit .b1 (.idxCopy .iy d .e)
  | .bit_1_iyd_z4 d => .bit .b1 (.idxCopy .iy d .h)
  | .bit_1_iyd_z5 d => .bit .b1 (.idxCopy .iy d .l)
  | .bit_1_iyd d => .bit .b1 (.idx .iy d)
  | .bit_1_iyd_z7 d => .bit .b1 (.idxCopy .iy d .a)
  | .bit_2_iyd_z0 d => .bit .b2 (.idxCopy .iy d .b)
  | .bit_2_iyd_z1 d => .bit .b2 (.idxCopy .iy d .c)
  | .bit_2_iyd_z2 d => .bit .b2 (.idxCopy .iy d .d)
  | .bit_2_iyd_z3 d => .bit .b2 (.idxCopy .iy d .e)
  | .bit_2_iyd_z4 d => .bit .b2 (.idxCopy .iy d .h)
  | .bit_2_iyd_z5 d => .bit .b2 (.idxCopy .iy d .l)
  | .bit_2_iyd d => .bit .b2 (.idx .iy d)
  | .bit_2_iyd_z7 d => .bit .b2 (.idxCopy .iy d .a)
  | .bit_3_iyd_z0 d => .bit .b3 (.idxCopy .iy d .b)
  | .bit_3_iyd_z1 d => .bit .b3 (.idxCopy .iy d .c)
  | .bit_3_iyd_z2 d => .bit .b3 (.idxCopy .iy d .d)
  | .bit_3_iyd_z3 d => .bit .b3 (.idxCopy .iy d .e)
  | .bit_3_iyd_z4 d => .bit .b3 (.idxCopy .iy d .h)
  | .bit_3_iyd_z5 d => .bit .b3 (.idxCopy .iy d .l)
  | .bit_3_iyd d => .bit .b3 (.idx .iy d)
  | .bit_3_iyd_z7 d => .bit .b3 (.idxCopy .iy d .a)
  | .bit_4_iyd_z0 d => .bit .b4 (.idxCopy .iy d .b)
  | .bit_4_iyd_z1 d => .bit .b4 (.idxCopy .iy d .c)
  | .bit_4_iyd_z2 d => .bit .b4 (.idxCopy .iy d .d)
  | .bit_4_iyd_z3 d => .bit .b4 (.idxCopy .iy d .e)
  | .bit_4_iyd_z4 d => .bit .b4 (.idxCopy .iy d .h)
  | .bit_4_iyd_z5 d => .bit .b4 (.idxCopy .iy d .l)
  | .bit_4_iyd d => .bit .b4 (.idx .iy d)
  | .bit_4_iyd_z7 d => .bit .b4 (.idxCopy .iy d .a)
  | .bit_5_iyd_z0 d => .bit .b5 (.idxCopy .iy d .b)
  | .bit_5_iyd_z1 d => .bit .b5 (.idxCopy .iy d .c)
  | .bit_5_iyd_z2 d => .bit .b5 (.idxCopy .iy d .d)
  | .bit_5_iyd_z3 d => .bit .b5 (.idxCopy .iy d .e)
  | .bit_5_iyd_z4 d => .bit .b5 (.idxCopy .iy d .h)
  | .bit_5_iyd_z5 d => .bit .b5 (.idxCopy .iy d .l)
  | .bit_5_iyd d => .bit .b5 (.idx .iy d)
  | .bit_5_iyd_z7 d => .bit .b5 (.idxCopy .iy d .a)
  | .bit_6_iyd_z0 d => .bit .b6 (.idxCopy .iy d .b)
  | .bit_6_iyd_z1 d => .bit .b6 (.idxCopy .iy d .c)
  | .bit_6_iyd_z2 d => .bit .b6 (.idxCopy .iy d .d)
  | .bit_6_iyd_z3 d => .bit .b6 (.idxCopy .iy d .e)
  | .bit_6_iyd_z4 d => .bit .b6 (.idxCopy .iy d .h)
  | .bit_6_iyd_z5 d => .bit .b6 (.idxCopy .iy d .l)
  | .bit_6_iyd d => .bit .b6 (.idx .iy d)
  | .bit_6_iyd_z7 d => .bit .b6 (.idxCopy .iy d .a)
  | .bit_7_iyd_z0 d => .bit .b7 (.idxCopy .iy d .b)
  | .bit_7_iyd_z1 d => .bit .b7 (.idxCopy .iy d .c)
  | .bit_7_iyd_z2 d => .bit .b7 (.idxCopy .iy d .d)
  | .bit_7_iyd_z3 d => .bit .b7 (.idxCopy .iy d .e)
  | .bit_7_iyd_z4 d => .bit .b7 (.idxCopy .iy d .h)
  | .bit_7_iyd_z5 d => .bit .b7 (.idxCopy .iy d .l)
  | .bit_7_iyd d => .bit .b7 (.idx .iy d)
  | .bit_7_iyd_z7 d => .bit .b7 (.idxCopy .iy d .a)
  | .res_0_iyd_b d => .res .b0 (.idxCopy .iy d .b)
  | .res_0_iyd_c d => .res .b0 (.idxCopy .iy d .c)
  | .res_0_iyd_d d => .res .b0 (.idxCopy .iy d .d)
  | .res_0_iyd_e d => .res .b0 (.idxCopy .iy d .e)
  | .res_0_iyd_h d => .res .b0 (.idxCopy .iy d .h)
  | .res_0_iyd_l d => .res .b0 (.idxCopy .iy d .l)
  | .res_0_iyd d => .res .b0 (.idx .iy d)
  | .res_0_iyd_a d => .res .b0 (.idxCopy .iy d .a)
  | .res_1_iyd_b d => .res .b1 (.idxCopy .iy d .b)
  | .res_1_iyd_c d => .res .b1 (.idxCopy .iy d .c)
  | .res_1_iyd_d d => .res .b1 (.idxCopy .iy d .d)
  | .res_1_iyd_e d => .res .b1 (.idxCopy .iy d .e)
  | .res_1_iyd_h d => .res .b1 (.idxCopy .iy d .h)
  | .res_1_iyd_l d => .res .b1 (.idxCopy .iy d .l)
  | .res_1_iyd d => .res .b1 (.idx .iy d)
  | .res_1_iyd_a d => .res .b1 (.idxCopy .iy d .a)
  | .res_2_iyd_b d => .res .b2 (.idxCopy .iy d .b)
  | .res_2_iyd_c d => .res .b2 (.idxCopy .iy d .c)
  | .res_2_iyd_d d => .res .b2 (.idxCopy .iy d .d)
  | .res_2_iyd_e d => .res .b2 (.idxCopy .iy d .e)
  | .res_2_iyd_h d => .res .b2 (.idxCopy .iy d .h)
  | .res_2_iyd_l d => .res .b2 (.idxCopy .iy d .l)
  | .res_2_iyd d => .res .b2 (.idx .iy d)
  | .res_2_iyd_a d => .res .b2 (.idxCopy .iy d .a)
  | .res_3_iyd_b d => .res .b3 (.idxCopy .iy d .b)
  | .res_3_iyd_c d => .res .b3 (.idxCopy .iy d .c)
  | .res_3_iyd_d d => .res .b3 (.idxCopy .iy d .d)
  | .res_3_iyd_e d => .res .b3 (.idxCopy .iy d .e)
  | .res_3_iyd_h d => .res .b3 (.idxCopy .iy d .h)
  | .res_3_iyd_l d => .res .b3 (.idxCopy .iy d .l)
  | .res_3_iyd d => .res .b3 (.idx .iy d)
  | .res_3_iyd_a d => .res .b3 (.idxCopy .iy d .a)
  | .res_4_iyd_b d => .res .b4 (.idxCopy .iy d .b)
  | .res_4_iyd_c d => .res .b4 (.idxCopy .iy d .c)
  | .res_4_iyd_d d => .res .b4 (.idxCopy .iy d .d)
  | .res_4_iyd_e d => .res .b4 (.idxCopy .iy d .e)
  | .res_4_iyd_h d => .res .b4 (.idxCopy .iy d .h)
  | .res_4_iyd_l d => .res .b4 (.idxCopy .iy d .l)
  | .res_4_iyd d => .res .b4 (.idx .iy d)
  | .res_4_iyd_a d => .res .b4 (.idxCopy .iy d .a)
  | .res_5_iyd_b d => .res .b5 (.idxCopy .iy d .b)
  | .res_5_iyd_c d => .res .b5 (.idxCopy .iy d .c)
  | .res_5_iyd_d d => .res .b5 (.idxCopy .iy d .d)
  | .res_5_iyd_e d => .res .b5 (.idxCopy .iy d .e)
  | .res_5_iyd_h d => .res .b5 (.idxCopy .iy d .h)
  | .res_5_iyd_l d => .res .b5 (.idxCopy .iy d .l)
  | .res_5_iyd d => .res .b5 (.idx .iy d)
  | .res_5_iyd_a d => .res .b5 (.idxCopy .iy d .a)
  | .res_6_iyd_b d => .res .b6 (.idxCopy .iy d .b)
  | .res_6_iyd_c d => .res .b6 (.idxCopy .iy d .c)
  | .res_6_iyd_d d => .res .b6 (.idxCopy .iy d .d)
  | .res_6_iyd_e d => .res .b6 (.idxCopy .iy d .e)
  | .res_6_iyd_h d => .res .b6 (.idxCopy .iy d .h)
  | .res_6_iyd_l d => .res .b6 (.idxCopy .iy d .l)
  | .res_6_iyd d => .res .b6 (.idx .iy d)
  | .res_6_iyd_a d => .res .b6 (.idxCopy .iy d .a)
  | .res_7_iyd_b d => .res .b7 (.idxCopy .iy d .b)
  | .res_7_iyd_c d => .res .b7 (.idxCopy .iy d .c)
  | .res_7_iyd_d d => .res .b7 (.idxCopy .iy d .d)
  | .res_7_iyd_e d => .res .b7 (.idxCopy .iy d .e)
  | .res_7_iyd_h d => .res .b7 (.idxCopy .iy d .h)
  | .res_7_iyd_l d => .res .b7 (.idxCopy .iy d .l)
  | .res_7_iyd d => .res .b7 (.idx .iy d)
  | .res_7_iyd_a d => .res .b7 (.idxCopy .iy d .a)
  | .set_0_iyd_b d => .set .b0 (.idxCopy .iy d .b)
  | .set_0_iyd_c d => .set .b0 (.idxCopy .iy d .c)
  | .set_0_iyd_d d => .set .b0 (.idxCopy .iy d .d)
  | .set_0_iyd_e d => .set .b0 (.idxCopy .iy d .e)
  | .set_0_iyd_h d => .set .b0 (.idxCopy .iy d .h)
  | .set_0_iyd_l d => .set .b0 (.idxCopy .iy d .l)
  | .set_0_iyd d => .set .b0 (.idx .iy d)
  | .set_0_iyd_a d => .set .b0 (.idxCopy .iy d .a)
  | .set_1_iyd_b d => .set .b1 (.idxCopy .iy d .b)
  | .set_1_iyd_c d => .set .b1 (.idxCopy .iy d .c)
  | .set_1_iyd_d d => .set .b1 (.idxCopy .iy d .d)
  | .set_1_iyd_e d => .set .b1 (.idxCopy .iy d .e)
  | .set_1_iyd_h d => .set .b1 (.idxCopy .iy d .h)
  | .set_1_iyd_l d => .set .b1 (.idxCopy .iy d .l)
  | .set_1_iyd d => .set .b1 (.idx .iy d)
  | .set_1_iyd_a d => .set .b1 (.idxCopy .iy d .a)
  | .set_2_iyd_b d => .set .b2 (.idxCopy .iy d .b)
  | .set_2_iyd_c d => .set .b2 (.idxCopy .iy d .c)
  | .set_2_iyd_d d => .set .b2 (.idxCopy .iy d .d)
  | .set_2_iyd_e d => .set .b2 (.idxCopy .iy d .e)
  | .set_2_iyd_h d => .set .b2 (.idxCopy .iy d .h)
  | .set_2_iyd_l d => .set .b2 (.idxCopy .iy d .l)
  | .set_2_iyd d => .set .b2 (.idx .iy d)
  | .set_2_iyd_a d => .set .b2 (.idxCopy .iy d .a)
  | .set_3_iyd_b d => .set .b3 (.idxCopy .iy d .b)
  | .set_3_iyd_c d => .set .b3 (.idxCopy .iy d .c)
  | .set_3_iyd_d d => .set .b3 (.idxCopy .iy d .d)
  | .set_3_iyd_e d => .set .b3 (.idxCopy .iy d .e)
  | .set_3_iyd_h d => .set .b3 (.idxCopy .iy d .h)
  | .set_3_iyd_l d => .set .b3 (.idxCopy .iy d .l)
  | .set_3_iyd d => .set .b3 (.idx .iy d)
  | .set_3_iyd_a d => .set .b3 (.idxCopy .iy d .a)
  | .set_4_iyd_b d => .set .b4 (.idxCopy .iy d .b)
  | .set_4_iyd_c d => .set .b4 (.idxCopy .iy d .c)
  | .set_4_iyd_d d => .set .b4 (.idxCopy .iy d .d)
  | .set_4_iyd_e d => .set .b4 (.idxCopy .iy d .e)
  | .set_4_iyd_h d => .set .b4 (.idxCopy .iy d .h)
  | .set_4_iyd_l d => .set .b4 (.idxCopy .iy d .l)
  | .set_4_iyd d => .set .b4 (.idx .iy d)
  | .set_4_iyd_a d => .set .b4 (.idxCopy .iy d .a)
  | .set_5_iyd_b d => .set .b5 (.idxCopy .iy d .b)
  | .set_5_iyd_c d => .set .b5 (.idxCopy .iy d .c)
  | .set_5_iyd_d d => .set .b5 (.idxCopy .iy d .d)
  | .set_5_iyd_e d => .set .b5 (.idxCopy .iy d .e)
  | .set_5_iyd_h d => .set .b5 (.idxCopy .iy d .h)
  | .set_5_iyd_l d => .set .b5 (.idxCopy .iy d .l)
  | .set_5_iyd d => .set .b5 (.idx .iy d)
  | .set_5_iyd_a d => .set .b5 (.idxCopy .iy d .a)
  | .set_6_iyd_b d => .set .b6 (.idxCopy .iy d .b)
  | .set_6_iyd_c d => .set .b6 (.idxCopy .iy d .c)
  | .set_6_iyd_d d => .set .b6 (.idxCopy .iy d .d)
  | .set_6_iyd_e d => .set .b6 (.idxCopy .iy d .e)
  | .set_6_iyd_h d => .set .b6 (.idxCopy .iy d .h)
  | .set_6_iyd_l d => .set .b6 (.idxCopy .iy d .l)
  | .set_6_iyd d => .set .b6 (.idx .iy d)
  | .set_6_iyd_a d => .set .b6 (.idxCopy .iy d .a)
  | .set_7_iyd_b d => .set .b7 (.idxCopy .iy d .b)
  | .set_7_iyd_c d => .set .b7 (.idxCopy .iy d .c)
  | .set_7_iyd_d d => .set .b7 (.idxCopy .iy d .d)
  | .set_7_iyd_e d => .set .b7 (.idxCopy .iy d .e)
  | .set_7_iyd_h d => .set .b7 (.idxCopy .iy d .h)
  | .set_7_iyd_l d => .set .b7 (.idxCopy .iy d .l)
  | .set_7_iyd d => .set .b7 (.idx .iy d)
  | .set_7_iyd_a d => .set .b7 (.idxCopy .iy d .a)

end Sys2Proof
end

