-- ==== Sys2Proof/Config.lean ====
section
/-! DEFINITION. What is fixed for one machine and what the platform decides: the implementation
parameters of spec/00_scope.md R5 (RESET_PC, PortIn, PAGING_PORT_A, PAGING_PORT_B,
UNDOC_REGISTERED, the contents of memory). -/

namespace Sys2Proof

/-- One access the core made on the port bus (R81, R88): its 16-bit port address and the byte that
moved. The list of them, newest first, is the "history" that the parameter `PortIn` of R5 takes. -/
inductive PortEvent where
  /-- A port read and the byte the platform answered. -/
  | read (pa : Word) (v : Byte)
  /-- A port write and the byte the core handed over. -/
  | write (pa : Word) (v : Byte)
  deriving DecidableEq, Repr

/-- `PortIn` of R5: the byte the platform answers to a port read at `pa` after the port accesses
`history`. FREE VALUE: it has no body, so no proof can see what it is (R88, D21; log entry 4). -/
opaque Config.portIn (pa : Word) (history : List PortEvent) : Byte

/-- `PAGING_PORT_A` of R5: which port writes are recorded in `page_a`. FREE: no body (R451, D7;
log entry 5). -/
opaque Config.pagingPortA (pa : Word) : Bool

/-- `PAGING_PORT_B` of R5: which port writes are recorded in `page_b`. FREE: no body (R451, D7;
log entry 5). -/
opaque Config.pagingPortB (pa : Word) : Bool

/-- `UNDOC_REGISTERED` of R5 at the spec's default, true (R125, D3; log entry 6). The decoder and the
step take the parameter as an argument, so both values are modelled. -/
def Config.undocRegistered : Bool := true

/-- `RESET_PC` of R5: 0x0000, the real part's entry point (R92, R551). PRESUMED, log entry 7. -/
def Config.resetPc : Word := 0x0000

/-- What a memory byte that nothing has written reads as. DESIGN CHOICE, log entry 1. -/
def Config.unlistedByte : Byte := 0x00

end Sys2Proof
end

