-- ==== Sys2Proof/Machine/Table.lean ====
section
/-! DEFINITION. The instruction table's data (spec/30_encoding.md R112, R113, R130): for each
instruction its diagnostic mnemonic, flattened index, step length, category, whether it is always
registered, and the informative T-states its last step reports (spec/70_reset_and_hazards.md R560,
R561). -/

namespace Sys2Proof

/-- The category of R112, which replaces ZXS's mnemonic tests. The bare-prefix entries have category
`bare` (ZXS: `Prefix`). -/
inductive Category where
  | bare | enableInterrupts | normal
  deriving DecidableEq, Repr

/-- When a step reports its extra T-states (R560, R561). -/
inductive ExtraWhen where
  /-- Never. -/
  | never
  /-- A conditional transfer whose condition holds. -/
  | taken (cc : Cond)
  /-- `DJNZ`, `INIR`, `INDR`, `OTIR`, `OTDR`: B is not 0 after its decrement. -/
  | countB
  /-- `LDIR`, `LDDR`: BC is not 0 after its decrement. -/
  | countBc
  /-- `CPIR`, `CPDR`: BC is not 0 after its decrement and there was no match. -/
  | noMatch
  deriving DecidableEq, Repr

/-- A table entry (R112) without its action. -/
structure Desc where
  /-- "diagnostic output only" (R112). -/
  mnemonic : String
  /-- The flattened index (R111). -/
  index : Nat
  /-- `len` of R113: the bytes the instruction's last step consumes, from the address in PC. -/
  stepLen : Nat
  /-- Base T-states of the last step (R560; the four of a prefix step are not in it). -/
  base : Nat
  category : Category := .normal
  /-- `registered` of R130: true for "always", false for `UNDOC_REGISTERED`. -/
  always : Bool := true
  extraWhen : ExtraWhen := .never
  extra : Nat := 0
  deriving DecidableEq, Repr

/-- An entry that is always registered. -/
def entry (mnemonic : String) (index stepLen base : Nat) : Desc :=
  { mnemonic := mnemonic, index := index, stepLen := stepLen, base := base }

/-- An entry that is registered only under `UNDOC_REGISTERED` (R125). -/
def optEntry (mnemonic : String) (index stepLen base : Nat) : Desc :=
  { entry mnemonic index stepLen base with always := false }

/-- An entry that reports extra T-states when `w` holds. -/
def varEntry (mnemonic : String) (index stepLen base : Nat) (w : ExtraWhen) (extra : Nat) : Desc :=
  { entry mnemonic index stepLen base with extraWhen := w, extra := extra }

/-- A bare-prefix entry (R153). -/
def bareEntry (mnemonic : String) (index : Nat) : Desc :=
  { entry mnemonic index 1 4 with category := .bare }

/-- The instruction table (R110 to R113, R119 to R123). -/
def Instr.desc (i : Instr) : Desc :=
  match i with
  | .nop => entry "NOP" 0x0 1 4
  | .ld_bc_nn _ => entry "LD BC,nn" 0x1 3 10
  | .ld_mbc_a => entry "LD (BC),A" 0x2 1 7
  | .inc_bc => entry "INC BC" 0x3 1 6
  | .inc_b => entry "INC B" 0x4 1 4
  | .dec_b => entry "DEC B" 0x5 1 4
  | .ld_b_n _ => entry "LD B,n" 0x6 2 7
  | .rlca => entry "RLCA" 0x7 1 4
  | .ex_af_afAlt => entry "EX AF,AF'" 0x8 1 4
  | .add_hl_bc => entry "ADD HL,BC" 0x9 1 11
  | .ld_a_mbc => entry "LD A,(BC)" 0xA 1 7
  | .dec_bc => entry "DEC BC" 0xB 1 6
  | .inc_c => entry "INC C" 0xC 1 4
  | .dec_c => entry "DEC C" 0xD 1 4
  | .ld_c_n _ => entry "LD C,n" 0xE 2 7
  | .rrca => entry "RRCA" 0xF 1 4
  | .djnz_e _ => varEntry "DJNZ e" 0x10 2 8 .countB 5
  | .ld_de_nn _ => entry "LD DE,nn" 0x11 3 10
  | .ld_mde_a => entry "LD (DE),A" 0x12 1 7
  | .inc_de => entry "INC DE" 0x13 1 6
  | .inc_d => entry "INC D" 0x14 1 4
  | .dec_d => entry "DEC D" 0x15 1 4
  | .ld_d_n _ => entry "LD D,n" 0x16 2 7
  | .rla => entry "RLA" 0x17 1 4
  | .jr_e _ => entry "JR e" 0x18 2 12
  | .add_hl_de => entry "ADD HL,DE" 0x19 1 11
  | .ld_a_mde => entry "LD A,(DE)" 0x1A 1 7
  | .dec_de => entry "DEC DE" 0x1B 1 6
  | .inc_e => entry "INC E" 0x1C 1 4
  | .dec_e => entry "DEC E" 0x1D 1 4
  | .ld_e_n _ => entry "LD E,n" 0x1E 2 7
  | .rra => entry "RRA" 0x1F 1 4
  | .jr_nz_e _ => varEntry "JR NZ,e" 0x20 2 7 (.taken .nz) 5
  | .ld_hl_nn _ => entry "LD HL,nn" 0x21 3 10
  | .ld_mnn_hl _ => entry "LD (nn),HL" 0x22 3 16
  | .inc_hl => entry "INC HL" 0x23 1 6
  | .inc_h => entry "INC H" 0x24 1 4
  | .dec_h => entry "DEC H" 0x25 1 4
  | .ld_h_n _ => entry "LD H,n" 0x26 2 7
  | .daa => entry "DAA" 0x27 1 4
  | .jr_z_e _ => varEntry "JR Z,e" 0x28 2 7 (.taken .z) 5
  | .add_hl_hl => entry "ADD HL,HL" 0x29 1 11
  | .ld_hl_mnn _ => entry "LD HL,(nn)" 0x2A 3 16
  | .dec_hl => entry "DEC HL" 0x2B 1 6
  | .inc_l => entry "INC L" 0x2C 1 4
  | .dec_l => entry "DEC L" 0x2D 1 4
  | .ld_l_n _ => entry "LD L,n" 0x2E 2 7
  | .cpl => entry "CPL" 0x2F 1 4
  | .jr_nc_e _ => varEntry "JR NC,e" 0x30 2 7 (.taken .nc) 5
  | .ld_sp_nn _ => entry "LD SP,nn" 0x31 3 10
  | .ld_mnn_a _ => entry "LD (nn),A" 0x32 3 13
  | .inc_sp => entry "INC SP" 0x33 1 6
  | .inc_mhl => entry "INC (HL)" 0x34 1 11
  | .dec_mhl => entry "DEC (HL)" 0x35 1 11
  | .ld_mhl_n _ => entry "LD (HL),n" 0x36 2 10
  | .scf => entry "SCF" 0x37 1 4
  | .jr_c_e _ => varEntry "JR C,e" 0x38 2 7 (.taken .c) 5
  | .add_hl_sp => entry "ADD HL,SP" 0x39 1 11
  | .ld_a_mnn _ => entry "LD A,(nn)" 0x3A 3 13
  | .dec_sp => entry "DEC SP" 0x3B 1 6
  | .inc_a => entry "INC A" 0x3C 1 4
  | .dec_a => entry "DEC A" 0x3D 1 4
  | .ld_a_n _ => entry "LD A,n" 0x3E 2 7
  | .ccf => entry "CCF" 0x3F 1 4
  | .ld_b_b => entry "LD B,B" 0x40 1 4
  | .ld_b_c => entry "LD B,C" 0x41 1 4
  | .ld_b_d => entry "LD B,D" 0x42 1 4
  | .ld_b_e => entry "LD B,E" 0x43 1 4
  | .ld_b_h => entry "LD B,H" 0x44 1 4
  | .ld_b_l => entry "LD B,L" 0x45 1 4
  | .ld_b_mhl => entry "LD B,(HL)" 0x46 1 7
  | .ld_b_a => entry "LD B,A" 0x47 1 4
  | .ld_c_b => entry "LD C,B" 0x48 1 4
  | .ld_c_c => entry "LD C,C" 0x49 1 4
  | .ld_c_d => entry "LD C,D" 0x4A 1 4
  | .ld_c_e => entry "LD C,E" 0x4B 1 4
  | .ld_c_h => entry "LD C,H" 0x4C 1 4
  | .ld_c_l => entry "LD C,L" 0x4D 1 4
  | .ld_c_mhl => entry "LD C,(HL)" 0x4E 1 7
  | .ld_c_a => entry "LD C,A" 0x4F 1 4
  | .ld_d_b => entry "LD D,B" 0x50 1 4
  | .ld_d_c => entry "LD D,C" 0x51 1 4
  | .ld_d_d => entry "LD D,D" 0x52 1 4
  | .ld_d_e => entry "LD D,E" 0x53 1 4
  | .ld_d_h => entry "LD D,H" 0x54 1 4
  | .ld_d_l => entry "LD D,L" 0x55 1 4
  | .ld_d_mhl => entry "LD D,(HL)" 0x56 1 7
  | .ld_d_a => entry "LD D,A" 0x57 1 4
  | .ld_e_b => entry "LD E,B" 0x58 1 4
  | .ld_e_c => entry "LD E,C" 0x59 1 4
  | .ld_e_d => entry "LD E,D" 0x5A 1 4
  | .ld_e_e => entry "LD E,E" 0x5B 1 4
  | .ld_e_h => entry "LD E,H" 0x5C 1 4
  | .ld_e_l => entry "LD E,L" 0x5D 1 4
  | .ld_e_mhl => entry "LD E,(HL)" 0x5E 1 7
  | .ld_e_a => entry "LD E,A" 0x5F 1 4
  | .ld_h_b => entry "LD H,B" 0x60 1 4
  | .ld_h_c => entry "LD H,C" 0x61 1 4
  | .ld_h_d => entry "LD H,D" 0x62 1 4
  | .ld_h_e => entry "LD H,E" 0x63 1 4
  | .ld_h_h => entry "LD H,H" 0x64 1 4
  | .ld_h_l => entry "LD H,L" 0x65 1 4
  | .ld_h_mhl => entry "LD H,(HL)" 0x66 1 7
  | .ld_h_a => entry "LD H,A" 0x67 1 4
  | .ld_l_b => entry "LD L,B" 0x68 1 4
  | .ld_l_c => entry "LD L,C" 0x69 1 4
  | .ld_l_d => entry "LD L,D" 0x6A 1 4
  | .ld_l_e => entry "LD L,E" 0x6B 1 4
  | .ld_l_h => entry "LD L,H" 0x6C 1 4
  | .ld_l_l => entry "LD L,L" 0x6D 1 4
  | .ld_l_mhl => entry "LD L,(HL)" 0x6E 1 7
  | .ld_l_a => entry "LD L,A" 0x6F 1 4
  | .ld_mhl_b => entry "LD (HL),B" 0x70 1 7
  | .ld_mhl_c => entry "LD (HL),C" 0x71 1 7
  | .ld_mhl_d => entry "LD (HL),D" 0x72 1 7
  | .ld_mhl_e => entry "LD (HL),E" 0x73 1 7
  | .ld_mhl_h => entry "LD (HL),H" 0x74 1 7
  | .ld_mhl_l => entry "LD (HL),L" 0x75 1 7
  | .halt => entry "HALT" 0x76 1 4
  | .ld_mhl_a => entry "LD (HL),A" 0x77 1 7
  | .ld_a_b => entry "LD A,B" 0x78 1 4
  | .ld_a_c => entry "LD A,C" 0x79 1 4
  | .ld_a_d => entry "LD A,D" 0x7A 1 4
  | .ld_a_e => entry "LD A,E" 0x7B 1 4
  | .ld_a_h => entry "LD A,H" 0x7C 1 4
  | .ld_a_l => entry "LD A,L" 0x7D 1 4
  | .ld_a_mhl => entry "LD A,(HL)" 0x7E 1 7
  | .ld_a_a => entry "LD A,A" 0x7F 1 4
  | .add_a_b => entry "ADD A,B" 0x80 1 4
  | .add_a_c => entry "ADD A,C" 0x81 1 4
  | .add_a_d => entry "ADD A,D" 0x82 1 4
  | .add_a_e => entry "ADD A,E" 0x83 1 4
  | .add_a_h => entry "ADD A,H" 0x84 1 4
  | .add_a_l => entry "ADD A,L" 0x85 1 4
  | .add_a_mhl => entry "ADD A,(HL)" 0x86 1 7
  | .add_a_a => entry "ADD A,A" 0x87 1 4
  | .adc_a_b => entry "ADC A,B" 0x88 1 4
  | .adc_a_c => entry "ADC A,C" 0x89 1 4
  | .adc_a_d => entry "ADC A,D" 0x8A 1 4
  | .adc_a_e => entry "ADC A,E" 0x8B 1 4
  | .adc_a_h => entry "ADC A,H" 0x8C 1 4
  | .adc_a_l => entry "ADC A,L" 0x8D 1 4
  | .adc_a_mhl => entry "ADC A,(HL)" 0x8E 1 7
  | .adc_a_a => entry "ADC A,A" 0x8F 1 4
  | .sub_b => entry "SUB B" 0x90 1 4
  | .sub_c => entry "SUB C" 0x91 1 4
  | .sub_d => entry "SUB D" 0x92 1 4
  | .sub_e => entry "SUB E" 0x93 1 4
  | .sub_h => entry "SUB H" 0x94 1 4
  | .sub_l => entry "SUB L" 0x95 1 4
  | .sub_mhl => entry "SUB (HL)" 0x96 1 7
  | .sub_a => entry "SUB A" 0x97 1 4
  | .sbc_a_b => entry "SBC A,B" 0x98 1 4
  | .sbc_a_c => entry "SBC A,C" 0x99 1 4
  | .sbc_a_d => entry "SBC A,D" 0x9A 1 4
  | .sbc_a_e => entry "SBC A,E" 0x9B 1 4
  | .sbc_a_h => entry "SBC A,H" 0x9C 1 4
  | .sbc_a_l => entry "SBC A,L" 0x9D 1 4
  | .sbc_a_mhl => entry "SBC A,(HL)" 0x9E 1 7
  | .sbc_a_a => entry "SBC A,A" 0x9F 1 4
  | .and_b => entry "AND B" 0xA0 1 4
  | .and_c => entry "AND C" 0xA1 1 4
  | .and_d => entry "AND D" 0xA2 1 4
  | .and_e => entry "AND E" 0xA3 1 4
  | .and_h => entry "AND H" 0xA4 1 4
  | .and_l => entry "AND L" 0xA5 1 4
  | .and_mhl => entry "AND (HL)" 0xA6 1 7
  | .and_a => entry "AND A" 0xA7 1 4
  | .xor_b => entry "XOR B" 0xA8 1 4
  | .xor_c => entry "XOR C" 0xA9 1 4
  | .xor_d => entry "XOR D" 0xAA 1 4
  | .xor_e => entry "XOR E" 0xAB 1 4
  | .xor_h => entry "XOR H" 0xAC 1 4
  | .xor_l => entry "XOR L" 0xAD 1 4
  | .xor_mhl => entry "XOR (HL)" 0xAE 1 7
  | .xor_a => entry "XOR A" 0xAF 1 4
  | .or_b => entry "OR B" 0xB0 1 4
  | .or_c => entry "OR C" 0xB1 1 4
  | .or_d => entry "OR D" 0xB2 1 4
  | .or_e => entry "OR E" 0xB3 1 4
  | .or_h => entry "OR H" 0xB4 1 4
  | .or_l => entry "OR L" 0xB5 1 4
  | .or_mhl => entry "OR (HL)" 0xB6 1 7
  | .or_a => entry "OR A" 0xB7 1 4
  | .cp_b => entry "CP B" 0xB8 1 4
  | .cp_c => entry "CP C" 0xB9 1 4
  | .cp_d => entry "CP D" 0xBA 1 4
  | .cp_e => entry "CP E" 0xBB 1 4
  | .cp_h => entry "CP H" 0xBC 1 4
  | .cp_l => entry "CP L" 0xBD 1 4
  | .cp_mhl => entry "CP (HL)" 0xBE 1 7
  | .cp_a => entry "CP A" 0xBF 1 4
  | .ret_nz => varEntry "RET NZ" 0xC0 1 5 (.taken .nz) 6
  | .pop_bc => entry "POP BC" 0xC1 1 10
  | .jp_nz_nn _ => entry "JP NZ,nn" 0xC2 3 10
  | .jp_nn _ => entry "JP nn" 0xC3 3 10
  | .call_nz_nn _ => varEntry "CALL NZ,nn" 0xC4 3 10 (.taken .nz) 7
  | .push_bc => entry "PUSH BC" 0xC5 1 11
  | .add_a_n _ => entry "ADD A,n" 0xC6 2 7
  | .rst_00 => entry "RST 0x00" 0xC7 1 11
  | .ret_z => varEntry "RET Z" 0xC8 1 5 (.taken .z) 6
  | .ret => entry "RET" 0xC9 1 10
  | .jp_z_nn _ => entry "JP Z,nn" 0xCA 3 10
  | .prefix_cb => bareEntry "PREFIX CB" 0xCB
  | .call_z_nn _ => varEntry "CALL Z,nn" 0xCC 3 10 (.taken .z) 7
  | .call_nn _ => entry "CALL nn" 0xCD 3 17
  | .adc_a_n _ => entry "ADC A,n" 0xCE 2 7
  | .rst_08 => entry "RST 0x08" 0xCF 1 11
  | .ret_nc => varEntry "RET NC" 0xD0 1 5 (.taken .nc) 6
  | .pop_de => entry "POP DE" 0xD1 1 10
  | .jp_nc_nn _ => entry "JP NC,nn" 0xD2 3 10
  | .out_portN_a _ => entry "OUT (n),A" 0xD3 2 11
  | .call_nc_nn _ => varEntry "CALL NC,nn" 0xD4 3 10 (.taken .nc) 7
  | .push_de => entry "PUSH DE" 0xD5 1 11
  | .sub_n _ => entry "SUB n" 0xD6 2 7
  | .rst_10 => entry "RST 0x10" 0xD7 1 11
  | .ret_c => varEntry "RET C" 0xD8 1 5 (.taken .c) 6
  | .exx => entry "EXX" 0xD9 1 4
  | .jp_c_nn _ => entry "JP C,nn" 0xDA 3 10
  | .in_a_portN _ => entry "IN A,(n)" 0xDB 2 11
  | .call_c_nn _ => varEntry "CALL C,nn" 0xDC 3 10 (.taken .c) 7
  | .prefix_dd => bareEntry "PREFIX DD" 0xDD
  | .sbc_a_n _ => entry "SBC A,n" 0xDE 2 7
  | .rst_18 => entry "RST 0x18" 0xDF 1 11
  | .ret_po => varEntry "RET PO" 0xE0 1 5 (.taken .po) 6
  | .pop_hl => entry "POP HL" 0xE1 1 10
  | .jp_po_nn _ => entry "JP PO,nn" 0xE2 3 10
  | .ex_msp_hl => entry "EX (SP),HL" 0xE3 1 19
  | .call_po_nn _ => varEntry "CALL PO,nn" 0xE4 3 10 (.taken .po) 7
  | .push_hl => entry "PUSH HL" 0xE5 1 11
  | .and_n _ => entry "AND n" 0xE6 2 7
  | .rst_20 => entry "RST 0x20" 0xE7 1 11
  | .ret_pe => varEntry "RET PE" 0xE8 1 5 (.taken .pe) 6
  | .jp_hl => entry "JP (HL)" 0xE9 1 4
  | .jp_pe_nn _ => entry "JP PE,nn" 0xEA 3 10
  | .ex_de_hl => entry "EX DE,HL" 0xEB 1 4
  | .call_pe_nn _ => varEntry "CALL PE,nn" 0xEC 3 10 (.taken .pe) 7
  | .prefix_ed => bareEntry "PREFIX ED" 0xED
  | .xor_n _ => entry "XOR n" 0xEE 2 7
  | .rst_28 => entry "RST 0x28" 0xEF 1 11
  | .ret_p => varEntry "RET P" 0xF0 1 5 (.taken .p) 6
  | .pop_af => entry "POP AF" 0xF1 1 10
  | .jp_p_nn _ => entry "JP P,nn" 0xF2 3 10
  | .di => entry "DI" 0xF3 1 4
  | .call_p_nn _ => varEntry "CALL P,nn" 0xF4 3 10 (.taken .p) 7
  | .push_af => entry "PUSH AF" 0xF5 1 11
  | .or_n _ => entry "OR n" 0xF6 2 7
  | .rst_30 => entry "RST 0x30" 0xF7 1 11
  | .ret_m => varEntry "RET M" 0xF8 1 5 (.taken .m) 6
  | .ld_sp_hl => entry "LD SP,HL" 0xF9 1 6
  | .jp_m_nn _ => entry "JP M,nn" 0xFA 3 10
  | .ei => { entry "EI" 0xFB 1 4 with category := .enableInterrupts }
  | .call_m_nn _ => varEntry "CALL M,nn" 0xFC 3 10 (.taken .m) 7
  | .prefix_fd => bareEntry "PREFIX FD" 0xFD
  | .cp_n _ => entry "CP n" 0xFE 2 7
  | .rst_38 => entry "RST 0x38" 0xFF 1 11
  | .rlc_b => entry "RLC B" 0xCB00 1 4
  | .rlc_c => entry "RLC C" 0xCB01 1 4
  | .rlc_d => entry "RLC D" 0xCB02 1 4
  | .rlc_e => entry "RLC E" 0xCB03 1 4
  | .rlc_h => entry "RLC H" 0xCB04 1 4
  | .rlc_l => entry "RLC L" 0xCB05 1 4
  | .rlc_mhl => entry "RLC (HL)" 0xCB06 1 11
  | .rlc_a => entry "RLC A" 0xCB07 1 4
  | .rrc_b => entry "RRC B" 0xCB08 1 4
  | .rrc_c => entry "RRC C" 0xCB09 1 4
  | .rrc_d => entry "RRC D" 0xCB0A 1 4
  | .rrc_e => entry "RRC E" 0xCB0B 1 4
  | .rrc_h => entry "RRC H" 0xCB0C 1 4
  | .rrc_l => entry "RRC L" 0xCB0D 1 4
  | .rrc_mhl => entry "RRC (HL)" 0xCB0E 1 11
  | .rrc_a => entry "RRC A" 0xCB0F 1 4
  | .rl_b => entry "RL B" 0xCB10 1 4
  | .rl_c => entry "RL C" 0xCB11 1 4
  | .rl_d => entry "RL D" 0xCB12 1 4
  | .rl_e => entry "RL E" 0xCB13 1 4
  | .rl_h => entry "RL H" 0xCB14 1 4
  | .rl_l => entry "RL L" 0xCB15 1 4
  | .rl_mhl => entry "RL (HL)" 0xCB16 1 11
  | .rl_a => entry "RL A" 0xCB17 1 4
  | .rr_b => entry "RR B" 0xCB18 1 4
  | .rr_c => entry "RR C" 0xCB19 1 4
  | .rr_d => entry "RR D" 0xCB1A 1 4
  | .rr_e => entry "RR E" 0xCB1B 1 4
  | .rr_h => entry "RR H" 0xCB1C 1 4
  | .rr_l => entry "RR L" 0xCB1D 1 4
  | .rr_mhl => entry "RR (HL)" 0xCB1E 1 11
  | .rr_a => entry "RR A" 0xCB1F 1 4
  | .sla_b => entry "SLA B" 0xCB20 1 4
  | .sla_c => entry "SLA C" 0xCB21 1 4
  | .sla_d => entry "SLA D" 0xCB22 1 4
  | .sla_e => entry "SLA E" 0xCB23 1 4
  | .sla_h => entry "SLA H" 0xCB24 1 4
  | .sla_l => entry "SLA L" 0xCB25 1 4
  | .sla_mhl => entry "SLA (HL)" 0xCB26 1 11
  | .sla_a => entry "SLA A" 0xCB27 1 4
  | .sra_b => entry "SRA B" 0xCB28 1 4
  | .sra_c => entry "SRA C" 0xCB29 1 4
  | .sra_d => entry "SRA D" 0xCB2A 1 4
  | .sra_e => entry "SRA E" 0xCB2B 1 4
  | .sra_h => entry "SRA H" 0xCB2C 1 4
  | .sra_l => entry "SRA L" 0xCB2D 1 4
  | .sra_mhl => entry "SRA (HL)" 0xCB2E 1 11
  | .sra_a => entry "SRA A" 0xCB2F 1 4
  | .sll_b => entry "SLL B" 0xCB30 1 4
  | .sll_c => entry "SLL C" 0xCB31 1 4
  | .sll_d => entry "SLL D" 0xCB32 1 4
  | .sll_e => entry "SLL E" 0xCB33 1 4
  | .sll_h => entry "SLL H" 0xCB34 1 4
  | .sll_l => entry "SLL L" 0xCB35 1 4
  | .sll_mhl => entry "SLL (HL)" 0xCB36 1 11
  | .sll_a => entry "SLL A" 0xCB37 1 4
  | .srl_b => entry "SRL B" 0xCB38 1 4
  | .srl_c => entry "SRL C" 0xCB39 1 4
  | .srl_d => entry "SRL D" 0xCB3A 1 4
  | .srl_e => entry "SRL E" 0xCB3B 1 4
  | .srl_h => entry "SRL H" 0xCB3C 1 4
  | .srl_l => entry "SRL L" 0xCB3D 1 4
  | .srl_mhl => entry "SRL (HL)" 0xCB3E 1 11
  | .srl_a => entry "SRL A" 0xCB3F 1 4
  | .bit_0_b => entry "BIT 0,B" 0xCB40 1 4
  | .bit_0_c => entry "BIT 0,C" 0xCB41 1 4
  | .bit_0_d => entry "BIT 0,D" 0xCB42 1 4
  | .bit_0_e => entry "BIT 0,E" 0xCB43 1 4
  | .bit_0_h => entry "BIT 0,H" 0xCB44 1 4
  | .bit_0_l => entry "BIT 0,L" 0xCB45 1 4
  | .bit_0_mhl => entry "BIT 0,(HL)" 0xCB46 1 8
  | .bit_0_a => entry "BIT 0,A" 0xCB47 1 4
  | .bit_1_b => entry "BIT 1,B" 0xCB48 1 4
  | .bit_1_c => entry "BIT 1,C" 0xCB49 1 4
  | .bit_1_d => entry "BIT 1,D" 0xCB4A 1 4
  | .bit_1_e => entry "BIT 1,E" 0xCB4B 1 4
  | .bit_1_h => entry "BIT 1,H" 0xCB4C 1 4
  | .bit_1_l => entry "BIT 1,L" 0xCB4D 1 4
  | .bit_1_mhl => entry "BIT 1,(HL)" 0xCB4E 1 8
  | .bit_1_a => entry "BIT 1,A" 0xCB4F 1 4
  | .bit_2_b => entry "BIT 2,B" 0xCB50 1 4
  | .bit_2_c => entry "BIT 2,C" 0xCB51 1 4
  | .bit_2_d => entry "BIT 2,D" 0xCB52 1 4
  | .bit_2_e => entry "BIT 2,E" 0xCB53 1 4
  | .bit_2_h => entry "BIT 2,H" 0xCB54 1 4
  | .bit_2_l => entry "BIT 2,L" 0xCB55 1 4
  | .bit_2_mhl => entry "BIT 2,(HL)" 0xCB56 1 8
  | .bit_2_a => entry "BIT 2,A" 0xCB57 1 4
  | .bit_3_b => entry "BIT 3,B" 0xCB58 1 4
  | .bit_3_c => entry "BIT 3,C" 0xCB59 1 4
  | .bit_3_d => entry "BIT 3,D" 0xCB5A 1 4
  | .bit_3_e => entry "BIT 3,E" 0xCB5B 1 4
  | .bit_3_h => entry "BIT 3,H" 0xCB5C 1 4
  | .bit_3_l => entry "BIT 3,L" 0xCB5D 1 4
  | .bit_3_mhl => entry "BIT 3,(HL)" 0xCB5E 1 8
  | .bit_3_a => entry "BIT 3,A" 0xCB5F 1 4
  | .bit_4_b => entry "BIT 4,B" 0xCB60 1 4
  | .bit_4_c => entry "BIT 4,C" 0xCB61 1 4
  | .bit_4_d => entry "BIT 4,D" 0xCB62 1 4
  | .bit_4_e => entry "BIT 4,E" 0xCB63 1 4
  | .bit_4_h => entry "BIT 4,H" 0xCB64 1 4
  | .bit_4_l => entry "BIT 4,L" 0xCB65 1 4
  | .bit_4_mhl => entry "BIT 4,(HL)" 0xCB66 1 8
  | .bit_4_a => entry "BIT 4,A" 0xCB67 1 4
  | .bit_5_b => entry "BIT 5,B" 0xCB68 1 4
  | .bit_5_c => entry "BIT 5,C" 0xCB69 1 4
  | .bit_5_d => entry "BIT 5,D" 0xCB6A 1 4
  | .bit_5_e => entry "BIT 5,E" 0xCB6B 1 4
  | .bit_5_h => entry "BIT 5,H" 0xCB6C 1 4
  | .bit_5_l => entry "BIT 5,L" 0xCB6D 1 4
  | .bit_5_mhl => entry "BIT 5,(HL)" 0xCB6E 1 8
  | .bit_5_a => entry "BIT 5,A" 0xCB6F 1 4
  | .bit_6_b => entry "BIT 6,B" 0xCB70 1 4
  | .bit_6_c => entry "BIT 6,C" 0xCB71 1 4
  | .bit_6_d => entry "BIT 6,D" 0xCB72 1 4
  | .bit_6_e => entry "BIT 6,E" 0xCB73 1 4
  | .bit_6_h => entry "BIT 6,H" 0xCB74 1 4
  | .bit_6_l => entry "BIT 6,L" 0xCB75 1 4
  | .bit_6_mhl => entry "BIT 6,(HL)" 0xCB76 1 8
  | .bit_6_a => entry "BIT 6,A" 0xCB77 1 4
  | .bit_7_b => entry "BIT 7,B" 0xCB78 1 4
  | .bit_7_c => entry "BIT 7,C" 0xCB79 1 4
  | .bit_7_d => entry "BIT 7,D" 0xCB7A 1 4
  | .bit_7_e => entry "BIT 7,E" 0xCB7B 1 4
  | .bit_7_h => entry "BIT 7,H" 0xCB7C 1 4
  | .bit_7_l => entry "BIT 7,L" 0xCB7D 1 4
  | .bit_7_mhl => entry "BIT 7,(HL)" 0xCB7E 1 8
  | .bit_7_a => entry "BIT 7,A" 0xCB7F 1 4
  | .res_0_b => entry "RES 0,B" 0xCB80 1 4
  | .res_0_c => entry "RES 0,C" 0xCB81 1 4
  | .res_0_d => entry "RES 0,D" 0xCB82 1 4
  | .res_0_e => entry "RES 0,E" 0xCB83 1 4
  | .res_0_h => entry "RES 0,H" 0xCB84 1 4
  | .res_0_l => entry "RES 0,L" 0xCB85 1 4
  | .res_0_mhl => entry "RES 0,(HL)" 0xCB86 1 11
  | .res_0_a => entry "RES 0,A" 0xCB87 1 4
  | .res_1_b => entry "RES 1,B" 0xCB88 1 4
  | .res_1_c => entry "RES 1,C" 0xCB89 1 4
  | .res_1_d => entry "RES 1,D" 0xCB8A 1 4
  | .res_1_e => entry "RES 1,E" 0xCB8B 1 4
  | .res_1_h => entry "RES 1,H" 0xCB8C 1 4
  | .res_1_l => entry "RES 1,L" 0xCB8D 1 4
  | .res_1_mhl => entry "RES 1,(HL)" 0xCB8E 1 11
  | .res_1_a => entry "RES 1,A" 0xCB8F 1 4
  | .res_2_b => entry "RES 2,B" 0xCB90 1 4
  | .res_2_c => entry "RES 2,C" 0xCB91 1 4
  | .res_2_d => entry "RES 2,D" 0xCB92 1 4
  | .res_2_e => entry "RES 2,E" 0xCB93 1 4
  | .res_2_h => entry "RES 2,H" 0xCB94 1 4
  | .res_2_l => entry "RES 2,L" 0xCB95 1 4
  | .res_2_mhl => entry "RES 2,(HL)" 0xCB96 1 11
  | .res_2_a => entry "RES 2,A" 0xCB97 1 4
  | .res_3_b => entry "RES 3,B" 0xCB98 1 4
  | .res_3_c => entry "RES 3,C" 0xCB99 1 4
  | .res_3_d => entry "RES 3,D" 0xCB9A 1 4
  | .res_3_e => entry "RES 3,E" 0xCB9B 1 4
  | .res_3_h => entry "RES 3,H" 0xCB9C 1 4
  | .res_3_l => entry "RES 3,L" 0xCB9D 1 4
  | .res_3_mhl => entry "RES 3,(HL)" 0xCB9E 1 11
  | .res_3_a => entry "RES 3,A" 0xCB9F 1 4
  | .res_4_b => entry "RES 4,B" 0xCBA0 1 4
  | .res_4_c => entry "RES 4,C" 0xCBA1 1 4
  | .res_4_d => entry "RES 4,D" 0xCBA2 1 4
  | .res_4_e => entry "RES 4,E" 0xCBA3 1 4
  | .res_4_h => entry "RES 4,H" 0xCBA4 1 4
  | .res_4_l => entry "RES 4,L" 0xCBA5 1 4
  | .res_4_mhl => entry "RES 4,(HL)" 0xCBA6 1 11
  | .res_4_a => entry "RES 4,A" 0xCBA7 1 4
  | .res_5_b => entry "RES 5,B" 0xCBA8 1 4
  | .res_5_c => entry "RES 5,C" 0xCBA9 1 4
  | .res_5_d => entry "RES 5,D" 0xCBAA 1 4
  | .res_5_e => entry "RES 5,E" 0xCBAB 1 4
  | .res_5_h => entry "RES 5,H" 0xCBAC 1 4
  | .res_5_l => entry "RES 5,L" 0xCBAD 1 4
  | .res_5_mhl => entry "RES 5,(HL)" 0xCBAE 1 11
  | .res_5_a => entry "RES 5,A" 0xCBAF 1 4
  | .res_6_b => entry "RES 6,B" 0xCBB0 1 4
  | .res_6_c => entry "RES 6,C" 0xCBB1 1 4
  | .res_6_d => entry "RES 6,D" 0xCBB2 1 4
  | .res_6_e => entry "RES 6,E" 0xCBB3 1 4
  | .res_6_h => entry "RES 6,H" 0xCBB4 1 4
  | .res_6_l => entry "RES 6,L" 0xCBB5 1 4
  | .res_6_mhl => entry "RES 6,(HL)" 0xCBB6 1 11
  | .res_6_a => entry "RES 6,A" 0xCBB7 1 4
  | .res_7_b => entry "RES 7,B" 0xCBB8 1 4
  | .res_7_c => entry "RES 7,C" 0xCBB9 1 4
  | .res_7_d => entry "RES 7,D" 0xCBBA 1 4
  | .res_7_e => entry "RES 7,E" 0xCBBB 1 4
  | .res_7_h => entry "RES 7,H" 0xCBBC 1 4
  | .res_7_l => entry "RES 7,L" 0xCBBD 1 4
  | .res_7_mhl => entry "RES 7,(HL)" 0xCBBE 1 11
  | .res_7_a => entry "RES 7,A" 0xCBBF 1 4
  | .set_0_b => entry "SET 0,B" 0xCBC0 1 4
  | .set_0_c => entry "SET 0,C" 0xCBC1 1 4
  | .set_0_d => entry "SET 0,D" 0xCBC2 1 4
  | .set_0_e => entry "SET 0,E" 0xCBC3 1 4
  | .set_0_h => entry "SET 0,H" 0xCBC4 1 4
  | .set_0_l => entry "SET 0,L" 0xCBC5 1 4
  | .set_0_mhl => entry "SET 0,(HL)" 0xCBC6 1 11
  | .set_0_a => entry "SET 0,A" 0xCBC7 1 4
  | .set_1_b => entry "SET 1,B" 0xCBC8 1 4
  | .set_1_c => entry "SET 1,C" 0xCBC9 1 4
  | .set_1_d => entry "SET 1,D" 0xCBCA 1 4
  | .set_1_e => entry "SET 1,E" 0xCBCB 1 4
  | .set_1_h => entry "SET 1,H" 0xCBCC 1 4
  | .set_1_l => entry "SET 1,L" 0xCBCD 1 4
  | .set_1_mhl => entry "SET 1,(HL)" 0xCBCE 1 11
  | .set_1_a => entry "SET 1,A" 0xCBCF 1 4
  | .set_2_b => entry "SET 2,B" 0xCBD0 1 4
  | .set_2_c => entry "SET 2,C" 0xCBD1 1 4
  | .set_2_d => entry "SET 2,D" 0xCBD2 1 4
  | .set_2_e => entry "SET 2,E" 0xCBD3 1 4
  | .set_2_h => entry "SET 2,H" 0xCBD4 1 4
  | .set_2_l => entry "SET 2,L" 0xCBD5 1 4
  | .set_2_mhl => entry "SET 2,(HL)" 0xCBD6 1 11
  | .set_2_a => entry "SET 2,A" 0xCBD7 1 4
  | .set_3_b => entry "SET 3,B" 0xCBD8 1 4
  | .set_3_c => entry "SET 3,C" 0xCBD9 1 4
  | .set_3_d => entry "SET 3,D" 0xCBDA 1 4
  | .set_3_e => entry "SET 3,E" 0xCBDB 1 4
  | .set_3_h => entry "SET 3,H" 0xCBDC 1 4
  | .set_3_l => entry "SET 3,L" 0xCBDD 1 4
  | .set_3_mhl => entry "SET 3,(HL)" 0xCBDE 1 11
  | .set_3_a => entry "SET 3,A" 0xCBDF 1 4
  | .set_4_b => entry "SET 4,B" 0xCBE0 1 4
  | .set_4_c => entry "SET 4,C" 0xCBE1 1 4
  | .set_4_d => entry "SET 4,D" 0xCBE2 1 4
  | .set_4_e => entry "SET 4,E" 0xCBE3 1 4
  | .set_4_h => entry "SET 4,H" 0xCBE4 1 4
  | .set_4_l => entry "SET 4,L" 0xCBE5 1 4
  | .set_4_mhl => entry "SET 4,(HL)" 0xCBE6 1 11
  | .set_4_a => entry "SET 4,A" 0xCBE7 1 4
  | .set_5_b => entry "SET 5,B" 0xCBE8 1 4
  | .set_5_c => entry "SET 5,C" 0xCBE9 1 4
  | .set_5_d => entry "SET 5,D" 0xCBEA 1 4
  | .set_5_e => entry "SET 5,E" 0xCBEB 1 4
  | .set_5_h => entry "SET 5,H" 0xCBEC 1 4
  | .set_5_l => entry "SET 5,L" 0xCBED 1 4
  | .set_5_mhl => entry "SET 5,(HL)" 0xCBEE 1 11
  | .set_5_a => entry "SET 5,A" 0xCBEF 1 4
  | .set_6_b => entry "SET 6,B" 0xCBF0 1 4
  | .set_6_c => entry "SET 6,C" 0xCBF1 1 4
  | .set_6_d => entry "SET 6,D" 0xCBF2 1 4
  | .set_6_e => entry "SET 6,E" 0xCBF3 1 4
  | .set_6_h => entry "SET 6,H" 0xCBF4 1 4
  | .set_6_l => entry "SET 6,L" 0xCBF5 1 4
  | .set_6_mhl => entry "SET 6,(HL)" 0xCBF6 1 11
  | .set_6_a => entry "SET 6,A" 0xCBF7 1 4
  | .set_7_b => entry "SET 7,B" 0xCBF8 1 4
  | .set_7_c => entry "SET 7,C" 0xCBF9 1 4
  | .set_7_d => entry "SET 7,D" 0xCBFA 1 4
  | .set_7_e => entry "SET 7,E" 0xCBFB 1 4
  | .set_7_h => entry "SET 7,H" 0xCBFC 1 4
  | .set_7_l => entry "SET 7,L" 0xCBFD 1 4
  | .set_7_mhl => entry "SET 7,(HL)" 0xCBFE 1 11
  | .set_7_a => entry "SET 7,A" 0xCBFF 1 4
  | .in_b_portC => entry "IN B,(C)" 0xED40 1 8
  | .out_portC_b => entry "OUT (C),B" 0xED41 1 8
  | .sbc_hl_bc => entry "SBC HL,BC" 0xED42 1 11
  | .ld_mnn_bc _ => entry "LD (nn),BC" 0xED43 3 16
  | .neg => entry "NEG" 0xED44 1 4
  | .retn => entry "RETN" 0xED45 1 10
  | .im_0 => entry "IM 0" 0xED46 1 4
  | .ld_i_a => entry "LD I,A" 0xED47 1 5
  | .in_c_portC => entry "IN C,(C)" 0xED48 1 8
  | .out_portC_c => entry "OUT (C),C" 0xED49 1 8
  | .adc_hl_bc => entry "ADC HL,BC" 0xED4A 1 11
  | .ld_bc_mnn _ => entry "LD BC,(nn)" 0xED4B 3 16
  | .neg_ED4C => optEntry "NEG" 0xED4C 1 4
  | .reti => entry "RETI" 0xED4D 1 10
  | .im_0_ED4E => optEntry "IM 0" 0xED4E 1 4
  | .ld_r_a => entry "LD R,A" 0xED4F 1 5
  | .in_d_portC => entry "IN D,(C)" 0xED50 1 8
  | .out_portC_d => entry "OUT (C),D" 0xED51 1 8
  | .sbc_hl_de => entry "SBC HL,DE" 0xED52 1 11
  | .ld_mnn_de _ => entry "LD (nn),DE" 0xED53 3 16
  | .neg_ED54 => optEntry "NEG" 0xED54 1 4
  | .retn_ED55 => optEntry "RETN" 0xED55 1 10
  | .im_1 => entry "IM 1" 0xED56 1 4
  | .ld_a_i => entry "LD A,I" 0xED57 1 5
  | .in_e_portC => entry "IN E,(C)" 0xED58 1 8
  | .out_portC_e => entry "OUT (C),E" 0xED59 1 8
  | .adc_hl_de => entry "ADC HL,DE" 0xED5A 1 11
  | .ld_de_mnn _ => entry "LD DE,(nn)" 0xED5B 3 16
  | .neg_ED5C => optEntry "NEG" 0xED5C 1 4
  | .retn_ED5D => optEntry "RETN" 0xED5D 1 10
  | .im_2 => entry "IM 2" 0xED5E 1 4
  | .ld_a_r => entry "LD A,R" 0xED5F 1 5
  | .in_h_portC => entry "IN H,(C)" 0xED60 1 8
  | .out_portC_h => entry "OUT (C),H" 0xED61 1 8
  | .sbc_hl_hl => entry "SBC HL,HL" 0xED62 1 11
  | .ld_mnn_hl_ED63 _ => entry "LD (nn),HL" 0xED63 3 16
  | .neg_ED64 => optEntry "NEG" 0xED64 1 4
  | .retn_ED65 => optEntry "RETN" 0xED65 1 10
  | .im_0_ED66 => optEntry "IM 0" 0xED66 1 4
  | .rrd => entry "RRD" 0xED67 1 14
  | .in_l_portC => entry "IN L,(C)" 0xED68 1 8
  | .out_portC_l => entry "OUT (C),L" 0xED69 1 8
  | .adc_hl_hl => entry "ADC HL,HL" 0xED6A 1 11
  | .ld_hl_mnn_ED6B _ => entry "LD HL,(nn)" 0xED6B 3 16
  | .neg_ED6C => optEntry "NEG" 0xED6C 1 4
  | .retn_ED6D => optEntry "RETN" 0xED6D 1 10
  | .im_0_ED6E => optEntry "IM 0" 0xED6E 1 4
  | .rld => entry "RLD" 0xED6F 1 14
  | .in_portC => optEntry "IN (C)" 0xED70 1 8
  | .out_portC_0 => optEntry "OUT (C),0" 0xED71 1 8
  | .sbc_hl_sp => entry "SBC HL,SP" 0xED72 1 11
  | .ld_mnn_sp _ => entry "LD (nn),SP" 0xED73 3 16
  | .neg_ED74 => optEntry "NEG" 0xED74 1 4
  | .retn_ED75 => optEntry "RETN" 0xED75 1 10
  | .im_1_ED76 => optEntry "IM 1" 0xED76 1 4
  | .in_a_portC => entry "IN A,(C)" 0xED78 1 8
  | .out_portC_a => entry "OUT (C),A" 0xED79 1 8
  | .adc_hl_sp => entry "ADC HL,SP" 0xED7A 1 11
  | .ld_sp_mnn _ => entry "LD SP,(nn)" 0xED7B 3 16
  | .neg_ED7C => optEntry "NEG" 0xED7C 1 4
  | .retn_ED7D => optEntry "RETN" 0xED7D 1 10
  | .im_2_ED7E => optEntry "IM 2" 0xED7E 1 4
  | .ldi => entry "LDI" 0xEDA0 1 12
  | .cpi => entry "CPI" 0xEDA1 1 12
  | .ini => entry "INI" 0xEDA2 1 12
  | .outi => entry "OUTI" 0xEDA3 1 12
  | .ldd => entry "LDD" 0xEDA8 1 12
  | .cpd => entry "CPD" 0xEDA9 1 12
  | .ind => entry "IND" 0xEDAA 1 12
  | .outd => entry "OUTD" 0xEDAB 1 12
  | .ldir => varEntry "LDIR" 0xEDB0 1 12 .countBc 5
  | .cpir => varEntry "CPIR" 0xEDB1 1 12 .noMatch 5
  | .inir => varEntry "INIR" 0xEDB2 1 12 .countB 5
  | .otir => varEntry "OTIR" 0xEDB3 1 12 .countB 5
  | .lddr => varEntry "LDDR" 0xEDB8 1 12 .countBc 5
  | .cpdr => varEntry "CPDR" 0xEDB9 1 12 .noMatch 5
  | .indr => varEntry "INDR" 0xEDBA 1 12 .countB 5
  | .otdr => varEntry "OTDR" 0xEDBB 1 12 .countB 5
  | .add_ix_bc => entry "ADD IX,BC" 0xDD09 1 11
  | .add_ix_de => entry "ADD IX,DE" 0xDD19 1 11
  | .ld_ix_nn _ => entry "LD IX,nn" 0xDD21 3 10
  | .ld_mnn_ix _ => entry "LD (nn),IX" 0xDD22 3 16
  | .inc_ix => entry "INC IX" 0xDD23 1 6
  | .inc_ixh => optEntry "INC IXH" 0xDD24 1 4
  | .dec_ixh => optEntry "DEC IXH" 0xDD25 1 4
  | .ld_ixh_n _ => optEntry "LD IXH,n" 0xDD26 2 7
  | .add_ix_ix => entry "ADD IX,IX" 0xDD29 1 11
  | .ld_ix_mnn _ => entry "LD IX,(nn)" 0xDD2A 3 16
  | .dec_ix => entry "DEC IX" 0xDD2B 1 6
  | .inc_ixl => optEntry "INC IXL" 0xDD2C 1 4
  | .dec_ixl => optEntry "DEC IXL" 0xDD2D 1 4
  | .ld_ixl_n _ => optEntry "LD IXL,n" 0xDD2E 2 7
  | .inc_ixd _ => entry "INC (IX+d)" 0xDD34 2 19
  | .dec_ixd _ => entry "DEC (IX+d)" 0xDD35 2 19
  | .ld_ixd_n _ _ => entry "LD (IX+d),n" 0xDD36 3 15
  | .add_ix_sp => entry "ADD IX,SP" 0xDD39 1 11
  | .ld_b_ixh => optEntry "LD B,IXH" 0xDD44 1 4
  | .ld_b_ixl => optEntry "LD B,IXL" 0xDD45 1 4
  | .ld_b_ixd _ => entry "LD B,(IX+d)" 0xDD46 2 15
  | .ld_c_ixh => optEntry "LD C,IXH" 0xDD4C 1 4
  | .ld_c_ixl => optEntry "LD C,IXL" 0xDD4D 1 4
  | .ld_c_ixd _ => entry "LD C,(IX+d)" 0xDD4E 2 15
  | .ld_d_ixh => optEntry "LD D,IXH" 0xDD54 1 4
  | .ld_d_ixl => optEntry "LD D,IXL" 0xDD55 1 4
  | .ld_d_ixd _ => entry "LD D,(IX+d)" 0xDD56 2 15
  | .ld_e_ixh => optEntry "LD E,IXH" 0xDD5C 1 4
  | .ld_e_ixl => optEntry "LD E,IXL" 0xDD5D 1 4
  | .ld_e_ixd _ => entry "LD E,(IX+d)" 0xDD5E 2 15
  | .ld_ixh_b => optEntry "LD IXH,B" 0xDD60 1 4
  | .ld_ixh_c => optEntry "LD IXH,C" 0xDD61 1 4
  | .ld_ixh_d => optEntry "LD IXH,D" 0xDD62 1 4
  | .ld_ixh_e => optEntry "LD IXH,E" 0xDD63 1 4
  | .ld_ixh_ixh => optEntry "LD IXH,IXH" 0xDD64 1 4
  | .ld_ixh_ixl => optEntry "LD IXH,IXL" 0xDD65 1 4
  | .ld_h_ixd _ => entry "LD H,(IX+d)" 0xDD66 2 15
  | .ld_ixh_a => optEntry "LD IXH,A" 0xDD67 1 4
  | .ld_ixl_b => optEntry "LD IXL,B" 0xDD68 1 4
  | .ld_ixl_c => optEntry "LD IXL,C" 0xDD69 1 4
  | .ld_ixl_d => optEntry "LD IXL,D" 0xDD6A 1 4
  | .ld_ixl_e => optEntry "LD IXL,E" 0xDD6B 1 4
  | .ld_ixl_ixh => optEntry "LD IXL,IXH" 0xDD6C 1 4
  | .ld_ixl_ixl => optEntry "LD IXL,IXL" 0xDD6D 1 4
  | .ld_l_ixd _ => entry "LD L,(IX+d)" 0xDD6E 2 15
  | .ld_ixl_a => optEntry "LD IXL,A" 0xDD6F 1 4
  | .ld_ixd_b _ => entry "LD (IX+d),B" 0xDD70 2 15
  | .ld_ixd_c _ => entry "LD (IX+d),C" 0xDD71 2 15
  | .ld_ixd_d _ => entry "LD (IX+d),D" 0xDD72 2 15
  | .ld_ixd_e _ => entry "LD (IX+d),E" 0xDD73 2 15
  | .ld_ixd_h _ => entry "LD (IX+d),H" 0xDD74 2 15
  | .ld_ixd_l _ => entry "LD (IX+d),L" 0xDD75 2 15
  | .ld_ixd_a _ => entry "LD (IX+d),A" 0xDD77 2 15
  | .ld_a_ixh => optEntry "LD A,IXH" 0xDD7C 1 4
  | .ld_a_ixl => optEntry "LD A,IXL" 0xDD7D 1 4
  | .ld_a_ixd _ => entry "LD A,(IX+d)" 0xDD7E 2 15
  | .add_a_ixh => optEntry "ADD A,IXH" 0xDD84 1 4
  | .add_a_ixl => optEntry "ADD A,IXL" 0xDD85 1 4
  | .add_a_ixd _ => entry "ADD A,(IX+d)" 0xDD86 2 15
  | .adc_a_ixh => optEntry "ADC A,IXH" 0xDD8C 1 4
  | .adc_a_ixl => optEntry "ADC A,IXL" 0xDD8D 1 4
  | .adc_a_ixd _ => entry "ADC A,(IX+d)" 0xDD8E 2 15
  | .sub_ixh => optEntry "SUB IXH" 0xDD94 1 4
  | .sub_ixl => optEntry "SUB IXL" 0xDD95 1 4
  | .sub_ixd _ => entry "SUB (IX+d)" 0xDD96 2 15
  | .sbc_a_ixh => optEntry "SBC A,IXH" 0xDD9C 1 4
  | .sbc_a_ixl => optEntry "SBC A,IXL" 0xDD9D 1 4
  | .sbc_a_ixd _ => entry "SBC A,(IX+d)" 0xDD9E 2 15
  | .and_ixh => optEntry "AND IXH" 0xDDA4 1 4
  | .and_ixl => optEntry "AND IXL" 0xDDA5 1 4
  | .and_ixd _ => entry "AND (IX+d)" 0xDDA6 2 15
  | .xor_ixh => optEntry "XOR IXH" 0xDDAC 1 4
  | .xor_ixl => optEntry "XOR IXL" 0xDDAD 1 4
  | .xor_ixd _ => entry "XOR (IX+d)" 0xDDAE 2 15
  | .or_ixh => optEntry "OR IXH" 0xDDB4 1 4
  | .or_ixl => optEntry "OR IXL" 0xDDB5 1 4
  | .or_ixd _ => entry "OR (IX+d)" 0xDDB6 2 15
  | .cp_ixh => optEntry "CP IXH" 0xDDBC 1 4
  | .cp_ixl => optEntry "CP IXL" 0xDDBD 1 4
  | .cp_ixd _ => entry "CP (IX+d)" 0xDDBE 2 15
  | .pop_ix => entry "POP IX" 0xDDE1 1 10
  | .ex_msp_ix => entry "EX (SP),IX" 0xDDE3 1 19
  | .push_ix => entry "PUSH IX" 0xDDE5 1 11
  | .jp_ix => entry "JP (IX)" 0xDDE9 1 4
  | .ld_sp_ix => entry "LD SP,IX" 0xDDF9 1 6
  | .rlc_ixd_b _ => optEntry "RLC (IX+d),B" 0xDDCB00 3 19
  | .rlc_ixd_c _ => optEntry "RLC (IX+d),C" 0xDDCB01 3 19
  | .rlc_ixd_d _ => optEntry "RLC (IX+d),D" 0xDDCB02 3 19
  | .rlc_ixd_e _ => optEntry "RLC (IX+d),E" 0xDDCB03 3 19
  | .rlc_ixd_h _ => optEntry "RLC (IX+d),H" 0xDDCB04 3 19
  | .rlc_ixd_l _ => optEntry "RLC (IX+d),L" 0xDDCB05 3 19
  | .rlc_ixd _ => entry "RLC (IX+d)" 0xDDCB06 3 19
  | .rlc_ixd_a _ => optEntry "RLC (IX+d),A" 0xDDCB07 3 19
  | .rrc_ixd_b _ => optEntry "RRC (IX+d),B" 0xDDCB08 3 19
  | .rrc_ixd_c _ => optEntry "RRC (IX+d),C" 0xDDCB09 3 19
  | .rrc_ixd_d _ => optEntry "RRC (IX+d),D" 0xDDCB0A 3 19
  | .rrc_ixd_e _ => optEntry "RRC (IX+d),E" 0xDDCB0B 3 19
  | .rrc_ixd_h _ => optEntry "RRC (IX+d),H" 0xDDCB0C 3 19
  | .rrc_ixd_l _ => optEntry "RRC (IX+d),L" 0xDDCB0D 3 19
  | .rrc_ixd _ => entry "RRC (IX+d)" 0xDDCB0E 3 19
  | .rrc_ixd_a _ => optEntry "RRC (IX+d),A" 0xDDCB0F 3 19
  | .rl_ixd_b _ => optEntry "RL (IX+d),B" 0xDDCB10 3 19
  | .rl_ixd_c _ => optEntry "RL (IX+d),C" 0xDDCB11 3 19
  | .rl_ixd_d _ => optEntry "RL (IX+d),D" 0xDDCB12 3 19
  | .rl_ixd_e _ => optEntry "RL (IX+d),E" 0xDDCB13 3 19
  | .rl_ixd_h _ => optEntry "RL (IX+d),H" 0xDDCB14 3 19
  | .rl_ixd_l _ => optEntry "RL (IX+d),L" 0xDDCB15 3 19
  | .rl_ixd _ => entry "RL (IX+d)" 0xDDCB16 3 19
  | .rl_ixd_a _ => optEntry "RL (IX+d),A" 0xDDCB17 3 19
  | .rr_ixd_b _ => optEntry "RR (IX+d),B" 0xDDCB18 3 19
  | .rr_ixd_c _ => optEntry "RR (IX+d),C" 0xDDCB19 3 19
  | .rr_ixd_d _ => optEntry "RR (IX+d),D" 0xDDCB1A 3 19
  | .rr_ixd_e _ => optEntry "RR (IX+d),E" 0xDDCB1B 3 19
  | .rr_ixd_h _ => optEntry "RR (IX+d),H" 0xDDCB1C 3 19
  | .rr_ixd_l _ => optEntry "RR (IX+d),L" 0xDDCB1D 3 19
  | .rr_ixd _ => entry "RR (IX+d)" 0xDDCB1E 3 19
  | .rr_ixd_a _ => optEntry "RR (IX+d),A" 0xDDCB1F 3 19
  | .sla_ixd_b _ => optEntry "SLA (IX+d),B" 0xDDCB20 3 19
  | .sla_ixd_c _ => optEntry "SLA (IX+d),C" 0xDDCB21 3 19
  | .sla_ixd_d _ => optEntry "SLA (IX+d),D" 0xDDCB22 3 19
  | .sla_ixd_e _ => optEntry "SLA (IX+d),E" 0xDDCB23 3 19
  | .sla_ixd_h _ => optEntry "SLA (IX+d),H" 0xDDCB24 3 19
  | .sla_ixd_l _ => optEntry "SLA (IX+d),L" 0xDDCB25 3 19
  | .sla_ixd _ => entry "SLA (IX+d)" 0xDDCB26 3 19
  | .sla_ixd_a _ => optEntry "SLA (IX+d),A" 0xDDCB27 3 19
  | .sra_ixd_b _ => optEntry "SRA (IX+d),B" 0xDDCB28 3 19
  | .sra_ixd_c _ => optEntry "SRA (IX+d),C" 0xDDCB29 3 19
  | .sra_ixd_d _ => optEntry "SRA (IX+d),D" 0xDDCB2A 3 19
  | .sra_ixd_e _ => optEntry "SRA (IX+d),E" 0xDDCB2B 3 19
  | .sra_ixd_h _ => optEntry "SRA (IX+d),H" 0xDDCB2C 3 19
  | .sra_ixd_l _ => optEntry "SRA (IX+d),L" 0xDDCB2D 3 19
  | .sra_ixd _ => entry "SRA (IX+d)" 0xDDCB2E 3 19
  | .sra_ixd_a _ => optEntry "SRA (IX+d),A" 0xDDCB2F 3 19
  | .sll_ixd_b _ => optEntry "SLL (IX+d),B" 0xDDCB30 3 19
  | .sll_ixd_c _ => optEntry "SLL (IX+d),C" 0xDDCB31 3 19
  | .sll_ixd_d _ => optEntry "SLL (IX+d),D" 0xDDCB32 3 19
  | .sll_ixd_e _ => optEntry "SLL (IX+d),E" 0xDDCB33 3 19
  | .sll_ixd_h _ => optEntry "SLL (IX+d),H" 0xDDCB34 3 19
  | .sll_ixd_l _ => optEntry "SLL (IX+d),L" 0xDDCB35 3 19
  | .sll_ixd _ => entry "SLL (IX+d)" 0xDDCB36 3 19
  | .sll_ixd_a _ => optEntry "SLL (IX+d),A" 0xDDCB37 3 19
  | .srl_ixd_b _ => optEntry "SRL (IX+d),B" 0xDDCB38 3 19
  | .srl_ixd_c _ => optEntry "SRL (IX+d),C" 0xDDCB39 3 19
  | .srl_ixd_d _ => optEntry "SRL (IX+d),D" 0xDDCB3A 3 19
  | .srl_ixd_e _ => optEntry "SRL (IX+d),E" 0xDDCB3B 3 19
  | .srl_ixd_h _ => optEntry "SRL (IX+d),H" 0xDDCB3C 3 19
  | .srl_ixd_l _ => optEntry "SRL (IX+d),L" 0xDDCB3D 3 19
  | .srl_ixd _ => entry "SRL (IX+d)" 0xDDCB3E 3 19
  | .srl_ixd_a _ => optEntry "SRL (IX+d),A" 0xDDCB3F 3 19
  | .bit_0_ixd_z0 _ => optEntry "BIT 0,(IX+d)" 0xDDCB40 3 16
  | .bit_0_ixd_z1 _ => optEntry "BIT 0,(IX+d)" 0xDDCB41 3 16
  | .bit_0_ixd_z2 _ => optEntry "BIT 0,(IX+d)" 0xDDCB42 3 16
  | .bit_0_ixd_z3 _ => optEntry "BIT 0,(IX+d)" 0xDDCB43 3 16
  | .bit_0_ixd_z4 _ => optEntry "BIT 0,(IX+d)" 0xDDCB44 3 16
  | .bit_0_ixd_z5 _ => optEntry "BIT 0,(IX+d)" 0xDDCB45 3 16
  | .bit_0_ixd _ => entry "BIT 0,(IX+d)" 0xDDCB46 3 16
  | .bit_0_ixd_z7 _ => optEntry "BIT 0,(IX+d)" 0xDDCB47 3 16
  | .bit_1_ixd_z0 _ => optEntry "BIT 1,(IX+d)" 0xDDCB48 3 16
  | .bit_1_ixd_z1 _ => optEntry "BIT 1,(IX+d)" 0xDDCB49 3 16
  | .bit_1_ixd_z2 _ => optEntry "BIT 1,(IX+d)" 0xDDCB4A 3 16
  | .bit_1_ixd_z3 _ => optEntry "BIT 1,(IX+d)" 0xDDCB4B 3 16
  | .bit_1_ixd_z4 _ => optEntry "BIT 1,(IX+d)" 0xDDCB4C 3 16
  | .bit_1_ixd_z5 _ => optEntry "BIT 1,(IX+d)" 0xDDCB4D 3 16
  | .bit_1_ixd _ => entry "BIT 1,(IX+d)" 0xDDCB4E 3 16
  | .bit_1_ixd_z7 _ => optEntry "BIT 1,(IX+d)" 0xDDCB4F 3 16
  | .bit_2_ixd_z0 _ => optEntry "BIT 2,(IX+d)" 0xDDCB50 3 16
  | .bit_2_ixd_z1 _ => optEntry "BIT 2,(IX+d)" 0xDDCB51 3 16
  | .bit_2_ixd_z2 _ => optEntry "BIT 2,(IX+d)" 0xDDCB52 3 16
  | .bit_2_ixd_z3 _ => optEntry "BIT 2,(IX+d)" 0xDDCB53 3 16
  | .bit_2_ixd_z4 _ => optEntry "BIT 2,(IX+d)" 0xDDCB54 3 16
  | .bit_2_ixd_z5 _ => optEntry "BIT 2,(IX+d)" 0xDDCB55 3 16
  | .bit_2_ixd _ => entry "BIT 2,(IX+d)" 0xDDCB56 3 16
  | .bit_2_ixd_z7 _ => optEntry "BIT 2,(IX+d)" 0xDDCB57 3 16
  | .bit_3_ixd_z0 _ => optEntry "BIT 3,(IX+d)" 0xDDCB58 3 16
  | .bit_3_ixd_z1 _ => optEntry "BIT 3,(IX+d)" 0xDDCB59 3 16
  | .bit_3_ixd_z2 _ => optEntry "BIT 3,(IX+d)" 0xDDCB5A 3 16
  | .bit_3_ixd_z3 _ => optEntry "BIT 3,(IX+d)" 0xDDCB5B 3 16
  | .bit_3_ixd_z4 _ => optEntry "BIT 3,(IX+d)" 0xDDCB5C 3 16
  | .bit_3_ixd_z5 _ => optEntry "BIT 3,(IX+d)" 0xDDCB5D 3 16
  | .bit_3_ixd _ => entry "BIT 3,(IX+d)" 0xDDCB5E 3 16
  | .bit_3_ixd_z7 _ => optEntry "BIT 3,(IX+d)" 0xDDCB5F 3 16
  | .bit_4_ixd_z0 _ => optEntry "BIT 4,(IX+d)" 0xDDCB60 3 16
  | .bit_4_ixd_z1 _ => optEntry "BIT 4,(IX+d)" 0xDDCB61 3 16
  | .bit_4_ixd_z2 _ => optEntry "BIT 4,(IX+d)" 0xDDCB62 3 16
  | .bit_4_ixd_z3 _ => optEntry "BIT 4,(IX+d)" 0xDDCB63 3 16
  | .bit_4_ixd_z4 _ => optEntry "BIT 4,(IX+d)" 0xDDCB64 3 16
  | .bit_4_ixd_z5 _ => optEntry "BIT 4,(IX+d)" 0xDDCB65 3 16
  | .bit_4_ixd _ => entry "BIT 4,(IX+d)" 0xDDCB66 3 16
  | .bit_4_ixd_z7 _ => optEntry "BIT 4,(IX+d)" 0xDDCB67 3 16
  | .bit_5_ixd_z0 _ => optEntry "BIT 5,(IX+d)" 0xDDCB68 3 16
  | .bit_5_ixd_z1 _ => optEntry "BIT 5,(IX+d)" 0xDDCB69 3 16
  | .bit_5_ixd_z2 _ => optEntry "BIT 5,(IX+d)" 0xDDCB6A 3 16
  | .bit_5_ixd_z3 _ => optEntry "BIT 5,(IX+d)" 0xDDCB6B 3 16
  | .bit_5_ixd_z4 _ => optEntry "BIT 5,(IX+d)" 0xDDCB6C 3 16
  | .bit_5_ixd_z5 _ => optEntry "BIT 5,(IX+d)" 0xDDCB6D 3 16
  | .bit_5_ixd _ => entry "BIT 5,(IX+d)" 0xDDCB6E 3 16
  | .bit_5_ixd_z7 _ => optEntry "BIT 5,(IX+d)" 0xDDCB6F 3 16
  | .bit_6_ixd_z0 _ => optEntry "BIT 6,(IX+d)" 0xDDCB70 3 16
  | .bit_6_ixd_z1 _ => optEntry "BIT 6,(IX+d)" 0xDDCB71 3 16
  | .bit_6_ixd_z2 _ => optEntry "BIT 6,(IX+d)" 0xDDCB72 3 16
  | .bit_6_ixd_z3 _ => optEntry "BIT 6,(IX+d)" 0xDDCB73 3 16
  | .bit_6_ixd_z4 _ => optEntry "BIT 6,(IX+d)" 0xDDCB74 3 16
  | .bit_6_ixd_z5 _ => optEntry "BIT 6,(IX+d)" 0xDDCB75 3 16
  | .bit_6_ixd _ => entry "BIT 6,(IX+d)" 0xDDCB76 3 16
  | .bit_6_ixd_z7 _ => optEntry "BIT 6,(IX+d)" 0xDDCB77 3 16
  | .bit_7_ixd_z0 _ => optEntry "BIT 7,(IX+d)" 0xDDCB78 3 16
  | .bit_7_ixd_z1 _ => optEntry "BIT 7,(IX+d)" 0xDDCB79 3 16
  | .bit_7_ixd_z2 _ => optEntry "BIT 7,(IX+d)" 0xDDCB7A 3 16
  | .bit_7_ixd_z3 _ => optEntry "BIT 7,(IX+d)" 0xDDCB7B 3 16
  | .bit_7_ixd_z4 _ => optEntry "BIT 7,(IX+d)" 0xDDCB7C 3 16
  | .bit_7_ixd_z5 _ => optEntry "BIT 7,(IX+d)" 0xDDCB7D 3 16
  | .bit_7_ixd _ => entry "BIT 7,(IX+d)" 0xDDCB7E 3 16
  | .bit_7_ixd_z7 _ => optEntry "BIT 7,(IX+d)" 0xDDCB7F 3 16
  | .res_0_ixd_b _ => optEntry "RES 0,(IX+d),B" 0xDDCB80 3 19
  | .res_0_ixd_c _ => optEntry "RES 0,(IX+d),C" 0xDDCB81 3 19
  | .res_0_ixd_d _ => optEntry "RES 0,(IX+d),D" 0xDDCB82 3 19
  | .res_0_ixd_e _ => optEntry "RES 0,(IX+d),E" 0xDDCB83 3 19
  | .res_0_ixd_h _ => optEntry "RES 0,(IX+d),H" 0xDDCB84 3 19
  | .res_0_ixd_l _ => optEntry "RES 0,(IX+d),L" 0xDDCB85 3 19
  | .res_0_ixd _ => entry "RES 0,(IX+d)" 0xDDCB86 3 19
  | .res_0_ixd_a _ => optEntry "RES 0,(IX+d),A" 0xDDCB87 3 19
  | .res_1_ixd_b _ => optEntry "RES 1,(IX+d),B" 0xDDCB88 3 19
  | .res_1_ixd_c _ => optEntry "RES 1,(IX+d),C" 0xDDCB89 3 19
  | .res_1_ixd_d _ => optEntry "RES 1,(IX+d),D" 0xDDCB8A 3 19
  | .res_1_ixd_e _ => optEntry "RES 1,(IX+d),E" 0xDDCB8B 3 19
  | .res_1_ixd_h _ => optEntry "RES 1,(IX+d),H" 0xDDCB8C 3 19
  | .res_1_ixd_l _ => optEntry "RES 1,(IX+d),L" 0xDDCB8D 3 19
  | .res_1_ixd _ => entry "RES 1,(IX+d)" 0xDDCB8E 3 19
  | .res_1_ixd_a _ => optEntry "RES 1,(IX+d),A" 0xDDCB8F 3 19
  | .res_2_ixd_b _ => optEntry "RES 2,(IX+d),B" 0xDDCB90 3 19
  | .res_2_ixd_c _ => optEntry "RES 2,(IX+d),C" 0xDDCB91 3 19
  | .res_2_ixd_d _ => optEntry "RES 2,(IX+d),D" 0xDDCB92 3 19
  | .res_2_ixd_e _ => optEntry "RES 2,(IX+d),E" 0xDDCB93 3 19
  | .res_2_ixd_h _ => optEntry "RES 2,(IX+d),H" 0xDDCB94 3 19
  | .res_2_ixd_l _ => optEntry "RES 2,(IX+d),L" 0xDDCB95 3 19
  | .res_2_ixd _ => entry "RES 2,(IX+d)" 0xDDCB96 3 19
  | .res_2_ixd_a _ => optEntry "RES 2,(IX+d),A" 0xDDCB97 3 19
  | .res_3_ixd_b _ => optEntry "RES 3,(IX+d),B" 0xDDCB98 3 19
  | .res_3_ixd_c _ => optEntry "RES 3,(IX+d),C" 0xDDCB99 3 19
  | .res_3_ixd_d _ => optEntry "RES 3,(IX+d),D" 0xDDCB9A 3 19
  | .res_3_ixd_e _ => optEntry "RES 3,(IX+d),E" 0xDDCB9B 3 19
  | .res_3_ixd_h _ => optEntry "RES 3,(IX+d),H" 0xDDCB9C 3 19
  | .res_3_ixd_l _ => optEntry "RES 3,(IX+d),L" 0xDDCB9D 3 19
  | .res_3_ixd _ => entry "RES 3,(IX+d)" 0xDDCB9E 3 19
  | .res_3_ixd_a _ => optEntry "RES 3,(IX+d),A" 0xDDCB9F 3 19
  | .res_4_ixd_b _ => optEntry "RES 4,(IX+d),B" 0xDDCBA0 3 19
  | .res_4_ixd_c _ => optEntry "RES 4,(IX+d),C" 0xDDCBA1 3 19
  | .res_4_ixd_d _ => optEntry "RES 4,(IX+d),D" 0xDDCBA2 3 19
  | .res_4_ixd_e _ => optEntry "RES 4,(IX+d),E" 0xDDCBA3 3 19
  | .res_4_ixd_h _ => optEntry "RES 4,(IX+d),H" 0xDDCBA4 3 19
  | .res_4_ixd_l _ => optEntry "RES 4,(IX+d),L" 0xDDCBA5 3 19
  | .res_4_ixd _ => entry "RES 4,(IX+d)" 0xDDCBA6 3 19
  | .res_4_ixd_a _ => optEntry "RES 4,(IX+d),A" 0xDDCBA7 3 19
  | .res_5_ixd_b _ => optEntry "RES 5,(IX+d),B" 0xDDCBA8 3 19
  | .res_5_ixd_c _ => optEntry "RES 5,(IX+d),C" 0xDDCBA9 3 19
  | .res_5_ixd_d _ => optEntry "RES 5,(IX+d),D" 0xDDCBAA 3 19
  | .res_5_ixd_e _ => optEntry "RES 5,(IX+d),E" 0xDDCBAB 3 19
  | .res_5_ixd_h _ => optEntry "RES 5,(IX+d),H" 0xDDCBAC 3 19
  | .res_5_ixd_l _ => optEntry "RES 5,(IX+d),L" 0xDDCBAD 3 19
  | .res_5_ixd _ => entry "RES 5,(IX+d)" 0xDDCBAE 3 19
  | .res_5_ixd_a _ => optEntry "RES 5,(IX+d),A" 0xDDCBAF 3 19
  | .res_6_ixd_b _ => optEntry "RES 6,(IX+d),B" 0xDDCBB0 3 19
  | .res_6_ixd_c _ => optEntry "RES 6,(IX+d),C" 0xDDCBB1 3 19
  | .res_6_ixd_d _ => optEntry "RES 6,(IX+d),D" 0xDDCBB2 3 19
  | .res_6_ixd_e _ => optEntry "RES 6,(IX+d),E" 0xDDCBB3 3 19
  | .res_6_ixd_h _ => optEntry "RES 6,(IX+d),H" 0xDDCBB4 3 19
  | .res_6_ixd_l _ => optEntry "RES 6,(IX+d),L" 0xDDCBB5 3 19
  | .res_6_ixd _ => entry "RES 6,(IX+d)" 0xDDCBB6 3 19
  | .res_6_ixd_a _ => optEntry "RES 6,(IX+d),A" 0xDDCBB7 3 19
  | .res_7_ixd_b _ => optEntry "RES 7,(IX+d),B" 0xDDCBB8 3 19
  | .res_7_ixd_c _ => optEntry "RES 7,(IX+d),C" 0xDDCBB9 3 19
  | .res_7_ixd_d _ => optEntry "RES 7,(IX+d),D" 0xDDCBBA 3 19
  | .res_7_ixd_e _ => optEntry "RES 7,(IX+d),E" 0xDDCBBB 3 19
  | .res_7_ixd_h _ => optEntry "RES 7,(IX+d),H" 0xDDCBBC 3 19
  | .res_7_ixd_l _ => optEntry "RES 7,(IX+d),L" 0xDDCBBD 3 19
  | .res_7_ixd _ => entry "RES 7,(IX+d)" 0xDDCBBE 3 19
  | .res_7_ixd_a _ => optEntry "RES 7,(IX+d),A" 0xDDCBBF 3 19
  | .set_0_ixd_b _ => optEntry "SET 0,(IX+d),B" 0xDDCBC0 3 19
  | .set_0_ixd_c _ => optEntry "SET 0,(IX+d),C" 0xDDCBC1 3 19
  | .set_0_ixd_d _ => optEntry "SET 0,(IX+d),D" 0xDDCBC2 3 19
  | .set_0_ixd_e _ => optEntry "SET 0,(IX+d),E" 0xDDCBC3 3 19
  | .set_0_ixd_h _ => optEntry "SET 0,(IX+d),H" 0xDDCBC4 3 19
  | .set_0_ixd_l _ => optEntry "SET 0,(IX+d),L" 0xDDCBC5 3 19
  | .set_0_ixd _ => entry "SET 0,(IX+d)" 0xDDCBC6 3 19
  | .set_0_ixd_a _ => optEntry "SET 0,(IX+d),A" 0xDDCBC7 3 19
  | .set_1_ixd_b _ => optEntry "SET 1,(IX+d),B" 0xDDCBC8 3 19
  | .set_1_ixd_c _ => optEntry "SET 1,(IX+d),C" 0xDDCBC9 3 19
  | .set_1_ixd_d _ => optEntry "SET 1,(IX+d),D" 0xDDCBCA 3 19
  | .set_1_ixd_e _ => optEntry "SET 1,(IX+d),E" 0xDDCBCB 3 19
  | .set_1_ixd_h _ => optEntry "SET 1,(IX+d),H" 0xDDCBCC 3 19
  | .set_1_ixd_l _ => optEntry "SET 1,(IX+d),L" 0xDDCBCD 3 19
  | .set_1_ixd _ => entry "SET 1,(IX+d)" 0xDDCBCE 3 19
  | .set_1_ixd_a _ => optEntry "SET 1,(IX+d),A" 0xDDCBCF 3 19
  | .set_2_ixd_b _ => optEntry "SET 2,(IX+d),B" 0xDDCBD0 3 19
  | .set_2_ixd_c _ => optEntry "SET 2,(IX+d),C" 0xDDCBD1 3 19
  | .set_2_ixd_d _ => optEntry "SET 2,(IX+d),D" 0xDDCBD2 3 19
  | .set_2_ixd_e _ => optEntry "SET 2,(IX+d),E" 0xDDCBD3 3 19
  | .set_2_ixd_h _ => optEntry "SET 2,(IX+d),H" 0xDDCBD4 3 19
  | .set_2_ixd_l _ => optEntry "SET 2,(IX+d),L" 0xDDCBD5 3 19
  | .set_2_ixd _ => entry "SET 2,(IX+d)" 0xDDCBD6 3 19
  | .set_2_ixd_a _ => optEntry "SET 2,(IX+d),A" 0xDDCBD7 3 19
  | .set_3_ixd_b _ => optEntry "SET 3,(IX+d),B" 0xDDCBD8 3 19
  | .set_3_ixd_c _ => optEntry "SET 3,(IX+d),C" 0xDDCBD9 3 19
  | .set_3_ixd_d _ => optEntry "SET 3,(IX+d),D" 0xDDCBDA 3 19
  | .set_3_ixd_e _ => optEntry "SET 3,(IX+d),E" 0xDDCBDB 3 19
  | .set_3_ixd_h _ => optEntry "SET 3,(IX+d),H" 0xDDCBDC 3 19
  | .set_3_ixd_l _ => optEntry "SET 3,(IX+d),L" 0xDDCBDD 3 19
  | .set_3_ixd _ => entry "SET 3,(IX+d)" 0xDDCBDE 3 19
  | .set_3_ixd_a _ => optEntry "SET 3,(IX+d),A" 0xDDCBDF 3 19
  | .set_4_ixd_b _ => optEntry "SET 4,(IX+d),B" 0xDDCBE0 3 19
  | .set_4_ixd_c _ => optEntry "SET 4,(IX+d),C" 0xDDCBE1 3 19
  | .set_4_ixd_d _ => optEntry "SET 4,(IX+d),D" 0xDDCBE2 3 19
  | .set_4_ixd_e _ => optEntry "SET 4,(IX+d),E" 0xDDCBE3 3 19
  | .set_4_ixd_h _ => optEntry "SET 4,(IX+d),H" 0xDDCBE4 3 19
  | .set_4_ixd_l _ => optEntry "SET 4,(IX+d),L" 0xDDCBE5 3 19
  | .set_4_ixd _ => entry "SET 4,(IX+d)" 0xDDCBE6 3 19
  | .set_4_ixd_a _ => optEntry "SET 4,(IX+d),A" 0xDDCBE7 3 19
  | .set_5_ixd_b _ => optEntry "SET 5,(IX+d),B" 0xDDCBE8 3 19
  | .set_5_ixd_c _ => optEntry "SET 5,(IX+d),C" 0xDDCBE9 3 19
  | .set_5_ixd_d _ => optEntry "SET 5,(IX+d),D" 0xDDCBEA 3 19
  | .set_5_ixd_e _ => optEntry "SET 5,(IX+d),E" 0xDDCBEB 3 19
  | .set_5_ixd_h _ => optEntry "SET 5,(IX+d),H" 0xDDCBEC 3 19
  | .set_5_ixd_l _ => optEntry "SET 5,(IX+d),L" 0xDDCBED 3 19
  | .set_5_ixd _ => entry "SET 5,(IX+d)" 0xDDCBEE 3 19
  | .set_5_ixd_a _ => optEntry "SET 5,(IX+d),A" 0xDDCBEF 3 19
  | .set_6_ixd_b _ => optEntry "SET 6,(IX+d),B" 0xDDCBF0 3 19
  | .set_6_ixd_c _ => optEntry "SET 6,(IX+d),C" 0xDDCBF1 3 19
  | .set_6_ixd_d _ => optEntry "SET 6,(IX+d),D" 0xDDCBF2 3 19
  | .set_6_ixd_e _ => optEntry "SET 6,(IX+d),E" 0xDDCBF3 3 19
  | .set_6_ixd_h _ => optEntry "SET 6,(IX+d),H" 0xDDCBF4 3 19
  | .set_6_ixd_l _ => optEntry "SET 6,(IX+d),L" 0xDDCBF5 3 19
  | .set_6_ixd _ => entry "SET 6,(IX+d)" 0xDDCBF6 3 19
  | .set_6_ixd_a _ => optEntry "SET 6,(IX+d),A" 0xDDCBF7 3 19
  | .set_7_ixd_b _ => optEntry "SET 7,(IX+d),B" 0xDDCBF8 3 19
  | .set_7_ixd_c _ => optEntry "SET 7,(IX+d),C" 0xDDCBF9 3 19
  | .set_7_ixd_d _ => optEntry "SET 7,(IX+d),D" 0xDDCBFA 3 19
  | .set_7_ixd_e _ => optEntry "SET 7,(IX+d),E" 0xDDCBFB 3 19
  | .set_7_ixd_h _ => optEntry "SET 7,(IX+d),H" 0xDDCBFC 3 19
  | .set_7_ixd_l _ => optEntry "SET 7,(IX+d),L" 0xDDCBFD 3 19
  | .set_7_ixd _ => entry "SET 7,(IX+d)" 0xDDCBFE 3 19
  | .set_7_ixd_a _ => optEntry "SET 7,(IX+d),A" 0xDDCBFF 3 19
  | .add_iy_bc => entry "ADD IY,BC" 0xFD09 1 11
  | .add_iy_de => entry "ADD IY,DE" 0xFD19 1 11
  | .ld_iy_nn _ => entry "LD IY,nn" 0xFD21 3 10
  | .ld_mnn_iy _ => entry "LD (nn),IY" 0xFD22 3 16
  | .inc_iy => entry "INC IY" 0xFD23 1 6
  | .inc_iyh => optEntry "INC IYH" 0xFD24 1 4
  | .dec_iyh => optEntry "DEC IYH" 0xFD25 1 4
  | .ld_iyh_n _ => optEntry "LD IYH,n" 0xFD26 2 7
  | .add_iy_iy => entry "ADD IY,IY" 0xFD29 1 11
  | .ld_iy_mnn _ => entry "LD IY,(nn)" 0xFD2A 3 16
  | .dec_iy => entry "DEC IY" 0xFD2B 1 6
  | .inc_iyl => optEntry "INC IYL" 0xFD2C 1 4
  | .dec_iyl => optEntry "DEC IYL" 0xFD2D 1 4
  | .ld_iyl_n _ => optEntry "LD IYL,n" 0xFD2E 2 7
  | .inc_iyd _ => entry "INC (IY+d)" 0xFD34 2 19
  | .dec_iyd _ => entry "DEC (IY+d)" 0xFD35 2 19
  | .ld_iyd_n _ _ => entry "LD (IY+d),n" 0xFD36 3 15
  | .add_iy_sp => entry "ADD IY,SP" 0xFD39 1 11
  | .ld_b_iyh => optEntry "LD B,IYH" 0xFD44 1 4
  | .ld_b_iyl => optEntry "LD B,IYL" 0xFD45 1 4
  | .ld_b_iyd _ => entry "LD B,(IY+d)" 0xFD46 2 15
  | .ld_c_iyh => optEntry "LD C,IYH" 0xFD4C 1 4
  | .ld_c_iyl => optEntry "LD C,IYL" 0xFD4D 1 4
  | .ld_c_iyd _ => entry "LD C,(IY+d)" 0xFD4E 2 15
  | .ld_d_iyh => optEntry "LD D,IYH" 0xFD54 1 4
  | .ld_d_iyl => optEntry "LD D,IYL" 0xFD55 1 4
  | .ld_d_iyd _ => entry "LD D,(IY+d)" 0xFD56 2 15
  | .ld_e_iyh => optEntry "LD E,IYH" 0xFD5C 1 4
  | .ld_e_iyl => optEntry "LD E,IYL" 0xFD5D 1 4
  | .ld_e_iyd _ => entry "LD E,(IY+d)" 0xFD5E 2 15
  | .ld_iyh_b => optEntry "LD IYH,B" 0xFD60 1 4
  | .ld_iyh_c => optEntry "LD IYH,C" 0xFD61 1 4
  | .ld_iyh_d => optEntry "LD IYH,D" 0xFD62 1 4
  | .ld_iyh_e => optEntry "LD IYH,E" 0xFD63 1 4
  | .ld_iyh_iyh => optEntry "LD IYH,IYH" 0xFD64 1 4
  | .ld_iyh_iyl => optEntry "LD IYH,IYL" 0xFD65 1 4
  | .ld_h_iyd _ => entry "LD H,(IY+d)" 0xFD66 2 15
  | .ld_iyh_a => optEntry "LD IYH,A" 0xFD67 1 4
  | .ld_iyl_b => optEntry "LD IYL,B" 0xFD68 1 4
  | .ld_iyl_c => optEntry "LD IYL,C" 0xFD69 1 4
  | .ld_iyl_d => optEntry "LD IYL,D" 0xFD6A 1 4
  | .ld_iyl_e => optEntry "LD IYL,E" 0xFD6B 1 4
  | .ld_iyl_iyh => optEntry "LD IYL,IYH" 0xFD6C 1 4
  | .ld_iyl_iyl => optEntry "LD IYL,IYL" 0xFD6D 1 4
  | .ld_l_iyd _ => entry "LD L,(IY+d)" 0xFD6E 2 15
  | .ld_iyl_a => optEntry "LD IYL,A" 0xFD6F 1 4
  | .ld_iyd_b _ => entry "LD (IY+d),B" 0xFD70 2 15
  | .ld_iyd_c _ => entry "LD (IY+d),C" 0xFD71 2 15
  | .ld_iyd_d _ => entry "LD (IY+d),D" 0xFD72 2 15
  | .ld_iyd_e _ => entry "LD (IY+d),E" 0xFD73 2 15
  | .ld_iyd_h _ => entry "LD (IY+d),H" 0xFD74 2 15
  | .ld_iyd_l _ => entry "LD (IY+d),L" 0xFD75 2 15
  | .ld_iyd_a _ => entry "LD (IY+d),A" 0xFD77 2 15
  | .ld_a_iyh => optEntry "LD A,IYH" 0xFD7C 1 4
  | .ld_a_iyl => optEntry "LD A,IYL" 0xFD7D 1 4
  | .ld_a_iyd _ => entry "LD A,(IY+d)" 0xFD7E 2 15
  | .add_a_iyh => optEntry "ADD A,IYH" 0xFD84 1 4
  | .add_a_iyl => optEntry "ADD A,IYL" 0xFD85 1 4
  | .add_a_iyd _ => entry "ADD A,(IY+d)" 0xFD86 2 15
  | .adc_a_iyh => optEntry "ADC A,IYH" 0xFD8C 1 4
  | .adc_a_iyl => optEntry "ADC A,IYL" 0xFD8D 1 4
  | .adc_a_iyd _ => entry "ADC A,(IY+d)" 0xFD8E 2 15
  | .sub_iyh => optEntry "SUB IYH" 0xFD94 1 4
  | .sub_iyl => optEntry "SUB IYL" 0xFD95 1 4
  | .sub_iyd _ => entry "SUB (IY+d)" 0xFD96 2 15
  | .sbc_a_iyh => optEntry "SBC A,IYH" 0xFD9C 1 4
  | .sbc_a_iyl => optEntry "SBC A,IYL" 0xFD9D 1 4
  | .sbc_a_iyd _ => entry "SBC A,(IY+d)" 0xFD9E 2 15
  | .and_iyh => optEntry "AND IYH" 0xFDA4 1 4
  | .and_iyl => optEntry "AND IYL" 0xFDA5 1 4
  | .and_iyd _ => entry "AND (IY+d)" 0xFDA6 2 15
  | .xor_iyh => optEntry "XOR IYH" 0xFDAC 1 4
  | .xor_iyl => optEntry "XOR IYL" 0xFDAD 1 4
  | .xor_iyd _ => entry "XOR (IY+d)" 0xFDAE 2 15
  | .or_iyh => optEntry "OR IYH" 0xFDB4 1 4
  | .or_iyl => optEntry "OR IYL" 0xFDB5 1 4
  | .or_iyd _ => entry "OR (IY+d)" 0xFDB6 2 15
  | .cp_iyh => optEntry "CP IYH" 0xFDBC 1 4
  | .cp_iyl => optEntry "CP IYL" 0xFDBD 1 4
  | .cp_iyd _ => entry "CP (IY+d)" 0xFDBE 2 15
  | .pop_iy => entry "POP IY" 0xFDE1 1 10
  | .ex_msp_iy => entry "EX (SP),IY" 0xFDE3 1 19
  | .push_iy => entry "PUSH IY" 0xFDE5 1 11
  | .jp_iy => entry "JP (IY)" 0xFDE9 1 4
  | .ld_sp_iy => entry "LD SP,IY" 0xFDF9 1 6
  | .rlc_iyd_b _ => optEntry "RLC (IY+d),B" 0xFDCB00 3 19
  | .rlc_iyd_c _ => optEntry "RLC (IY+d),C" 0xFDCB01 3 19
  | .rlc_iyd_d _ => optEntry "RLC (IY+d),D" 0xFDCB02 3 19
  | .rlc_iyd_e _ => optEntry "RLC (IY+d),E" 0xFDCB03 3 19
  | .rlc_iyd_h _ => optEntry "RLC (IY+d),H" 0xFDCB04 3 19
  | .rlc_iyd_l _ => optEntry "RLC (IY+d),L" 0xFDCB05 3 19
  | .rlc_iyd _ => entry "RLC (IY+d)" 0xFDCB06 3 19
  | .rlc_iyd_a _ => optEntry "RLC (IY+d),A" 0xFDCB07 3 19
  | .rrc_iyd_b _ => optEntry "RRC (IY+d),B" 0xFDCB08 3 19
  | .rrc_iyd_c _ => optEntry "RRC (IY+d),C" 0xFDCB09 3 19
  | .rrc_iyd_d _ => optEntry "RRC (IY+d),D" 0xFDCB0A 3 19
  | .rrc_iyd_e _ => optEntry "RRC (IY+d),E" 0xFDCB0B 3 19
  | .rrc_iyd_h _ => optEntry "RRC (IY+d),H" 0xFDCB0C 3 19
  | .rrc_iyd_l _ => optEntry "RRC (IY+d),L" 0xFDCB0D 3 19
  | .rrc_iyd _ => entry "RRC (IY+d)" 0xFDCB0E 3 19
  | .rrc_iyd_a _ => optEntry "RRC (IY+d),A" 0xFDCB0F 3 19
  | .rl_iyd_b _ => optEntry "RL (IY+d),B" 0xFDCB10 3 19
  | .rl_iyd_c _ => optEntry "RL (IY+d),C" 0xFDCB11 3 19
  | .rl_iyd_d _ => optEntry "RL (IY+d),D" 0xFDCB12 3 19
  | .rl_iyd_e _ => optEntry "RL (IY+d),E" 0xFDCB13 3 19
  | .rl_iyd_h _ => optEntry "RL (IY+d),H" 0xFDCB14 3 19
  | .rl_iyd_l _ => optEntry "RL (IY+d),L" 0xFDCB15 3 19
  | .rl_iyd _ => entry "RL (IY+d)" 0xFDCB16 3 19
  | .rl_iyd_a _ => optEntry "RL (IY+d),A" 0xFDCB17 3 19
  | .rr_iyd_b _ => optEntry "RR (IY+d),B" 0xFDCB18 3 19
  | .rr_iyd_c _ => optEntry "RR (IY+d),C" 0xFDCB19 3 19
  | .rr_iyd_d _ => optEntry "RR (IY+d),D" 0xFDCB1A 3 19
  | .rr_iyd_e _ => optEntry "RR (IY+d),E" 0xFDCB1B 3 19
  | .rr_iyd_h _ => optEntry "RR (IY+d),H" 0xFDCB1C 3 19
  | .rr_iyd_l _ => optEntry "RR (IY+d),L" 0xFDCB1D 3 19
  | .rr_iyd _ => entry "RR (IY+d)" 0xFDCB1E 3 19
  | .rr_iyd_a _ => optEntry "RR (IY+d),A" 0xFDCB1F 3 19
  | .sla_iyd_b _ => optEntry "SLA (IY+d),B" 0xFDCB20 3 19
  | .sla_iyd_c _ => optEntry "SLA (IY+d),C" 0xFDCB21 3 19
  | .sla_iyd_d _ => optEntry "SLA (IY+d),D" 0xFDCB22 3 19
  | .sla_iyd_e _ => optEntry "SLA (IY+d),E" 0xFDCB23 3 19
  | .sla_iyd_h _ => optEntry "SLA (IY+d),H" 0xFDCB24 3 19
  | .sla_iyd_l _ => optEntry "SLA (IY+d),L" 0xFDCB25 3 19
  | .sla_iyd _ => entry "SLA (IY+d)" 0xFDCB26 3 19
  | .sla_iyd_a _ => optEntry "SLA (IY+d),A" 0xFDCB27 3 19
  | .sra_iyd_b _ => optEntry "SRA (IY+d),B" 0xFDCB28 3 19
  | .sra_iyd_c _ => optEntry "SRA (IY+d),C" 0xFDCB29 3 19
  | .sra_iyd_d _ => optEntry "SRA (IY+d),D" 0xFDCB2A 3 19
  | .sra_iyd_e _ => optEntry "SRA (IY+d),E" 0xFDCB2B 3 19
  | .sra_iyd_h _ => optEntry "SRA (IY+d),H" 0xFDCB2C 3 19
  | .sra_iyd_l _ => optEntry "SRA (IY+d),L" 0xFDCB2D 3 19
  | .sra_iyd _ => entry "SRA (IY+d)" 0xFDCB2E 3 19
  | .sra_iyd_a _ => optEntry "SRA (IY+d),A" 0xFDCB2F 3 19
  | .sll_iyd_b _ => optEntry "SLL (IY+d),B" 0xFDCB30 3 19
  | .sll_iyd_c _ => optEntry "SLL (IY+d),C" 0xFDCB31 3 19
  | .sll_iyd_d _ => optEntry "SLL (IY+d),D" 0xFDCB32 3 19
  | .sll_iyd_e _ => optEntry "SLL (IY+d),E" 0xFDCB33 3 19
  | .sll_iyd_h _ => optEntry "SLL (IY+d),H" 0xFDCB34 3 19
  | .sll_iyd_l _ => optEntry "SLL (IY+d),L" 0xFDCB35 3 19
  | .sll_iyd _ => entry "SLL (IY+d)" 0xFDCB36 3 19
  | .sll_iyd_a _ => optEntry "SLL (IY+d),A" 0xFDCB37 3 19
  | .srl_iyd_b _ => optEntry "SRL (IY+d),B" 0xFDCB38 3 19
  | .srl_iyd_c _ => optEntry "SRL (IY+d),C" 0xFDCB39 3 19
  | .srl_iyd_d _ => optEntry "SRL (IY+d),D" 0xFDCB3A 3 19
  | .srl_iyd_e _ => optEntry "SRL (IY+d),E" 0xFDCB3B 3 19
  | .srl_iyd_h _ => optEntry "SRL (IY+d),H" 0xFDCB3C 3 19
  | .srl_iyd_l _ => optEntry "SRL (IY+d),L" 0xFDCB3D 3 19
  | .srl_iyd _ => entry "SRL (IY+d)" 0xFDCB3E 3 19
  | .srl_iyd_a _ => optEntry "SRL (IY+d),A" 0xFDCB3F 3 19
  | .bit_0_iyd_z0 _ => optEntry "BIT 0,(IY+d)" 0xFDCB40 3 16
  | .bit_0_iyd_z1 _ => optEntry "BIT 0,(IY+d)" 0xFDCB41 3 16
  | .bit_0_iyd_z2 _ => optEntry "BIT 0,(IY+d)" 0xFDCB42 3 16
  | .bit_0_iyd_z3 _ => optEntry "BIT 0,(IY+d)" 0xFDCB43 3 16
  | .bit_0_iyd_z4 _ => optEntry "BIT 0,(IY+d)" 0xFDCB44 3 16
  | .bit_0_iyd_z5 _ => optEntry "BIT 0,(IY+d)" 0xFDCB45 3 16
  | .bit_0_iyd _ => entry "BIT 0,(IY+d)" 0xFDCB46 3 16
  | .bit_0_iyd_z7 _ => optEntry "BIT 0,(IY+d)" 0xFDCB47 3 16
  | .bit_1_iyd_z0 _ => optEntry "BIT 1,(IY+d)" 0xFDCB48 3 16
  | .bit_1_iyd_z1 _ => optEntry "BIT 1,(IY+d)" 0xFDCB49 3 16
  | .bit_1_iyd_z2 _ => optEntry "BIT 1,(IY+d)" 0xFDCB4A 3 16
  | .bit_1_iyd_z3 _ => optEntry "BIT 1,(IY+d)" 0xFDCB4B 3 16
  | .bit_1_iyd_z4 _ => optEntry "BIT 1,(IY+d)" 0xFDCB4C 3 16
  | .bit_1_iyd_z5 _ => optEntry "BIT 1,(IY+d)" 0xFDCB4D 3 16
  | .bit_1_iyd _ => entry "BIT 1,(IY+d)" 0xFDCB4E 3 16
  | .bit_1_iyd_z7 _ => optEntry "BIT 1,(IY+d)" 0xFDCB4F 3 16
  | .bit_2_iyd_z0 _ => optEntry "BIT 2,(IY+d)" 0xFDCB50 3 16
  | .bit_2_iyd_z1 _ => optEntry "BIT 2,(IY+d)" 0xFDCB51 3 16
  | .bit_2_iyd_z2 _ => optEntry "BIT 2,(IY+d)" 0xFDCB52 3 16
  | .bit_2_iyd_z3 _ => optEntry "BIT 2,(IY+d)" 0xFDCB53 3 16
  | .bit_2_iyd_z4 _ => optEntry "BIT 2,(IY+d)" 0xFDCB54 3 16
  | .bit_2_iyd_z5 _ => optEntry "BIT 2,(IY+d)" 0xFDCB55 3 16
  | .bit_2_iyd _ => entry "BIT 2,(IY+d)" 0xFDCB56 3 16
  | .bit_2_iyd_z7 _ => optEntry "BIT 2,(IY+d)" 0xFDCB57 3 16
  | .bit_3_iyd_z0 _ => optEntry "BIT 3,(IY+d)" 0xFDCB58 3 16
  | .bit_3_iyd_z1 _ => optEntry "BIT 3,(IY+d)" 0xFDCB59 3 16
  | .bit_3_iyd_z2 _ => optEntry "BIT 3,(IY+d)" 0xFDCB5A 3 16
  | .bit_3_iyd_z3 _ => optEntry "BIT 3,(IY+d)" 0xFDCB5B 3 16
  | .bit_3_iyd_z4 _ => optEntry "BIT 3,(IY+d)" 0xFDCB5C 3 16
  | .bit_3_iyd_z5 _ => optEntry "BIT 3,(IY+d)" 0xFDCB5D 3 16
  | .bit_3_iyd _ => entry "BIT 3,(IY+d)" 0xFDCB5E 3 16
  | .bit_3_iyd_z7 _ => optEntry "BIT 3,(IY+d)" 0xFDCB5F 3 16
  | .bit_4_iyd_z0 _ => optEntry "BIT 4,(IY+d)" 0xFDCB60 3 16
  | .bit_4_iyd_z1 _ => optEntry "BIT 4,(IY+d)" 0xFDCB61 3 16
  | .bit_4_iyd_z2 _ => optEntry "BIT 4,(IY+d)" 0xFDCB62 3 16
  | .bit_4_iyd_z3 _ => optEntry "BIT 4,(IY+d)" 0xFDCB63 3 16
  | .bit_4_iyd_z4 _ => optEntry "BIT 4,(IY+d)" 0xFDCB64 3 16
  | .bit_4_iyd_z5 _ => optEntry "BIT 4,(IY+d)" 0xFDCB65 3 16
  | .bit_4_iyd _ => entry "BIT 4,(IY+d)" 0xFDCB66 3 16
  | .bit_4_iyd_z7 _ => optEntry "BIT 4,(IY+d)" 0xFDCB67 3 16
  | .bit_5_iyd_z0 _ => optEntry "BIT 5,(IY+d)" 0xFDCB68 3 16
  | .bit_5_iyd_z1 _ => optEntry "BIT 5,(IY+d)" 0xFDCB69 3 16
  | .bit_5_iyd_z2 _ => optEntry "BIT 5,(IY+d)" 0xFDCB6A 3 16
  | .bit_5_iyd_z3 _ => optEntry "BIT 5,(IY+d)" 0xFDCB6B 3 16
  | .bit_5_iyd_z4 _ => optEntry "BIT 5,(IY+d)" 0xFDCB6C 3 16
  | .bit_5_iyd_z5 _ => optEntry "BIT 5,(IY+d)" 0xFDCB6D 3 16
  | .bit_5_iyd _ => entry "BIT 5,(IY+d)" 0xFDCB6E 3 16
  | .bit_5_iyd_z7 _ => optEntry "BIT 5,(IY+d)" 0xFDCB6F 3 16
  | .bit_6_iyd_z0 _ => optEntry "BIT 6,(IY+d)" 0xFDCB70 3 16
  | .bit_6_iyd_z1 _ => optEntry "BIT 6,(IY+d)" 0xFDCB71 3 16
  | .bit_6_iyd_z2 _ => optEntry "BIT 6,(IY+d)" 0xFDCB72 3 16
  | .bit_6_iyd_z3 _ => optEntry "BIT 6,(IY+d)" 0xFDCB73 3 16
  | .bit_6_iyd_z4 _ => optEntry "BIT 6,(IY+d)" 0xFDCB74 3 16
  | .bit_6_iyd_z5 _ => optEntry "BIT 6,(IY+d)" 0xFDCB75 3 16
  | .bit_6_iyd _ => entry "BIT 6,(IY+d)" 0xFDCB76 3 16
  | .bit_6_iyd_z7 _ => optEntry "BIT 6,(IY+d)" 0xFDCB77 3 16
  | .bit_7_iyd_z0 _ => optEntry "BIT 7,(IY+d)" 0xFDCB78 3 16
  | .bit_7_iyd_z1 _ => optEntry "BIT 7,(IY+d)" 0xFDCB79 3 16
  | .bit_7_iyd_z2 _ => optEntry "BIT 7,(IY+d)" 0xFDCB7A 3 16
  | .bit_7_iyd_z3 _ => optEntry "BIT 7,(IY+d)" 0xFDCB7B 3 16
  | .bit_7_iyd_z4 _ => optEntry "BIT 7,(IY+d)" 0xFDCB7C 3 16
  | .bit_7_iyd_z5 _ => optEntry "BIT 7,(IY+d)" 0xFDCB7D 3 16
  | .bit_7_iyd _ => entry "BIT 7,(IY+d)" 0xFDCB7E 3 16
  | .bit_7_iyd_z7 _ => optEntry "BIT 7,(IY+d)" 0xFDCB7F 3 16
  | .res_0_iyd_b _ => optEntry "RES 0,(IY+d),B" 0xFDCB80 3 19
  | .res_0_iyd_c _ => optEntry "RES 0,(IY+d),C" 0xFDCB81 3 19
  | .res_0_iyd_d _ => optEntry "RES 0,(IY+d),D" 0xFDCB82 3 19
  | .res_0_iyd_e _ => optEntry "RES 0,(IY+d),E" 0xFDCB83 3 19
  | .res_0_iyd_h _ => optEntry "RES 0,(IY+d),H" 0xFDCB84 3 19
  | .res_0_iyd_l _ => optEntry "RES 0,(IY+d),L" 0xFDCB85 3 19
  | .res_0_iyd _ => entry "RES 0,(IY+d)" 0xFDCB86 3 19
  | .res_0_iyd_a _ => optEntry "RES 0,(IY+d),A" 0xFDCB87 3 19
  | .res_1_iyd_b _ => optEntry "RES 1,(IY+d),B" 0xFDCB88 3 19
  | .res_1_iyd_c _ => optEntry "RES 1,(IY+d),C" 0xFDCB89 3 19
  | .res_1_iyd_d _ => optEntry "RES 1,(IY+d),D" 0xFDCB8A 3 19
  | .res_1_iyd_e _ => optEntry "RES 1,(IY+d),E" 0xFDCB8B 3 19
  | .res_1_iyd_h _ => optEntry "RES 1,(IY+d),H" 0xFDCB8C 3 19
  | .res_1_iyd_l _ => optEntry "RES 1,(IY+d),L" 0xFDCB8D 3 19
  | .res_1_iyd _ => entry "RES 1,(IY+d)" 0xFDCB8E 3 19
  | .res_1_iyd_a _ => optEntry "RES 1,(IY+d),A" 0xFDCB8F 3 19
  | .res_2_iyd_b _ => optEntry "RES 2,(IY+d),B" 0xFDCB90 3 19
  | .res_2_iyd_c _ => optEntry "RES 2,(IY+d),C" 0xFDCB91 3 19
  | .res_2_iyd_d _ => optEntry "RES 2,(IY+d),D" 0xFDCB92 3 19
  | .res_2_iyd_e _ => optEntry "RES 2,(IY+d),E" 0xFDCB93 3 19
  | .res_2_iyd_h _ => optEntry "RES 2,(IY+d),H" 0xFDCB94 3 19
  | .res_2_iyd_l _ => optEntry "RES 2,(IY+d),L" 0xFDCB95 3 19
  | .res_2_iyd _ => entry "RES 2,(IY+d)" 0xFDCB96 3 19
  | .res_2_iyd_a _ => optEntry "RES 2,(IY+d),A" 0xFDCB97 3 19
  | .res_3_iyd_b _ => optEntry "RES 3,(IY+d),B" 0xFDCB98 3 19
  | .res_3_iyd_c _ => optEntry "RES 3,(IY+d),C" 0xFDCB99 3 19
  | .res_3_iyd_d _ => optEntry "RES 3,(IY+d),D" 0xFDCB9A 3 19
  | .res_3_iyd_e _ => optEntry "RES 3,(IY+d),E" 0xFDCB9B 3 19
  | .res_3_iyd_h _ => optEntry "RES 3,(IY+d),H" 0xFDCB9C 3 19
  | .res_3_iyd_l _ => optEntry "RES 3,(IY+d),L" 0xFDCB9D 3 19
  | .res_3_iyd _ => entry "RES 3,(IY+d)" 0xFDCB9E 3 19
  | .res_3_iyd_a _ => optEntry "RES 3,(IY+d),A" 0xFDCB9F 3 19
  | .res_4_iyd_b _ => optEntry "RES 4,(IY+d),B" 0xFDCBA0 3 19
  | .res_4_iyd_c _ => optEntry "RES 4,(IY+d),C" 0xFDCBA1 3 19
  | .res_4_iyd_d _ => optEntry "RES 4,(IY+d),D" 0xFDCBA2 3 19
  | .res_4_iyd_e _ => optEntry "RES 4,(IY+d),E" 0xFDCBA3 3 19
  | .res_4_iyd_h _ => optEntry "RES 4,(IY+d),H" 0xFDCBA4 3 19
  | .res_4_iyd_l _ => optEntry "RES 4,(IY+d),L" 0xFDCBA5 3 19
  | .res_4_iyd _ => entry "RES 4,(IY+d)" 0xFDCBA6 3 19
  | .res_4_iyd_a _ => optEntry "RES 4,(IY+d),A" 0xFDCBA7 3 19
  | .res_5_iyd_b _ => optEntry "RES 5,(IY+d),B" 0xFDCBA8 3 19
  | .res_5_iyd_c _ => optEntry "RES 5,(IY+d),C" 0xFDCBA9 3 19
  | .res_5_iyd_d _ => optEntry "RES 5,(IY+d),D" 0xFDCBAA 3 19
  | .res_5_iyd_e _ => optEntry "RES 5,(IY+d),E" 0xFDCBAB 3 19
  | .res_5_iyd_h _ => optEntry "RES 5,(IY+d),H" 0xFDCBAC 3 19
  | .res_5_iyd_l _ => optEntry "RES 5,(IY+d),L" 0xFDCBAD 3 19
  | .res_5_iyd _ => entry "RES 5,(IY+d)" 0xFDCBAE 3 19
  | .res_5_iyd_a _ => optEntry "RES 5,(IY+d),A" 0xFDCBAF 3 19
  | .res_6_iyd_b _ => optEntry "RES 6,(IY+d),B" 0xFDCBB0 3 19
  | .res_6_iyd_c _ => optEntry "RES 6,(IY+d),C" 0xFDCBB1 3 19
  | .res_6_iyd_d _ => optEntry "RES 6,(IY+d),D" 0xFDCBB2 3 19
  | .res_6_iyd_e _ => optEntry "RES 6,(IY+d),E" 0xFDCBB3 3 19
  | .res_6_iyd_h _ => optEntry "RES 6,(IY+d),H" 0xFDCBB4 3 19
  | .res_6_iyd_l _ => optEntry "RES 6,(IY+d),L" 0xFDCBB5 3 19
  | .res_6_iyd _ => entry "RES 6,(IY+d)" 0xFDCBB6 3 19
  | .res_6_iyd_a _ => optEntry "RES 6,(IY+d),A" 0xFDCBB7 3 19
  | .res_7_iyd_b _ => optEntry "RES 7,(IY+d),B" 0xFDCBB8 3 19
  | .res_7_iyd_c _ => optEntry "RES 7,(IY+d),C" 0xFDCBB9 3 19
  | .res_7_iyd_d _ => optEntry "RES 7,(IY+d),D" 0xFDCBBA 3 19
  | .res_7_iyd_e _ => optEntry "RES 7,(IY+d),E" 0xFDCBBB 3 19
  | .res_7_iyd_h _ => optEntry "RES 7,(IY+d),H" 0xFDCBBC 3 19
  | .res_7_iyd_l _ => optEntry "RES 7,(IY+d),L" 0xFDCBBD 3 19
  | .res_7_iyd _ => entry "RES 7,(IY+d)" 0xFDCBBE 3 19
  | .res_7_iyd_a _ => optEntry "RES 7,(IY+d),A" 0xFDCBBF 3 19
  | .set_0_iyd_b _ => optEntry "SET 0,(IY+d),B" 0xFDCBC0 3 19
  | .set_0_iyd_c _ => optEntry "SET 0,(IY+d),C" 0xFDCBC1 3 19
  | .set_0_iyd_d _ => optEntry "SET 0,(IY+d),D" 0xFDCBC2 3 19
  | .set_0_iyd_e _ => optEntry "SET 0,(IY+d),E" 0xFDCBC3 3 19
  | .set_0_iyd_h _ => optEntry "SET 0,(IY+d),H" 0xFDCBC4 3 19
  | .set_0_iyd_l _ => optEntry "SET 0,(IY+d),L" 0xFDCBC5 3 19
  | .set_0_iyd _ => entry "SET 0,(IY+d)" 0xFDCBC6 3 19
  | .set_0_iyd_a _ => optEntry "SET 0,(IY+d),A" 0xFDCBC7 3 19
  | .set_1_iyd_b _ => optEntry "SET 1,(IY+d),B" 0xFDCBC8 3 19
  | .set_1_iyd_c _ => optEntry "SET 1,(IY+d),C" 0xFDCBC9 3 19
  | .set_1_iyd_d _ => optEntry "SET 1,(IY+d),D" 0xFDCBCA 3 19
  | .set_1_iyd_e _ => optEntry "SET 1,(IY+d),E" 0xFDCBCB 3 19
  | .set_1_iyd_h _ => optEntry "SET 1,(IY+d),H" 0xFDCBCC 3 19
  | .set_1_iyd_l _ => optEntry "SET 1,(IY+d),L" 0xFDCBCD 3 19
  | .set_1_iyd _ => entry "SET 1,(IY+d)" 0xFDCBCE 3 19
  | .set_1_iyd_a _ => optEntry "SET 1,(IY+d),A" 0xFDCBCF 3 19
  | .set_2_iyd_b _ => optEntry "SET 2,(IY+d),B" 0xFDCBD0 3 19
  | .set_2_iyd_c _ => optEntry "SET 2,(IY+d),C" 0xFDCBD1 3 19
  | .set_2_iyd_d _ => optEntry "SET 2,(IY+d),D" 0xFDCBD2 3 19
  | .set_2_iyd_e _ => optEntry "SET 2,(IY+d),E" 0xFDCBD3 3 19
  | .set_2_iyd_h _ => optEntry "SET 2,(IY+d),H" 0xFDCBD4 3 19
  | .set_2_iyd_l _ => optEntry "SET 2,(IY+d),L" 0xFDCBD5 3 19
  | .set_2_iyd _ => entry "SET 2,(IY+d)" 0xFDCBD6 3 19
  | .set_2_iyd_a _ => optEntry "SET 2,(IY+d),A" 0xFDCBD7 3 19
  | .set_3_iyd_b _ => optEntry "SET 3,(IY+d),B" 0xFDCBD8 3 19
  | .set_3_iyd_c _ => optEntry "SET 3,(IY+d),C" 0xFDCBD9 3 19
  | .set_3_iyd_d _ => optEntry "SET 3,(IY+d),D" 0xFDCBDA 3 19
  | .set_3_iyd_e _ => optEntry "SET 3,(IY+d),E" 0xFDCBDB 3 19
  | .set_3_iyd_h _ => optEntry "SET 3,(IY+d),H" 0xFDCBDC 3 19
  | .set_3_iyd_l _ => optEntry "SET 3,(IY+d),L" 0xFDCBDD 3 19
  | .set_3_iyd _ => entry "SET 3,(IY+d)" 0xFDCBDE 3 19
  | .set_3_iyd_a _ => optEntry "SET 3,(IY+d),A" 0xFDCBDF 3 19
  | .set_4_iyd_b _ => optEntry "SET 4,(IY+d),B" 0xFDCBE0 3 19
  | .set_4_iyd_c _ => optEntry "SET 4,(IY+d),C" 0xFDCBE1 3 19
  | .set_4_iyd_d _ => optEntry "SET 4,(IY+d),D" 0xFDCBE2 3 19
  | .set_4_iyd_e _ => optEntry "SET 4,(IY+d),E" 0xFDCBE3 3 19
  | .set_4_iyd_h _ => optEntry "SET 4,(IY+d),H" 0xFDCBE4 3 19
  | .set_4_iyd_l _ => optEntry "SET 4,(IY+d),L" 0xFDCBE5 3 19
  | .set_4_iyd _ => entry "SET 4,(IY+d)" 0xFDCBE6 3 19
  | .set_4_iyd_a _ => optEntry "SET 4,(IY+d),A" 0xFDCBE7 3 19
  | .set_5_iyd_b _ => optEntry "SET 5,(IY+d),B" 0xFDCBE8 3 19
  | .set_5_iyd_c _ => optEntry "SET 5,(IY+d),C" 0xFDCBE9 3 19
  | .set_5_iyd_d _ => optEntry "SET 5,(IY+d),D" 0xFDCBEA 3 19
  | .set_5_iyd_e _ => optEntry "SET 5,(IY+d),E" 0xFDCBEB 3 19
  | .set_5_iyd_h _ => optEntry "SET 5,(IY+d),H" 0xFDCBEC 3 19
  | .set_5_iyd_l _ => optEntry "SET 5,(IY+d),L" 0xFDCBED 3 19
  | .set_5_iyd _ => entry "SET 5,(IY+d)" 0xFDCBEE 3 19
  | .set_5_iyd_a _ => optEntry "SET 5,(IY+d),A" 0xFDCBEF 3 19
  | .set_6_iyd_b _ => optEntry "SET 6,(IY+d),B" 0xFDCBF0 3 19
  | .set_6_iyd_c _ => optEntry "SET 6,(IY+d),C" 0xFDCBF1 3 19
  | .set_6_iyd_d _ => optEntry "SET 6,(IY+d),D" 0xFDCBF2 3 19
  | .set_6_iyd_e _ => optEntry "SET 6,(IY+d),E" 0xFDCBF3 3 19
  | .set_6_iyd_h _ => optEntry "SET 6,(IY+d),H" 0xFDCBF4 3 19
  | .set_6_iyd_l _ => optEntry "SET 6,(IY+d),L" 0xFDCBF5 3 19
  | .set_6_iyd _ => entry "SET 6,(IY+d)" 0xFDCBF6 3 19
  | .set_6_iyd_a _ => optEntry "SET 6,(IY+d),A" 0xFDCBF7 3 19
  | .set_7_iyd_b _ => optEntry "SET 7,(IY+d),B" 0xFDCBF8 3 19
  | .set_7_iyd_c _ => optEntry "SET 7,(IY+d),C" 0xFDCBF9 3 19
  | .set_7_iyd_d _ => optEntry "SET 7,(IY+d),D" 0xFDCBFA 3 19
  | .set_7_iyd_e _ => optEntry "SET 7,(IY+d),E" 0xFDCBFB 3 19
  | .set_7_iyd_h _ => optEntry "SET 7,(IY+d),H" 0xFDCBFC 3 19
  | .set_7_iyd_l _ => optEntry "SET 7,(IY+d),L" 0xFDCBFD 3 19
  | .set_7_iyd _ => entry "SET 7,(IY+d)" 0xFDCBFE 3 19
  | .set_7_iyd_a _ => optEntry "SET 7,(IY+d),A" 0xFDCBFF 3 19

end Sys2Proof
end

