-- ==== Sys2Proof/WellFormed.lean ====
section
/-! DEFINITION. When an instruction is well formed. Every operand field is a full-width bit vector and
every value of it is legal (spec/30_encoding.md R115, R116), so the one check is that the table
registers the entry (R124, R125). -/

namespace Sys2Proof

/-- The entry is registered when `UNDOC_REGISTERED` is `undoc` (R125). -/
def Instr.registered (undoc : Bool) (i : Instr) : Bool := undoc || i.desc.always

/-- Well formed for this machine's value of `UNDOC_REGISTERED`. -/
abbrev Instr.WellFormed (i : Instr) : Prop := i.registered Config.undocRegistered = true

end Sys2Proof
end

