-- ==== Sys2Proof/Decode.lean ====
section
/-! DEFINITION. The decoder, by the fields `x, y, z, p, q` of spec/30_encoding.md R119 to R123, and after it
the encoder, from the encodings of spec/opcode_table.json (R130). The two are written from different
parts of the spec. -/

namespace Sys2Proof

/-! ### Code tables (R118) -/

/-- `r8[c]`; code 6 is not a register. -/
def R8.ofCode : Nat → Option R8
  | 0 => some .b | 1 => some .c | 2 => some .d | 3 => some .e
  | 4 => some .h | 5 => some .l | 7 => some .a | _ => none

/-- The codes that keep their register in the DD/FD spaces (R214). -/
def Plain.ofCode : Nat → Option Plain
  | 0 => some .b | 1 => some .c | 2 => some .d | 3 => some .e | 7 => some .a | _ => none

/-- Codes 4 and 5 in the DD/FD spaces: `XYH`, `XYL` (R118, R214). -/
def Half.ofCode : Nat → Option Half
  | 4 => some .hi | 5 => some .lo | _ => none

/-- `rp[p]`. -/
def Pair.ofCode : Nat → Option Pair
  | 0 => some .bc | 1 => some .de | 2 => some .hl | 3 => some .sp | _ => none

/-- `rp2[p]`. -/
def Pair2.ofCode : Nat → Option Pair2
  | 0 => some .bc | 1 => some .de | 2 => some .hl | 3 => some .af | _ => none

/-- `rp[p]` with the index register in the place of HL (R301). -/
def AddPair.ofCode : Nat → Option AddPair
  | 0 => some .bc | 1 => some .de | 2 => some .xy | 3 => some .sp | _ => none

/-- `cc[y]`. -/
def Cond.ofCode : Nat → Option Cond
  | 0 => some .nz | 1 => some .z | 2 => some .nc | 3 => some .c
  | 4 => some .po | 5 => some .pe | 6 => some .p | 7 => some .m | _ => none

/-- The conditions of `JR cc`, from `y - 4`. -/
def JrCond.ofCode : Nat → Option JrCond
  | 0 => some .nz | 1 => some .z | 2 => some .nc | 3 => some .c | _ => none

/-- `alu[y]`. -/
def AluOp.ofCode : Nat → Option AluOp
  | 0 => some .add | 1 => some .adc | 2 => some .sub | 3 => some .sbc
  | 4 => some .and | 5 => some .xor | 6 => some .or | 7 => some .cp | _ => none

/-- `rot[y]`. -/
def RotOp.ofCode : Nat → Option RotOp
  | 0 => some .rlc | 1 => some .rrc | 2 => some .rl | 3 => some .rr
  | 4 => some .sla | 5 => some .sra | 6 => some .sll | 7 => some .srl | _ => none

/-- A three-bit field as a number. -/
def BitNo.ofCode : Nat → Option BitNo
  | 0 => some .b0 | 1 => some .b1 | 2 => some .b2 | 3 => some .b3
  | 4 => some .b4 | 5 => some .b5 | 6 => some .b6 | 7 => some .b7 | _ => none

/-- `p = 8*y` (R424). -/
def Rst.ofCode : Nat → Option Rst
  | 0 => some .p00 | 1 => some .p08 | 2 => some .p10 | 3 => some .p18
  | 4 => some .p20 | 5 => some .p28 | 6 => some .p30 | 7 => some .p38 | _ => none

/-- The direction of a block instruction: `y` even ascends, `y` odd descends (R121). -/
def Dir.ofParity (y : Nat) : Dir := if y % 2 = 0 then .inc else .dec

/-- The operand form of a main-space register code: code 6 is `(HL)` (R260). -/
def Src8.ofCode (z : Nat) : Option Src8 :=
  if z = 6 then some .hl else (R8.ofCode z).map .r

/-- The operand form of INC and DEC: code 6 is `(HL)` (R119). -/
def Dst8.ofCode (y : Nat) : Option Dst8 :=
  if y = 6 then some .hl else (R8.ofCode y).map .r

/-- The operand form in the CB space (R120). -/
def M8.ofCode (z : Nat) : Option M8 :=
  if z = 6 then some .hl else (R8.ofCode z).map .r

/-- The operand form in the DDCB/FDCB spaces (R123). -/
def M8.ofCodeXy (xy : Xy) (d : Byte) (z : Nat) : Option M8 :=
  if z = 6 then some (.idx xy d) else (R8.ofCode z).map (.idxCopy xy d)

/-! ### The spaces -/

/-- The main space (R119): `op` is the opcode byte, `o1` and `o2` the two bytes after it. -/
def decodeMain (op o1 o2 : Byte) : Option Form :=
  let x := op.toNat / 64
  let y := op.toNat / 8 % 8
  let z := op.toNat % 8
  let p := y / 2
  let q := y % 2
  let nn := mkWord o2 o1
  match x with
  | 0 =>
    match z with
    | 0 =>
      match y with
      | 0 => some .nop
      | 1 => some .ex_af_afAlt
      | 2 => some (.djnz_e o1)
      | 3 => some (.jr_e o1)
      | y => (JrCond.ofCode (y - 4)).map fun cc => .jrCc cc o1
    | 1 =>
      if q = 0 then (Pair.ofCode p).map fun dd => .ldPairNn dd nn
      else (Pair.ofCode p).map .addHl
    | 2 =>
      match y with
      | 0 => some .ld_mbc_a
      | 1 => some .ld_a_mbc
      | 2 => some .ld_mde_a
      | 3 => some .ld_a_mde
      | 4 => some (.ld_mnn_hl nn)
      | 5 => some (.ld_hl_mnn nn)
      | 6 => some (.ld_mnn_a nn)
      | _ => some (.ld_a_mnn nn)
    | 3 => if q = 0 then (Pair.ofCode p).map .incPair else (Pair.ofCode p).map .decPair
    | 4 => (Dst8.ofCode y).map .inc8
    | 5 => (Dst8.ofCode y).map .dec8
    | 6 => if y = 6 then some (.ld_mhl_n o1) else (R8.ofCode y).map fun r => .ldRN r o1
    | _ =>
      match y with
      | 0 => some .rlca
      | 1 => some .rrca
      | 2 => some .rla
      | 3 => some .rra
      | 4 => some .daa
      | 5 => some .cpl
      | 6 => some .scf
      | _ => some .ccf
  | 1 =>
    if y = 6 then
      if z = 6 then some .halt else (R8.ofCode z).map .ldHlR
    else
      (R8.ofCode y).bind fun r =>
        if z = 6 then some (.ldRHl r) else (R8.ofCode z).map fun r' => .ldRR r r'
  | 2 => (AluOp.ofCode y).bind fun o => (Src8.ofCode z).map fun s => .alu o s
  | _ =>
    match z with
    | 0 => (Cond.ofCode y).map .retCc
    | 1 =>
      if q = 0 then (Pair2.ofCode p).map .pop
      else
        match p with
        | 0 => some .ret
        | 1 => some .exx
        | 2 => some .jp_hl
        | _ => some .ld_sp_hl
    | 2 => (Cond.ofCode y).map fun cc => .jpCc cc nn
    | 3 =>
      match y with
      | 0 => some (.jp_nn nn)
      | 1 => some (.prefixOf .cb)
      | 2 => some (.out_portN_a o1)
      | 3 => some (.in_a_portN o1)
      | 4 => some .ex_msp_hl
      | 5 => some .ex_de_hl
      | 6 => some .di
      | _ => some .ei
    | 4 => (Cond.ofCode y).map fun cc => .callCc cc nn
    | 5 =>
      if q = 0 then (Pair2.ofCode p).map .push
      else
        match p with
        | 0 => some (.call_nn nn)
        | 1 => some (.prefixOf .dd)
        | 2 => some (.prefixOf .ed)
        | _ => some (.prefixOf .fd)
    | 6 => (AluOp.ofCode y).map fun o => .alu o (.n o1)
    | _ => (Rst.ofCode y).map .rst

/-- `rot`, `BIT`, `RES` or `SET` by the fields `x`, `y` (R120, R123). -/
def decodeBitOp (x y : Nat) (m : M8) : Option Form :=
  match x with
  | 0 => (RotOp.ofCode y).map fun o => .rot o m
  | 1 => (BitNo.ofCode y).map fun b => .bit b m
  | 2 => (BitNo.ofCode y).map fun b => .res b m
  | _ => (BitNo.ofCode y).map fun b => .set b m

/-- The CB space (R120). -/
def decodeCb (op : Byte) : Option Form :=
  (M8.ofCode (op.toNat % 8)).bind fun m => decodeBitOp (op.toNat / 64) (op.toNat / 8 % 8) m

/-- The DDCB and FDCB spaces (R123): `d` is the displacement, `op` the final opcode. -/
def decodeXyCb (xy : Xy) (d op : Byte) : Option Form :=
  (M8.ofCodeXy xy d (op.toNat % 8)).bind fun m => decodeBitOp (op.toNat / 64) (op.toNat / 8 % 8) m

/-- The ED space (R121). -/
def decodeEd (op o1 o2 : Byte) : Option Form :=
  let x := op.toNat / 64
  let y := op.toNat / 8 % 8
  let z := op.toNat % 8
  let p := y / 2
  let q := y % 2
  let nn := mkWord o2 o1
  match x with
  | 1 =>
    match z with
    | 0 => if y = 6 then some .in_portC else (R8.ofCode y).map .inR
    | 1 => if y = 6 then some .out_portC_0 else (R8.ofCode y).map .outR
    | 2 => if q = 0 then (Pair.ofCode p).map .sbcHl else (Pair.ofCode p).map .adcHl
    | 3 =>
      if q = 0 then (Pair.ofCode p).map fun dd => .ldMnnPair nn dd
      else (Pair.ofCode p).map fun dd => .ldPairMnn dd nn
    | 4 => (BitNo.ofCode y).map .negRow
    | 5 => (BitNo.ofCode y).map .retRow
    | 6 => (BitNo.ofCode y).map .imRow
    | _ =>
      match y with
      | 0 => some .ld_i_a
      | 1 => some .ld_r_a
      | 2 => some .ld_a_i
      | 3 => some .ld_a_r
      | 4 => some .rrd
      | 5 => some .rld
      | _ => none
  | 2 =>
    let dir := Dir.ofParity y
    match y / 2, z with
    | 2, 0 => some (.ldStep dir)
    | 2, 1 => some (.cpStep dir)
    | 2, 2 => some (.inStep dir)
    | 2, 3 => some (.outStep dir)
    | 3, 0 => some (.ldRep dir)
    | 3, 1 => some (.cpRep dir)
    | 3, 2 => some (.inRep dir)
    | 3, 3 => some (.outRep dir)
    | _, _ => none
  | _ => none

/-- The DD space (`xy = ix`) and the FD space (`xy = iy`), without the DDCB/FDCB class (R122). -/
def decodeXy (xy : Xy) (op o1 o2 : Byte) : Option Form :=
  let x := op.toNat / 64
  let y := op.toNat / 8 % 8
  let z := op.toNat % 8
  let p := y / 2
  let q := y % 2
  let nn := mkWord o2 o1
  match x with
  | 0 =>
    match z with
    | 1 =>
      if q = 1 then (AddPair.ofCode p).map fun pp => .addXy xy pp
      else if p = 2 then some (.ldXyNn xy nn) else none
    | 2 =>
      match y with
      | 4 => some (.ldMnnXy nn xy)
      | 5 => some (.ldXyMnn xy nn)
      | _ => none
    | 3 =>
      match y with
      | 4 => some (.incXy xy)
      | 5 => some (.decXy xy)
      | _ => none
    | 4 => if y = 6 then some (.inc8 (.idx xy o1)) else (Half.ofCode y).map fun h => .inc8 (.half xy h)
    | 5 => if y = 6 then some (.dec8 (.idx xy o1)) else (Half.ofCode y).map fun h => .dec8 (.half xy h)
    | 6 => if y = 6 then some (.ldXyN xy o1 o2) else (Half.ofCode y).map fun h => .ldHalfN xy h o1
    | _ => none
  | 1 =>
    if y = 6 then (R8.ofCode z).map fun r => .ldXyR xy o1 r
    else if z = 6 then (R8.ofCode y).map fun r => .ldRXy r xy o1
    else
      match Half.ofCode y, Half.ofCode z with
      | some h, some k => some (.ldHalfHalf xy h k)
      | some h, none => (Plain.ofCode z).map fun r => .ldHalfPlain xy h r
      | none, some k => (Plain.ofCode y).map fun r => .ldPlainHalf r xy k
      | none, none => none
  | 2 =>
    (AluOp.ofCode y).bind fun o =>
      if z = 6 then some (.alu o (.idx xy o1)) else (Half.ofCode z).map fun h => .alu o (.half xy h)
  | _ =>
    match y, z with
    | 4, 1 => some (.popXy xy)
    | 4, 3 => some (.exSpXy xy)
    | 4, 5 => some (.pushXy xy)
    | 5, 1 => some (.jpXy xy)
    | 7, 1 => some (.ldSpXy xy)
    | _, _ => none

/-! ### One engine step's decoding -/

/-- What the table holds at an index (R111, R124). -/
inductive Decoded (α : Type) where
  | ok (i : α)
  /-- No descriptor: rejected by its index. -/
  | absent (idx : Nat)
  deriving DecidableEq, Repr

/-- Whether a form's entry is registered whatever `UNDOC_REGISTERED` is (R125): not the mirrors of NEG,
RETN and IM, not `IN (C)` and `OUT (C),0`, not the instructions on a half of an index register, not the
DDCB/FDCB opcodes with `z` other than 6. -/
def Form.always (f : Form) : Bool :=
  match f with
  | .ldPlainHalf _ _ _ => false
  | .ldHalfPlain _ _ _ => false
  | .ldHalfHalf _ _ _ => false
  | .ldHalfN _ _ _ => false
  | .alu _ (.half _ _) => false
  | .inc8 (.half _ _) => false
  | .dec8 (.half _ _) => false
  | .rot _ (.idxCopy _ _ _) => false
  | .bit _ (.idxCopy _ _ _) => false
  | .res _ (.idxCopy _ _ _) => false
  | .set _ (.idxCopy _ _ _) => false
  | .negRow y => y == .b0
  | .retRow y => y == .b0 || y == .b1
  | .imRow y => y == .b0 || y == .b2 || y == .b3
  | .in_portC => false
  | .out_portC_0 => false
  | _ => true

/-- The table lookup of R152 and R154: an entry the table does not register is absent (R124, R125). -/
def lookupEntry (undoc : Bool) (idx : Nat) (o : Option Form) : Decoded Form :=
  match o with
  | none => .absent idx
  | some f => if undoc || f.always then .ok f else .absent idx

/-- The byte value of a prefix (R111). -/
def Pfx.byte : Pfx → Byte
  | .cb => 0xCB | .dd => 0xDD | .ed => 0xED | .fd => 0xFD

/-- Which prefix a byte is (R110). -/
def Pfx.ofByte (v : Byte) : Option Pfx :=
  if v = 0xCB then some .cb else if v = 0xDD then some .dd
  else if v = 0xED then some .ed else if v = 0xFD then some .fd else none

/-- Index formation and resolution of R152 and R154 on the byte at PC and the two after it, with the
prefix latch `p`. `undoc` is `UNDOC_REGISTERED`. -/
def decodeForm (undoc : Bool) (p : Option Pfx) (b0 b1 b2 : Byte) : Decoded Form :=
  match p with
  | none => lookupEntry undoc b0.toNat (decodeMain b0 b1 b2)
  | some .cb => lookupEntry undoc (0xCB00 + b0.toNat) (decodeCb b0)
  | some .ed => lookupEntry undoc (0xED00 + b0.toNat) (decodeEd b0 b1 b2)
  | some .dd =>
    if b0 = 0xCB then lookupEntry undoc (0xDDCB00 + b2.toNat) (decodeXyCb .ix b1 b2)
    else lookupEntry undoc (0xDD00 + b0.toNat) (decodeXy .ix b0 b1 b2)
  | some .fd =>
    if b0 = 0xCB then lookupEntry undoc (0xFDCB00 + b2.toNat) (decodeXyCb .iy b1 b2)
    else lookupEntry undoc (0xFD00 + b0.toNat) (decodeXy .iy b0 b1 b2)

/-- The same, as the instruction. -/
noncomputable def decodeStep (undoc : Bool) (p : Option Pfx) (b0 b1 b2 : Byte) : Decoded Instr :=
  match decodeForm undoc p b0 b1 b2 with
  | .ok f => .ok f.instr
  | .absent idx => .absent idx

/-! ### A whole instruction's decoding (R127) -/

/-- The result of decoding a byte sequence: an instruction and the bytes after it, or a rejection. -/
inductive BytesDecoded where
  | ok (i : Instr) (rest : List Byte)
  /-- The bytes select an absent entry (R124). -/
  | absent (idx : Nat)
  /-- The bytes end before the instruction does. -/
  | truncated
  deriving DecidableEq, Repr

/-- The entry that `b0` and the bytes after it select; a byte that is missing counts as 0. -/
noncomputable def decodeHead (undoc : Bool) (p : Option Pfx) (b0 : Byte) (rest : List Byte) : Decoded Instr :=
  match rest with
  | [] => decodeStep undoc p b0 0 0
  | [b1] => decodeStep undoc p b0 b1 0
  | b1 :: b2 :: _ => decodeStep undoc p b0 b1 b2

/-- The part of an instruction that one step consumes: `b0` is its opcode byte. -/
noncomputable def decodeTail (undoc : Bool) (p : Option Pfx) (b0 : Byte) (rest : List Byte) : BytesDecoded :=
  match decodeHead undoc p b0 rest with
  | .absent idx => .absent idx
  | .ok i =>
    if i.desc.stepLen ≤ rest.length + 1 then .ok i (rest.drop (i.desc.stepLen - 1)) else .truncated

/-- Decoding of an instruction's bytes (R127). A prefix byte with nothing after it is the bare-prefix
entry (R153). Total: any list of bytes is decoded or rejected by name. -/
noncomputable def decodeBytes (undoc : Bool) (bytes : List Byte) : BytesDecoded :=
  match bytes with
  | [] => .truncated
  | b0 :: rest =>
    match Pfx.ofByte b0, rest with
    | some p, b1 :: rest' => decodeTail undoc (some p) b1 rest'
    | _, rest => decodeTail undoc none b0 rest

/-- Byte `k` of the number `w`, byte 0 the least significant (the numbering of the opcode table's
words). -/
def tableByte (nbits w k : Nat) : Byte := BitVec.ofNat 8 (w % 2 ^ nbits / 2 ^ (8 * k))

/-- The instruction this decoder reads from the bytes of `w` (numbered with byte 0 least significant,
bits above `nbits` zero). A row of one byte that is a prefix is the bare-prefix entry. -/
noncomputable def decodeTableWord (nbits w : Nat) : Option Instr :=
  let b := tableByte nbits w
  let bytes := if nbits ≤ 8 ∧ (Pfx.ofByte (b 0)).isSome then [b 0] else [b 0, b 1, b 2, b 3]
  match decodeBytes Config.undocRegistered bytes with
  | .ok i _ => some i
  | _ => none

/-! ### The encoder -/

/-- The bytes of an instruction in ascending address order (R110, R114 and the `encoding` column of
opcode_table.json). -/
def encode (i : Instr) : List Byte :=
  match i with
  | .nop => [0x00]
  | .ld_bc_nn nn => [0x01, loByte nn, hiByte nn]
  | .ld_mbc_a => [0x02]
  | .inc_bc => [0x03]
  | .inc_b => [0x04]
  | .dec_b => [0x05]
  | .ld_b_n n => [0x06, n]
  | .rlca => [0x07]
  | .ex_af_afAlt => [0x08]
  | .add_hl_bc => [0x09]
  | .ld_a_mbc => [0x0A]
  | .dec_bc => [0x0B]
  | .inc_c => [0x0C]
  | .dec_c => [0x0D]
  | .ld_c_n n => [0x0E, n]
  | .rrca => [0x0F]
  | .djnz_e e => [0x10, e]
  | .ld_de_nn nn => [0x11, loByte nn, hiByte nn]
  | .ld_mde_a => [0x12]
  | .inc_de => [0x13]
  | .inc_d => [0x14]
  | .dec_d => [0x15]
  | .ld_d_n n => [0x16, n]
  | .rla => [0x17]
  | .jr_e e => [0x18, e]
  | .add_hl_de => [0x19]
  | .ld_a_mde => [0x1A]
  | .dec_de => [0x1B]
  | .inc_e => [0x1C]
  | .dec_e => [0x1D]
  | .ld_e_n n => [0x1E, n]
  | .rra => [0x1F]
  | .jr_nz_e e => [0x20, e]
  | .ld_hl_nn nn => [0x21, loByte nn, hiByte nn]
  | .ld_mnn_hl nn => [0x22, loByte nn, hiByte nn]
  | .inc_hl => [0x23]
  | .inc_h => [0x24]
  | .dec_h => [0x25]
  | .ld_h_n n => [0x26, n]
  | .daa => [0x27]
  | .jr_z_e e => [0x28, e]
  | .add_hl_hl => [0x29]
  | .ld_hl_mnn nn => [0x2A, loByte nn, hiByte nn]
  | .dec_hl => [0x2B]
  | .inc_l => [0x2C]
  | .dec_l => [0x2D]
  | .ld_l_n n => [0x2E, n]
  | .cpl => [0x2F]
  | .jr_nc_e e => [0x30, e]
  | .ld_sp_nn nn => [0x31, loByte nn, hiByte nn]
  | .ld_mnn_a nn => [0x32, loByte nn, hiByte nn]
  | .inc_sp => [0x33]
  | .inc_mhl => [0x34]
  | .dec_mhl => [0x35]
  | .ld_mhl_n n => [0x36, n]
  | .scf => [0x37]
  | .jr_c_e e => [0x38, e]
  | .add_hl_sp => [0x39]
  | .ld_a_mnn nn => [0x3A, loByte nn, hiByte nn]
  | .dec_sp => [0x3B]
  | .inc_a => [0x3C]
  | .dec_a => [0x3D]
  | .ld_a_n n => [0x3E, n]
  | .ccf => [0x3F]
  | .ld_b_b => [0x40]
  | .ld_b_c => [0x41]
  | .ld_b_d => [0x42]
  | .ld_b_e => [0x43]
  | .ld_b_h => [0x44]
  | .ld_b_l => [0x45]
  | .ld_b_mhl => [0x46]
  | .ld_b_a => [0x47]
  | .ld_c_b => [0x48]
  | .ld_c_c => [0x49]
  | .ld_c_d => [0x4A]
  | .ld_c_e => [0x4B]
  | .ld_c_h => [0x4C]
  | .ld_c_l => [0x4D]
  | .ld_c_mhl => [0x4E]
  | .ld_c_a => [0x4F]
  | .ld_d_b => [0x50]
  | .ld_d_c => [0x51]
  | .ld_d_d => [0x52]
  | .ld_d_e => [0x53]
  | .ld_d_h => [0x54]
  | .ld_d_l => [0x55]
  | .ld_d_mhl => [0x56]
  | .ld_d_a => [0x57]
  | .ld_e_b => [0x58]
  | .ld_e_c => [0x59]
  | .ld_e_d => [0x5A]
  | .ld_e_e => [0x5B]
  | .ld_e_h => [0x5C]
  | .ld_e_l => [0x5D]
  | .ld_e_mhl => [0x5E]
  | .ld_e_a => [0x5F]
  | .ld_h_b => [0x60]
  | .ld_h_c => [0x61]
  | .ld_h_d => [0x62]
  | .ld_h_e => [0x63]
  | .ld_h_h => [0x64]
  | .ld_h_l => [0x65]
  | .ld_h_mhl => [0x66]
  | .ld_h_a => [0x67]
  | .ld_l_b => [0x68]
  | .ld_l_c => [0x69]
  | .ld_l_d => [0x6A]
  | .ld_l_e => [0x6B]
  | .ld_l_h => [0x6C]
  | .ld_l_l => [0x6D]
  | .ld_l_mhl => [0x6E]
  | .ld_l_a => [0x6F]
  | .ld_mhl_b => [0x70]
  | .ld_mhl_c => [0x71]
  | .ld_mhl_d => [0x72]
  | .ld_mhl_e => [0x73]
  | .ld_mhl_h => [0x74]
  | .ld_mhl_l => [0x75]
  | .halt => [0x76]
  | .ld_mhl_a => [0x77]
  | .ld_a_b => [0x78]
  | .ld_a_c => [0x79]
  | .ld_a_d => [0x7A]
  | .ld_a_e => [0x7B]
  | .ld_a_h => [0x7C]
  | .ld_a_l => [0x7D]
  | .ld_a_mhl => [0x7E]
  | .ld_a_a => [0x7F]
  | .add_a_b => [0x80]
  | .add_a_c => [0x81]
  | .add_a_d => [0x82]
  | .add_a_e => [0x83]
  | .add_a_h => [0x84]
  | .add_a_l => [0x85]
  | .add_a_mhl => [0x86]
  | .add_a_a => [0x87]
  | .adc_a_b => [0x88]
  | .adc_a_c => [0x89]
  | .adc_a_d => [0x8A]
  | .adc_a_e => [0x8B]
  | .adc_a_h => [0x8C]
  | .adc_a_l => [0x8D]
  | .adc_a_mhl => [0x8E]
  | .adc_a_a => [0x8F]
  | .sub_b => [0x90]
  | .sub_c => [0x91]
  | .sub_d => [0x92]
  | .sub_e => [0x93]
  | .sub_h => [0x94]
  | .sub_l => [0x95]
  | .sub_mhl => [0x96]
  | .sub_a => [0x97]
  | .sbc_a_b => [0x98]
  | .sbc_a_c => [0x99]
  | .sbc_a_d => [0x9A]
  | .sbc_a_e => [0x9B]
  | .sbc_a_h => [0x9C]
  | .sbc_a_l => [0x9D]
  | .sbc_a_mhl => [0x9E]
  | .sbc_a_a => [0x9F]
  | .and_b => [0xA0]
  | .and_c => [0xA1]
  | .and_d => [0xA2]
  | .and_e => [0xA3]
  | .and_h => [0xA4]
  | .and_l => [0xA5]
  | .and_mhl => [0xA6]
  | .and_a => [0xA7]
  | .xor_b => [0xA8]
  | .xor_c => [0xA9]
  | .xor_d => [0xAA]
  | .xor_e => [0xAB]
  | .xor_h => [0xAC]
  | .xor_l => [0xAD]
  | .xor_mhl => [0xAE]
  | .xor_a => [0xAF]
  | .or_b => [0xB0]
  | .or_c => [0xB1]
  | .or_d => [0xB2]
  | .or_e => [0xB3]
  | .or_h => [0xB4]
  | .or_l => [0xB5]
  | .or_mhl => [0xB6]
  | .or_a => [0xB7]
  | .cp_b => [0xB8]
  | .cp_c => [0xB9]
  | .cp_d => [0xBA]
  | .cp_e => [0xBB]
  | .cp_h => [0xBC]
  | .cp_l => [0xBD]
  | .cp_mhl => [0xBE]
  | .cp_a => [0xBF]
  | .ret_nz => [0xC0]
  | .pop_bc => [0xC1]
  | .jp_nz_nn nn => [0xC2, loByte nn, hiByte nn]
  | .jp_nn nn => [0xC3, loByte nn, hiByte nn]
  | .call_nz_nn nn => [0xC4, loByte nn, hiByte nn]
  | .push_bc => [0xC5]
  | .add_a_n n => [0xC6, n]
  | .rst_00 => [0xC7]
  | .ret_z => [0xC8]
  | .ret => [0xC9]
  | .jp_z_nn nn => [0xCA, loByte nn, hiByte nn]
  | .prefix_cb => [0xCB]
  | .call_z_nn nn => [0xCC, loByte nn, hiByte nn]
  | .call_nn nn => [0xCD, loByte nn, hiByte nn]
  | .adc_a_n n => [0xCE, n]
  | .rst_08 => [0xCF]
  | .ret_nc => [0xD0]
  | .pop_de => [0xD1]
  | .jp_nc_nn nn => [0xD2, loByte nn, hiByte nn]
  | .out_portN_a n => [0xD3, n]
  | .call_nc_nn nn => [0xD4, loByte nn, hiByte nn]
  | .push_de => [0xD5]
  | .sub_n n => [0xD6, n]
  | .rst_10 => [0xD7]
  | .ret_c => [0xD8]
  | .exx => [0xD9]
  | .jp_c_nn nn => [0xDA, loByte nn, hiByte nn]
  | .in_a_portN n => [0xDB, n]
  | .call_c_nn nn => [0xDC, loByte nn, hiByte nn]
  | .prefix_dd => [0xDD]
  | .sbc_a_n n => [0xDE, n]
  | .rst_18 => [0xDF]
  | .ret_po => [0xE0]
  | .pop_hl => [0xE1]
  | .jp_po_nn nn => [0xE2, loByte nn, hiByte nn]
  | .ex_msp_hl => [0xE3]
  | .call_po_nn nn => [0xE4, loByte nn, hiByte nn]
  | .push_hl => [0xE5]
  | .and_n n => [0xE6, n]
  | .rst_20 => [0xE7]
  | .ret_pe => [0xE8]
  | .jp_hl => [0xE9]
  | .jp_pe_nn nn => [0xEA, loByte nn, hiByte nn]
  | .ex_de_hl => [0xEB]
  | .call_pe_nn nn => [0xEC, loByte nn, hiByte nn]
  | .prefix_ed => [0xED]
  | .xor_n n => [0xEE, n]
  | .rst_28 => [0xEF]
  | .ret_p => [0xF0]
  | .pop_af => [0xF1]
  | .jp_p_nn nn => [0xF2, loByte nn, hiByte nn]
  | .di => [0xF3]
  | .call_p_nn nn => [0xF4, loByte nn, hiByte nn]
  | .push_af => [0xF5]
  | .or_n n => [0xF6, n]
  | .rst_30 => [0xF7]
  | .ret_m => [0xF8]
  | .ld_sp_hl => [0xF9]
  | .jp_m_nn nn => [0xFA, loByte nn, hiByte nn]
  | .ei => [0xFB]
  | .call_m_nn nn => [0xFC, loByte nn, hiByte nn]
  | .prefix_fd => [0xFD]
  | .cp_n n => [0xFE, n]
  | .rst_38 => [0xFF]
  | .rlc_b => [0xCB, 0x00]
  | .rlc_c => [0xCB, 0x01]
  | .rlc_d => [0xCB, 0x02]
  | .rlc_e => [0xCB, 0x03]
  | .rlc_h => [0xCB, 0x04]
  | .rlc_l => [0xCB, 0x05]
  | .rlc_mhl => [0xCB, 0x06]
  | .rlc_a => [0xCB, 0x07]
  | .rrc_b => [0xCB, 0x08]
  | .rrc_c => [0xCB, 0x09]
  | .rrc_d => [0xCB, 0x0A]
  | .rrc_e => [0xCB, 0x0B]
  | .rrc_h => [0xCB, 0x0C]
  | .rrc_l => [0xCB, 0x0D]
  | .rrc_mhl => [0xCB, 0x0E]
  | .rrc_a => [0xCB, 0x0F]
  | .rl_b => [0xCB, 0x10]
  | .rl_c => [0xCB, 0x11]
  | .rl_d => [0xCB, 0x12]
  | .rl_e => [0xCB, 0x13]
  | .rl_h => [0xCB, 0x14]
  | .rl_l => [0xCB, 0x15]
  | .rl_mhl => [0xCB, 0x16]
  | .rl_a => [0xCB, 0x17]
  | .rr_b => [0xCB, 0x18]
  | .rr_c => [0xCB, 0x19]
  | .rr_d => [0xCB, 0x1A]
  | .rr_e => [0xCB, 0x1B]
  | .rr_h => [0xCB, 0x1C]
  | .rr_l => [0xCB, 0x1D]
  | .rr_mhl => [0xCB, 0x1E]
  | .rr_a => [0xCB, 0x1F]
  | .sla_b => [0xCB, 0x20]
  | .sla_c => [0xCB, 0x21]
  | .sla_d => [0xCB, 0x22]
  | .sla_e => [0xCB, 0x23]
  | .sla_h => [0xCB, 0x24]
  | .sla_l => [0xCB, 0x25]
  | .sla_mhl => [0xCB, 0x26]
  | .sla_a => [0xCB, 0x27]
  | .sra_b => [0xCB, 0x28]
  | .sra_c => [0xCB, 0x29]
  | .sra_d => [0xCB, 0x2A]
  | .sra_e => [0xCB, 0x2B]
  | .sra_h => [0xCB, 0x2C]
  | .sra_l => [0xCB, 0x2D]
  | .sra_mhl => [0xCB, 0x2E]
  | .sra_a => [0xCB, 0x2F]
  | .sll_b => [0xCB, 0x30]
  | .sll_c => [0xCB, 0x31]
  | .sll_d => [0xCB, 0x32]
  | .sll_e => [0xCB, 0x33]
  | .sll_h => [0xCB, 0x34]
  | .sll_l => [0xCB, 0x35]
  | .sll_mhl => [0xCB, 0x36]
  | .sll_a => [0xCB, 0x37]
  | .srl_b => [0xCB, 0x38]
  | .srl_c => [0xCB, 0x39]
  | .srl_d => [0xCB, 0x3A]
  | .srl_e => [0xCB, 0x3B]
  | .srl_h => [0xCB, 0x3C]
  | .srl_l => [0xCB, 0x3D]
  | .srl_mhl => [0xCB, 0x3E]
  | .srl_a => [0xCB, 0x3F]
  | .bit_0_b => [0xCB, 0x40]
  | .bit_0_c => [0xCB, 0x41]
  | .bit_0_d => [0xCB, 0x42]
  | .bit_0_e => [0xCB, 0x43]
  | .bit_0_h => [0xCB, 0x44]
  | .bit_0_l => [0xCB, 0x45]
  | .bit_0_mhl => [0xCB, 0x46]
  | .bit_0_a => [0xCB, 0x47]
  | .bit_1_b => [0xCB, 0x48]
  | .bit_1_c => [0xCB, 0x49]
  | .bit_1_d => [0xCB, 0x4A]
  | .bit_1_e => [0xCB, 0x4B]
  | .bit_1_h => [0xCB, 0x4C]
  | .bit_1_l => [0xCB, 0x4D]
  | .bit_1_mhl => [0xCB, 0x4E]
  | .bit_1_a => [0xCB, 0x4F]
  | .bit_2_b => [0xCB, 0x50]
  | .bit_2_c => [0xCB, 0x51]
  | .bit_2_d => [0xCB, 0x52]
  | .bit_2_e => [0xCB, 0x53]
  | .bit_2_h => [0xCB, 0x54]
  | .bit_2_l => [0xCB, 0x55]
  | .bit_2_mhl => [0xCB, 0x56]
  | .bit_2_a => [0xCB, 0x57]
  | .bit_3_b => [0xCB, 0x58]
  | .bit_3_c => [0xCB, 0x59]
  | .bit_3_d => [0xCB, 0x5A]
  | .bit_3_e => [0xCB, 0x5B]
  | .bit_3_h => [0xCB, 0x5C]
  | .bit_3_l => [0xCB, 0x5D]
  | .bit_3_mhl => [0xCB, 0x5E]
  | .bit_3_a => [0xCB, 0x5F]
  | .bit_4_b => [0xCB, 0x60]
  | .bit_4_c => [0xCB, 0x61]
  | .bit_4_d => [0xCB, 0x62]
  | .bit_4_e => [0xCB, 0x63]
  | .bit_4_h => [0xCB, 0x64]
  | .bit_4_l => [0xCB, 0x65]
  | .bit_4_mhl => [0xCB, 0x66]
  | .bit_4_a => [0xCB, 0x67]
  | .bit_5_b => [0xCB, 0x68]
  | .bit_5_c => [0xCB, 0x69]
  | .bit_5_d => [0xCB, 0x6A]
  | .bit_5_e => [0xCB, 0x6B]
  | .bit_5_h => [0xCB, 0x6C]
  | .bit_5_l => [0xCB, 0x6D]
  | .bit_5_mhl => [0xCB, 0x6E]
  | .bit_5_a => [0xCB, 0x6F]
  | .bit_6_b => [0xCB, 0x70]
  | .bit_6_c => [0xCB, 0x71]
  | .bit_6_d => [0xCB, 0x72]
  | .bit_6_e => [0xCB, 0x73]
  | .bit_6_h => [0xCB, 0x74]
  | .bit_6_l => [0xCB, 0x75]
  | .bit_6_mhl => [0xCB, 0x76]
  | .bit_6_a => [0xCB, 0x77]
  | .bit_7_b => [0xCB, 0x78]
  | .bit_7_c => [0xCB, 0x79]
  | .bit_7_d => [0xCB, 0x7A]
  | .bit_7_e => [0xCB, 0x7B]
  | .bit_7_h => [0xCB, 0x7C]
  | .bit_7_l => [0xCB, 0x7D]
  | .bit_7_mhl => [0xCB, 0x7E]
  | .bit_7_a => [0xCB, 0x7F]
  | .res_0_b => [0xCB, 0x80]
  | .res_0_c => [0xCB, 0x81]
  | .res_0_d => [0xCB, 0x82]
  | .res_0_e => [0xCB, 0x83]
  | .res_0_h => [0xCB, 0x84]
  | .res_0_l => [0xCB, 0x85]
  | .res_0_mhl => [0xCB, 0x86]
  | .res_0_a => [0xCB, 0x87]
  | .res_1_b => [0xCB, 0x88]
  | .res_1_c => [0xCB, 0x89]
  | .res_1_d => [0xCB, 0x8A]
  | .res_1_e => [0xCB, 0x8B]
  | .res_1_h => [0xCB, 0x8C]
  | .res_1_l => [0xCB, 0x8D]
  | .res_1_mhl => [0xCB, 0x8E]
  | .res_1_a => [0xCB, 0x8F]
  | .res_2_b => [0xCB, 0x90]
  | .res_2_c => [0xCB, 0x91]
  | .res_2_d => [0xCB, 0x92]
  | .res_2_e => [0xCB, 0x93]
  | .res_2_h => [0xCB, 0x94]
  | .res_2_l => [0xCB, 0x95]
  | .res_2_mhl => [0xCB, 0x96]
  | .res_2_a => [0xCB, 0x97]
  | .res_3_b => [0xCB, 0x98]
  | .res_3_c => [0xCB, 0x99]
  | .res_3_d => [0xCB, 0x9A]
  | .res_3_e => [0xCB, 0x9B]
  | .res_3_h => [0xCB, 0x9C]
  | .res_3_l => [0xCB, 0x9D]
  | .res_3_mhl => [0xCB, 0x9E]
  | .res_3_a => [0xCB, 0x9F]
  | .res_4_b => [0xCB, 0xA0]
  | .res_4_c => [0xCB, 0xA1]
  | .res_4_d => [0xCB, 0xA2]
  | .res_4_e => [0xCB, 0xA3]
  | .res_4_h => [0xCB, 0xA4]
  | .res_4_l => [0xCB, 0xA5]
  | .res_4_mhl => [0xCB, 0xA6]
  | .res_4_a => [0xCB, 0xA7]
  | .res_5_b => [0xCB, 0xA8]
  | .res_5_c => [0xCB, 0xA9]
  | .res_5_d => [0xCB, 0xAA]
  | .res_5_e => [0xCB, 0xAB]
  | .res_5_h => [0xCB, 0xAC]
  | .res_5_l => [0xCB, 0xAD]
  | .res_5_mhl => [0xCB, 0xAE]
  | .res_5_a => [0xCB, 0xAF]
  | .res_6_b => [0xCB, 0xB0]
  | .res_6_c => [0xCB, 0xB1]
  | .res_6_d => [0xCB, 0xB2]
  | .res_6_e => [0xCB, 0xB3]
  | .res_6_h => [0xCB, 0xB4]
  | .res_6_l => [0xCB, 0xB5]
  | .res_6_mhl => [0xCB, 0xB6]
  | .res_6_a => [0xCB, 0xB7]
  | .res_7_b => [0xCB, 0xB8]
  | .res_7_c => [0xCB, 0xB9]
  | .res_7_d => [0xCB, 0xBA]
  | .res_7_e => [0xCB, 0xBB]
  | .res_7_h => [0xCB, 0xBC]
  | .res_7_l => [0xCB, 0xBD]
  | .res_7_mhl => [0xCB, 0xBE]
  | .res_7_a => [0xCB, 0xBF]
  | .set_0_b => [0xCB, 0xC0]
  | .set_0_c => [0xCB, 0xC1]
  | .set_0_d => [0xCB, 0xC2]
  | .set_0_e => [0xCB, 0xC3]
  | .set_0_h => [0xCB, 0xC4]
  | .set_0_l => [0xCB, 0xC5]
  | .set_0_mhl => [0xCB, 0xC6]
  | .set_0_a => [0xCB, 0xC7]
  | .set_1_b => [0xCB, 0xC8]
  | .set_1_c => [0xCB, 0xC9]
  | .set_1_d => [0xCB, 0xCA]
  | .set_1_e => [0xCB, 0xCB]
  | .set_1_h => [0xCB, 0xCC]
  | .set_1_l => [0xCB, 0xCD]
  | .set_1_mhl => [0xCB, 0xCE]
  | .set_1_a => [0xCB, 0xCF]
  | .set_2_b => [0xCB, 0xD0]
  | .set_2_c => [0xCB, 0xD1]
  | .set_2_d => [0xCB, 0xD2]
  | .set_2_e => [0xCB, 0xD3]
  | .set_2_h => [0xCB, 0xD4]
  | .set_2_l => [0xCB, 0xD5]
  | .set_2_mhl => [0xCB, 0xD6]
  | .set_2_a => [0xCB, 0xD7]
  | .set_3_b => [0xCB, 0xD8]
  | .set_3_c => [0xCB, 0xD9]
  | .set_3_d => [0xCB, 0xDA]
  | .set_3_e => [0xCB, 0xDB]
  | .set_3_h => [0xCB, 0xDC]
  | .set_3_l => [0xCB, 0xDD]
  | .set_3_mhl => [0xCB, 0xDE]
  | .set_3_a => [0xCB, 0xDF]
  | .set_4_b => [0xCB, 0xE0]
  | .set_4_c => [0xCB, 0xE1]
  | .set_4_d => [0xCB, 0xE2]
  | .set_4_e => [0xCB, 0xE3]
  | .set_4_h => [0xCB, 0xE4]
  | .set_4_l => [0xCB, 0xE5]
  | .set_4_mhl => [0xCB, 0xE6]
  | .set_4_a => [0xCB, 0xE7]
  | .set_5_b => [0xCB, 0xE8]
  | .set_5_c => [0xCB, 0xE9]
  | .set_5_d => [0xCB, 0xEA]
  | .set_5_e => [0xCB, 0xEB]
  | .set_5_h => [0xCB, 0xEC]
  | .set_5_l => [0xCB, 0xED]
  | .set_5_mhl => [0xCB, 0xEE]
  | .set_5_a => [0xCB, 0xEF]
  | .set_6_b => [0xCB, 0xF0]
  | .set_6_c => [0xCB, 0xF1]
  | .set_6_d => [0xCB, 0xF2]
  | .set_6_e => [0xCB, 0xF3]
  | .set_6_h => [0xCB, 0xF4]
  | .set_6_l => [0xCB, 0xF5]
  | .set_6_mhl => [0xCB, 0xF6]
  | .set_6_a => [0xCB, 0xF7]
  | .set_7_b => [0xCB, 0xF8]
  | .set_7_c => [0xCB, 0xF9]
  | .set_7_d => [0xCB, 0xFA]
  | .set_7_e => [0xCB, 0xFB]
  | .set_7_h => [0xCB, 0xFC]
  | .set_7_l => [0xCB, 0xFD]
  | .set_7_mhl => [0xCB, 0xFE]
  | .set_7_a => [0xCB, 0xFF]
  | .in_b_portC => [0xED, 0x40]
  | .out_portC_b => [0xED, 0x41]
  | .sbc_hl_bc => [0xED, 0x42]
  | .ld_mnn_bc nn => [0xED, 0x43, loByte nn, hiByte nn]
  | .neg => [0xED, 0x44]
  | .retn => [0xED, 0x45]
  | .im_0 => [0xED, 0x46]
  | .ld_i_a => [0xED, 0x47]
  | .in_c_portC => [0xED, 0x48]
  | .out_portC_c => [0xED, 0x49]
  | .adc_hl_bc => [0xED, 0x4A]
  | .ld_bc_mnn nn => [0xED, 0x4B, loByte nn, hiByte nn]
  | .neg_ED4C => [0xED, 0x4C]
  | .reti => [0xED, 0x4D]
  | .im_0_ED4E => [0xED, 0x4E]
  | .ld_r_a => [0xED, 0x4F]
  | .in_d_portC => [0xED, 0x50]
  | .out_portC_d => [0xED, 0x51]
  | .sbc_hl_de => [0xED, 0x52]
  | .ld_mnn_de nn => [0xED, 0x53, loByte nn, hiByte nn]
  | .neg_ED54 => [0xED, 0x54]
  | .retn_ED55 => [0xED, 0x55]
  | .im_1 => [0xED, 0x56]
  | .ld_a_i => [0xED, 0x57]
  | .in_e_portC => [0xED, 0x58]
  | .out_portC_e => [0xED, 0x59]
  | .adc_hl_de => [0xED, 0x5A]
  | .ld_de_mnn nn => [0xED, 0x5B, loByte nn, hiByte nn]
  | .neg_ED5C => [0xED, 0x5C]
  | .retn_ED5D => [0xED, 0x5D]
  | .im_2 => [0xED, 0x5E]
  | .ld_a_r => [0xED, 0x5F]
  | .in_h_portC => [0xED, 0x60]
  | .out_portC_h => [0xED, 0x61]
  | .sbc_hl_hl => [0xED, 0x62]
  | .ld_mnn_hl_ED63 nn => [0xED, 0x63, loByte nn, hiByte nn]
  | .neg_ED64 => [0xED, 0x64]
  | .retn_ED65 => [0xED, 0x65]
  | .im_0_ED66 => [0xED, 0x66]
  | .rrd => [0xED, 0x67]
  | .in_l_portC => [0xED, 0x68]
  | .out_portC_l => [0xED, 0x69]
  | .adc_hl_hl => [0xED, 0x6A]
  | .ld_hl_mnn_ED6B nn => [0xED, 0x6B, loByte nn, hiByte nn]
  | .neg_ED6C => [0xED, 0x6C]
  | .retn_ED6D => [0xED, 0x6D]
  | .im_0_ED6E => [0xED, 0x6E]
  | .rld => [0xED, 0x6F]
  | .in_portC => [0xED, 0x70]
  | .out_portC_0 => [0xED, 0x71]
  | .sbc_hl_sp => [0xED, 0x72]
  | .ld_mnn_sp nn => [0xED, 0x73, loByte nn, hiByte nn]
  | .neg_ED74 => [0xED, 0x74]
  | .retn_ED75 => [0xED, 0x75]
  | .im_1_ED76 => [0xED, 0x76]
  | .in_a_portC => [0xED, 0x78]
  | .out_portC_a => [0xED, 0x79]
  | .adc_hl_sp => [0xED, 0x7A]
  | .ld_sp_mnn nn => [0xED, 0x7B, loByte nn, hiByte nn]
  | .neg_ED7C => [0xED, 0x7C]
  | .retn_ED7D => [0xED, 0x7D]
  | .im_2_ED7E => [0xED, 0x7E]
  | .ldi => [0xED, 0xA0]
  | .cpi => [0xED, 0xA1]
  | .ini => [0xED, 0xA2]
  | .outi => [0xED, 0xA3]
  | .ldd => [0xED, 0xA8]
  | .cpd => [0xED, 0xA9]
  | .ind => [0xED, 0xAA]
  | .outd => [0xED, 0xAB]
  | .ldir => [0xED, 0xB0]
  | .cpir => [0xED, 0xB1]
  | .inir => [0xED, 0xB2]
  | .otir => [0xED, 0xB3]
  | .lddr => [0xED, 0xB8]
  | .cpdr => [0xED, 0xB9]
  | .indr => [0xED, 0xBA]
  | .otdr => [0xED, 0xBB]
  | .add_ix_bc => [0xDD, 0x09]
  | .add_ix_de => [0xDD, 0x19]
  | .ld_ix_nn nn => [0xDD, 0x21, loByte nn, hiByte nn]
  | .ld_mnn_ix nn => [0xDD, 0x22, loByte nn, hiByte nn]
  | .inc_ix => [0xDD, 0x23]
  | .inc_ixh => [0xDD, 0x24]
  | .dec_ixh => [0xDD, 0x25]
  | .ld_ixh_n n => [0xDD, 0x26, n]
  | .add_ix_ix => [0xDD, 0x29]
  | .ld_ix_mnn nn => [0xDD, 0x2A, loByte nn, hiByte nn]
  | .dec_ix => [0xDD, 0x2B]
  | .inc_ixl => [0xDD, 0x2C]
  | .dec_ixl => [0xDD, 0x2D]
  | .ld_ixl_n n => [0xDD, 0x2E, n]
  | .inc_ixd d => [0xDD, 0x34, d]
  | .dec_ixd d => [0xDD, 0x35, d]
  | .ld_ixd_n d n => [0xDD, 0x36, d, n]
  | .add_ix_sp => [0xDD, 0x39]
  | .ld_b_ixh => [0xDD, 0x44]
  | .ld_b_ixl => [0xDD, 0x45]
  | .ld_b_ixd d => [0xDD, 0x46, d]
  | .ld_c_ixh => [0xDD, 0x4C]
  | .ld_c_ixl => [0xDD, 0x4D]
  | .ld_c_ixd d => [0xDD, 0x4E, d]
  | .ld_d_ixh => [0xDD, 0x54]
  | .ld_d_ixl => [0xDD, 0x55]
  | .ld_d_ixd d => [0xDD, 0x56, d]
  | .ld_e_ixh => [0xDD, 0x5C]
  | .ld_e_ixl => [0xDD, 0x5D]
  | .ld_e_ixd d => [0xDD, 0x5E, d]
  | .ld_ixh_b => [0xDD, 0x60]
  | .ld_ixh_c => [0xDD, 0x61]
  | .ld_ixh_d => [0xDD, 0x62]
  | .ld_ixh_e => [0xDD, 0x63]
  | .ld_ixh_ixh => [0xDD, 0x64]
  | .ld_ixh_ixl => [0xDD, 0x65]
  | .ld_h_ixd d => [0xDD, 0x66, d]
  | .ld_ixh_a => [0xDD, 0x67]
  | .ld_ixl_b => [0xDD, 0x68]
  | .ld_ixl_c => [0xDD, 0x69]
  | .ld_ixl_d => [0xDD, 0x6A]
  | .ld_ixl_e => [0xDD, 0x6B]
  | .ld_ixl_ixh => [0xDD, 0x6C]
  | .ld_ixl_ixl => [0xDD, 0x6D]
  | .ld_l_ixd d => [0xDD, 0x6E, d]
  | .ld_ixl_a => [0xDD, 0x6F]
  | .ld_ixd_b d => [0xDD, 0x70, d]
  | .ld_ixd_c d => [0xDD, 0x71, d]
  | .ld_ixd_d d => [0xDD, 0x72, d]
  | .ld_ixd_e d => [0xDD, 0x73, d]
  | .ld_ixd_h d => [0xDD, 0x74, d]
  | .ld_ixd_l d => [0xDD, 0x75, d]
  | .ld_ixd_a d => [0xDD, 0x77, d]
  | .ld_a_ixh => [0xDD, 0x7C]
  | .ld_a_ixl => [0xDD, 0x7D]
  | .ld_a_ixd d => [0xDD, 0x7E, d]
  | .add_a_ixh => [0xDD, 0x84]
  | .add_a_ixl => [0xDD, 0x85]
  | .add_a_ixd d => [0xDD, 0x86, d]
  | .adc_a_ixh => [0xDD, 0x8C]
  | .adc_a_ixl => [0xDD, 0x8D]
  | .adc_a_ixd d => [0xDD, 0x8E, d]
  | .sub_ixh => [0xDD, 0x94]
  | .sub_ixl => [0xDD, 0x95]
  | .sub_ixd d => [0xDD, 0x96, d]
  | .sbc_a_ixh => [0xDD, 0x9C]
  | .sbc_a_ixl => [0xDD, 0x9D]
  | .sbc_a_ixd d => [0xDD, 0x9E, d]
  | .and_ixh => [0xDD, 0xA4]
  | .and_ixl => [0xDD, 0xA5]
  | .and_ixd d => [0xDD, 0xA6, d]
  | .xor_ixh => [0xDD, 0xAC]
  | .xor_ixl => [0xDD, 0xAD]
  | .xor_ixd d => [0xDD, 0xAE, d]
  | .or_ixh => [0xDD, 0xB4]
  | .or_ixl => [0xDD, 0xB5]
  | .or_ixd d => [0xDD, 0xB6, d]
  | .cp_ixh => [0xDD, 0xBC]
  | .cp_ixl => [0xDD, 0xBD]
  | .cp_ixd d => [0xDD, 0xBE, d]
  | .pop_ix => [0xDD, 0xE1]
  | .ex_msp_ix => [0xDD, 0xE3]
  | .push_ix => [0xDD, 0xE5]
  | .jp_ix => [0xDD, 0xE9]
  | .ld_sp_ix => [0xDD, 0xF9]
  | .rlc_ixd_b d => [0xDD, 0xCB, d, 0x00]
  | .rlc_ixd_c d => [0xDD, 0xCB, d, 0x01]
  | .rlc_ixd_d d => [0xDD, 0xCB, d, 0x02]
  | .rlc_ixd_e d => [0xDD, 0xCB, d, 0x03]
  | .rlc_ixd_h d => [0xDD, 0xCB, d, 0x04]
  | .rlc_ixd_l d => [0xDD, 0xCB, d, 0x05]
  | .rlc_ixd d => [0xDD, 0xCB, d, 0x06]
  | .rlc_ixd_a d => [0xDD, 0xCB, d, 0x07]
  | .rrc_ixd_b d => [0xDD, 0xCB, d, 0x08]
  | .rrc_ixd_c d => [0xDD, 0xCB, d, 0x09]
  | .rrc_ixd_d d => [0xDD, 0xCB, d, 0x0A]
  | .rrc_ixd_e d => [0xDD, 0xCB, d, 0x0B]
  | .rrc_ixd_h d => [0xDD, 0xCB, d, 0x0C]
  | .rrc_ixd_l d => [0xDD, 0xCB, d, 0x0D]
  | .rrc_ixd d => [0xDD, 0xCB, d, 0x0E]
  | .rrc_ixd_a d => [0xDD, 0xCB, d, 0x0F]
  | .rl_ixd_b d => [0xDD, 0xCB, d, 0x10]
  | .rl_ixd_c d => [0xDD, 0xCB, d, 0x11]
  | .rl_ixd_d d => [0xDD, 0xCB, d, 0x12]
  | .rl_ixd_e d => [0xDD, 0xCB, d, 0x13]
  | .rl_ixd_h d => [0xDD, 0xCB, d, 0x14]
  | .rl_ixd_l d => [0xDD, 0xCB, d, 0x15]
  | .rl_ixd d => [0xDD, 0xCB, d, 0x16]
  | .rl_ixd_a d => [0xDD, 0xCB, d, 0x17]
  | .rr_ixd_b d => [0xDD, 0xCB, d, 0x18]
  | .rr_ixd_c d => [0xDD, 0xCB, d, 0x19]
  | .rr_ixd_d d => [0xDD, 0xCB, d, 0x1A]
  | .rr_ixd_e d => [0xDD, 0xCB, d, 0x1B]
  | .rr_ixd_h d => [0xDD, 0xCB, d, 0x1C]
  | .rr_ixd_l d => [0xDD, 0xCB, d, 0x1D]
  | .rr_ixd d => [0xDD, 0xCB, d, 0x1E]
  | .rr_ixd_a d => [0xDD, 0xCB, d, 0x1F]
  | .sla_ixd_b d => [0xDD, 0xCB, d, 0x20]
  | .sla_ixd_c d => [0xDD, 0xCB, d, 0x21]
  | .sla_ixd_d d => [0xDD, 0xCB, d, 0x22]
  | .sla_ixd_e d => [0xDD, 0xCB, d, 0x23]
  | .sla_ixd_h d => [0xDD, 0xCB, d, 0x24]
  | .sla_ixd_l d => [0xDD, 0xCB, d, 0x25]
  | .sla_ixd d => [0xDD, 0xCB, d, 0x26]
  | .sla_ixd_a d => [0xDD, 0xCB, d, 0x27]
  | .sra_ixd_b d => [0xDD, 0xCB, d, 0x28]
  | .sra_ixd_c d => [0xDD, 0xCB, d, 0x29]
  | .sra_ixd_d d => [0xDD, 0xCB, d, 0x2A]
  | .sra_ixd_e d => [0xDD, 0xCB, d, 0x2B]
  | .sra_ixd_h d => [0xDD, 0xCB, d, 0x2C]
  | .sra_ixd_l d => [0xDD, 0xCB, d, 0x2D]
  | .sra_ixd d => [0xDD, 0xCB, d, 0x2E]
  | .sra_ixd_a d => [0xDD, 0xCB, d, 0x2F]
  | .sll_ixd_b d => [0xDD, 0xCB, d, 0x30]
  | .sll_ixd_c d => [0xDD, 0xCB, d, 0x31]
  | .sll_ixd_d d => [0xDD, 0xCB, d, 0x32]
  | .sll_ixd_e d => [0xDD, 0xCB, d, 0x33]
  | .sll_ixd_h d => [0xDD, 0xCB, d, 0x34]
  | .sll_ixd_l d => [0xDD, 0xCB, d, 0x35]
  | .sll_ixd d => [0xDD, 0xCB, d, 0x36]
  | .sll_ixd_a d => [0xDD, 0xCB, d, 0x37]
  | .srl_ixd_b d => [0xDD, 0xCB, d, 0x38]
  | .srl_ixd_c d => [0xDD, 0xCB, d, 0x39]
  | .srl_ixd_d d => [0xDD, 0xCB, d, 0x3A]
  | .srl_ixd_e d => [0xDD, 0xCB, d, 0x3B]
  | .srl_ixd_h d => [0xDD, 0xCB, d, 0x3C]
  | .srl_ixd_l d => [0xDD, 0xCB, d, 0x3D]
  | .srl_ixd d => [0xDD, 0xCB, d, 0x3E]
  | .srl_ixd_a d => [0xDD, 0xCB, d, 0x3F]
  | .bit_0_ixd_z0 d => [0xDD, 0xCB, d, 0x40]
  | .bit_0_ixd_z1 d => [0xDD, 0xCB, d, 0x41]
  | .bit_0_ixd_z2 d => [0xDD, 0xCB, d, 0x42]
  | .bit_0_ixd_z3 d => [0xDD, 0xCB, d, 0x43]
  | .bit_0_ixd_z4 d => [0xDD, 0xCB, d, 0x44]
  | .bit_0_ixd_z5 d => [0xDD, 0xCB, d, 0x45]
  | .bit_0_ixd d => [0xDD, 0xCB, d, 0x46]
  | .bit_0_ixd_z7 d => [0xDD, 0xCB, d, 0x47]
  | .bit_1_ixd_z0 d => [0xDD, 0xCB, d, 0x48]
  | .bit_1_ixd_z1 d => [0xDD, 0xCB, d, 0x49]
  | .bit_1_ixd_z2 d => [0xDD, 0xCB, d, 0x4A]
  | .bit_1_ixd_z3 d => [0xDD, 0xCB, d, 0x4B]
  | .bit_1_ixd_z4 d => [0xDD, 0xCB, d, 0x4C]
  | .bit_1_ixd_z5 d => [0xDD, 0xCB, d, 0x4D]
  | .bit_1_ixd d => [0xDD, 0xCB, d, 0x4E]
  | .bit_1_ixd_z7 d => [0xDD, 0xCB, d, 0x4F]
  | .bit_2_ixd_z0 d => [0xDD, 0xCB, d, 0x50]
  | .bit_2_ixd_z1 d => [0xDD, 0xCB, d, 0x51]
  | .bit_2_ixd_z2 d => [0xDD, 0xCB, d, 0x52]
  | .bit_2_ixd_z3 d => [0xDD, 0xCB, d, 0x53]
  | .bit_2_ixd_z4 d => [0xDD, 0xCB, d, 0x54]
  | .bit_2_ixd_z5 d => [0xDD, 0xCB, d, 0x55]
  | .bit_2_ixd d => [0xDD, 0xCB, d, 0x56]
  | .bit_2_ixd_z7 d => [0xDD, 0xCB, d, 0x57]
  | .bit_3_ixd_z0 d => [0xDD, 0xCB, d, 0x58]
  | .bit_3_ixd_z1 d => [0xDD, 0xCB, d, 0x59]
  | .bit_3_ixd_z2 d => [0xDD, 0xCB, d, 0x5A]
  | .bit_3_ixd_z3 d => [0xDD, 0xCB, d, 0x5B]
  | .bit_3_ixd_z4 d => [0xDD, 0xCB, d, 0x5C]
  | .bit_3_ixd_z5 d => [0xDD, 0xCB, d, 0x5D]
  | .bit_3_ixd d => [0xDD, 0xCB, d, 0x5E]
  | .bit_3_ixd_z7 d => [0xDD, 0xCB, d, 0x5F]
  | .bit_4_ixd_z0 d => [0xDD, 0xCB, d, 0x60]
  | .bit_4_ixd_z1 d => [0xDD, 0xCB, d, 0x61]
  | .bit_4_ixd_z2 d => [0xDD, 0xCB, d, 0x62]
  | .bit_4_ixd_z3 d => [0xDD, 0xCB, d, 0x63]
  | .bit_4_ixd_z4 d => [0xDD, 0xCB, d, 0x64]
  | .bit_4_ixd_z5 d => [0xDD, 0xCB, d, 0x65]
  | .bit_4_ixd d => [0xDD, 0xCB, d, 0x66]
  | .bit_4_ixd_z7 d => [0xDD, 0xCB, d, 0x67]
  | .bit_5_ixd_z0 d => [0xDD, 0xCB, d, 0x68]
  | .bit_5_ixd_z1 d => [0xDD, 0xCB, d, 0x69]
  | .bit_5_ixd_z2 d => [0xDD, 0xCB, d, 0x6A]
  | .bit_5_ixd_z3 d => [0xDD, 0xCB, d, 0x6B]
  | .bit_5_ixd_z4 d => [0xDD, 0xCB, d, 0x6C]
  | .bit_5_ixd_z5 d => [0xDD, 0xCB, d, 0x6D]
  | .bit_5_ixd d => [0xDD, 0xCB, d, 0x6E]
  | .bit_5_ixd_z7 d => [0xDD, 0xCB, d, 0x6F]
  | .bit_6_ixd_z0 d => [0xDD, 0xCB, d, 0x70]
  | .bit_6_ixd_z1 d => [0xDD, 0xCB, d, 0x71]
  | .bit_6_ixd_z2 d => [0xDD, 0xCB, d, 0x72]
  | .bit_6_ixd_z3 d => [0xDD, 0xCB, d, 0x73]
  | .bit_6_ixd_z4 d => [0xDD, 0xCB, d, 0x74]
  | .bit_6_ixd_z5 d => [0xDD, 0xCB, d, 0x75]
  | .bit_6_ixd d => [0xDD, 0xCB, d, 0x76]
  | .bit_6_ixd_z7 d => [0xDD, 0xCB, d, 0x77]
  | .bit_7_ixd_z0 d => [0xDD, 0xCB, d, 0x78]
  | .bit_7_ixd_z1 d => [0xDD, 0xCB, d, 0x79]
  | .bit_7_ixd_z2 d => [0xDD, 0xCB, d, 0x7A]
  | .bit_7_ixd_z3 d => [0xDD, 0xCB, d, 0x7B]
  | .bit_7_ixd_z4 d => [0xDD, 0xCB, d, 0x7C]
  | .bit_7_ixd_z5 d => [0xDD, 0xCB, d, 0x7D]
  | .bit_7_ixd d => [0xDD, 0xCB, d, 0x7E]
  | .bit_7_ixd_z7 d => [0xDD, 0xCB, d, 0x7F]
  | .res_0_ixd_b d => [0xDD, 0xCB, d, 0x80]
  | .res_0_ixd_c d => [0xDD, 0xCB, d, 0x81]
  | .res_0_ixd_d d => [0xDD, 0xCB, d, 0x82]
  | .res_0_ixd_e d => [0xDD, 0xCB, d, 0x83]
  | .res_0_ixd_h d => [0xDD, 0xCB, d, 0x84]
  | .res_0_ixd_l d => [0xDD, 0xCB, d, 0x85]
  | .res_0_ixd d => [0xDD, 0xCB, d, 0x86]
  | .res_0_ixd_a d => [0xDD, 0xCB, d, 0x87]
  | .res_1_ixd_b d => [0xDD, 0xCB, d, 0x88]
  | .res_1_ixd_c d => [0xDD, 0xCB, d, 0x89]
  | .res_1_ixd_d d => [0xDD, 0xCB, d, 0x8A]
  | .res_1_ixd_e d => [0xDD, 0xCB, d, 0x8B]
  | .res_1_ixd_h d => [0xDD, 0xCB, d, 0x8C]
  | .res_1_ixd_l d => [0xDD, 0xCB, d, 0x8D]
  | .res_1_ixd d => [0xDD, 0xCB, d, 0x8E]
  | .res_1_ixd_a d => [0xDD, 0xCB, d, 0x8F]
  | .res_2_ixd_b d => [0xDD, 0xCB, d, 0x90]
  | .res_2_ixd_c d => [0xDD, 0xCB, d, 0x91]
  | .res_2_ixd_d d => [0xDD, 0xCB, d, 0x92]
  | .res_2_ixd_e d => [0xDD, 0xCB, d, 0x93]
  | .res_2_ixd_h d => [0xDD, 0xCB, d, 0x94]
  | .res_2_ixd_l d => [0xDD, 0xCB, d, 0x95]
  | .res_2_ixd d => [0xDD, 0xCB, d, 0x96]
  | .res_2_ixd_a d => [0xDD, 0xCB, d, 0x97]
  | .res_3_ixd_b d => [0xDD, 0xCB, d, 0x98]
  | .res_3_ixd_c d => [0xDD, 0xCB, d, 0x99]
  | .res_3_ixd_d d => [0xDD, 0xCB, d, 0x9A]
  | .res_3_ixd_e d => [0xDD, 0xCB, d, 0x9B]
  | .res_3_ixd_h d => [0xDD, 0xCB, d, 0x9C]
  | .res_3_ixd_l d => [0xDD, 0xCB, d, 0x9D]
  | .res_3_ixd d => [0xDD, 0xCB, d, 0x9E]
  | .res_3_ixd_a d => [0xDD, 0xCB, d, 0x9F]
  | .res_4_ixd_b d => [0xDD, 0xCB, d, 0xA0]
  | .res_4_ixd_c d => [0xDD, 0xCB, d, 0xA1]
  | .res_4_ixd_d d => [0xDD, 0xCB, d, 0xA2]
  | .res_4_ixd_e d => [0xDD, 0xCB, d, 0xA3]
  | .res_4_ixd_h d => [0xDD, 0xCB, d, 0xA4]
  | .res_4_ixd_l d => [0xDD, 0xCB, d, 0xA5]
  | .res_4_ixd d => [0xDD, 0xCB, d, 0xA6]
  | .res_4_ixd_a d => [0xDD, 0xCB, d, 0xA7]
  | .res_5_ixd_b d => [0xDD, 0xCB, d, 0xA8]
  | .res_5_ixd_c d => [0xDD, 0xCB, d, 0xA9]
  | .res_5_ixd_d d => [0xDD, 0xCB, d, 0xAA]
  | .res_5_ixd_e d => [0xDD, 0xCB, d, 0xAB]
  | .res_5_ixd_h d => [0xDD, 0xCB, d, 0xAC]
  | .res_5_ixd_l d => [0xDD, 0xCB, d, 0xAD]
  | .res_5_ixd d => [0xDD, 0xCB, d, 0xAE]
  | .res_5_ixd_a d => [0xDD, 0xCB, d, 0xAF]
  | .res_6_ixd_b d => [0xDD, 0xCB, d, 0xB0]
  | .res_6_ixd_c d => [0xDD, 0xCB, d, 0xB1]
  | .res_6_ixd_d d => [0xDD, 0xCB, d, 0xB2]
  | .res_6_ixd_e d => [0xDD, 0xCB, d, 0xB3]
  | .res_6_ixd_h d => [0xDD, 0xCB, d, 0xB4]
  | .res_6_ixd_l d => [0xDD, 0xCB, d, 0xB5]
  | .res_6_ixd d => [0xDD, 0xCB, d, 0xB6]
  | .res_6_ixd_a d => [0xDD, 0xCB, d, 0xB7]
  | .res_7_ixd_b d => [0xDD, 0xCB, d, 0xB8]
  | .res_7_ixd_c d => [0xDD, 0xCB, d, 0xB9]
  | .res_7_ixd_d d => [0xDD, 0xCB, d, 0xBA]
  | .res_7_ixd_e d => [0xDD, 0xCB, d, 0xBB]
  | .res_7_ixd_h d => [0xDD, 0xCB, d, 0xBC]
  | .res_7_ixd_l d => [0xDD, 0xCB, d, 0xBD]
  | .res_7_ixd d => [0xDD, 0xCB, d, 0xBE]
  | .res_7_ixd_a d => [0xDD, 0xCB, d, 0xBF]
  | .set_0_ixd_b d => [0xDD, 0xCB, d, 0xC0]
  | .set_0_ixd_c d => [0xDD, 0xCB, d, 0xC1]
  | .set_0_ixd_d d => [0xDD, 0xCB, d, 0xC2]
  | .set_0_ixd_e d => [0xDD, 0xCB, d, 0xC3]
  | .set_0_ixd_h d => [0xDD, 0xCB, d, 0xC4]
  | .set_0_ixd_l d => [0xDD, 0xCB, d, 0xC5]
  | .set_0_ixd d => [0xDD, 0xCB, d, 0xC6]
  | .set_0_ixd_a d => [0xDD, 0xCB, d, 0xC7]
  | .set_1_ixd_b d => [0xDD, 0xCB, d, 0xC8]
  | .set_1_ixd_c d => [0xDD, 0xCB, d, 0xC9]
  | .set_1_ixd_d d => [0xDD, 0xCB, d, 0xCA]
  | .set_1_ixd_e d => [0xDD, 0xCB, d, 0xCB]
  | .set_1_ixd_h d => [0xDD, 0xCB, d, 0xCC]
  | .set_1_ixd_l d => [0xDD, 0xCB, d, 0xCD]
  | .set_1_ixd d => [0xDD, 0xCB, d, 0xCE]
  | .set_1_ixd_a d => [0xDD, 0xCB, d, 0xCF]
  | .set_2_ixd_b d => [0xDD, 0xCB, d, 0xD0]
  | .set_2_ixd_c d => [0xDD, 0xCB, d, 0xD1]
  | .set_2_ixd_d d => [0xDD, 0xCB, d, 0xD2]
  | .set_2_ixd_e d => [0xDD, 0xCB, d, 0xD3]
  | .set_2_ixd_h d => [0xDD, 0xCB, d, 0xD4]
  | .set_2_ixd_l d => [0xDD, 0xCB, d, 0xD5]
  | .set_2_ixd d => [0xDD, 0xCB, d, 0xD6]
  | .set_2_ixd_a d => [0xDD, 0xCB, d, 0xD7]
  | .set_3_ixd_b d => [0xDD, 0xCB, d, 0xD8]
  | .set_3_ixd_c d => [0xDD, 0xCB, d, 0xD9]
  | .set_3_ixd_d d => [0xDD, 0xCB, d, 0xDA]
  | .set_3_ixd_e d => [0xDD, 0xCB, d, 0xDB]
  | .set_3_ixd_h d => [0xDD, 0xCB, d, 0xDC]
  | .set_3_ixd_l d => [0xDD, 0xCB, d, 0xDD]
  | .set_3_ixd d => [0xDD, 0xCB, d, 0xDE]
  | .set_3_ixd_a d => [0xDD, 0xCB, d, 0xDF]
  | .set_4_ixd_b d => [0xDD, 0xCB, d, 0xE0]
  | .set_4_ixd_c d => [0xDD, 0xCB, d, 0xE1]
  | .set_4_ixd_d d => [0xDD, 0xCB, d, 0xE2]
  | .set_4_ixd_e d => [0xDD, 0xCB, d, 0xE3]
  | .set_4_ixd_h d => [0xDD, 0xCB, d, 0xE4]
  | .set_4_ixd_l d => [0xDD, 0xCB, d, 0xE5]
  | .set_4_ixd d => [0xDD, 0xCB, d, 0xE6]
  | .set_4_ixd_a d => [0xDD, 0xCB, d, 0xE7]
  | .set_5_ixd_b d => [0xDD, 0xCB, d, 0xE8]
  | .set_5_ixd_c d => [0xDD, 0xCB, d, 0xE9]
  | .set_5_ixd_d d => [0xDD, 0xCB, d, 0xEA]
  | .set_5_ixd_e d => [0xDD, 0xCB, d, 0xEB]
  | .set_5_ixd_h d => [0xDD, 0xCB, d, 0xEC]
  | .set_5_ixd_l d => [0xDD, 0xCB, d, 0xED]
  | .set_5_ixd d => [0xDD, 0xCB, d, 0xEE]
  | .set_5_ixd_a d => [0xDD, 0xCB, d, 0xEF]
  | .set_6_ixd_b d => [0xDD, 0xCB, d, 0xF0]
  | .set_6_ixd_c d => [0xDD, 0xCB, d, 0xF1]
  | .set_6_ixd_d d => [0xDD, 0xCB, d, 0xF2]
  | .set_6_ixd_e d => [0xDD, 0xCB, d, 0xF3]
  | .set_6_ixd_h d => [0xDD, 0xCB, d, 0xF4]
  | .set_6_ixd_l d => [0xDD, 0xCB, d, 0xF5]
  | .set_6_ixd d => [0xDD, 0xCB, d, 0xF6]
  | .set_6_ixd_a d => [0xDD, 0xCB, d, 0xF7]
  | .set_7_ixd_b d => [0xDD, 0xCB, d, 0xF8]
  | .set_7_ixd_c d => [0xDD, 0xCB, d, 0xF9]
  | .set_7_ixd_d d => [0xDD, 0xCB, d, 0xFA]
  | .set_7_ixd_e d => [0xDD, 0xCB, d, 0xFB]
  | .set_7_ixd_h d => [0xDD, 0xCB, d, 0xFC]
  | .set_7_ixd_l d => [0xDD, 0xCB, d, 0xFD]
  | .set_7_ixd d => [0xDD, 0xCB, d, 0xFE]
  | .set_7_ixd_a d => [0xDD, 0xCB, d, 0xFF]
  | .add_iy_bc => [0xFD, 0x09]
  | .add_iy_de => [0xFD, 0x19]
  | .ld_iy_nn nn => [0xFD, 0x21, loByte nn, hiByte nn]
  | .ld_mnn_iy nn => [0xFD, 0x22, loByte nn, hiByte nn]
  | .inc_iy => [0xFD, 0x23]
  | .inc_iyh => [0xFD, 0x24]
  | .dec_iyh => [0xFD, 0x25]
  | .ld_iyh_n n => [0xFD, 0x26, n]
  | .add_iy_iy => [0xFD, 0x29]
  | .ld_iy_mnn nn => [0xFD, 0x2A, loByte nn, hiByte nn]
  | .dec_iy => [0xFD, 0x2B]
  | .inc_iyl => [0xFD, 0x2C]
  | .dec_iyl => [0xFD, 0x2D]
  | .ld_iyl_n n => [0xFD, 0x2E, n]
  | .inc_iyd d => [0xFD, 0x34, d]
  | .dec_iyd d => [0xFD, 0x35, d]
  | .ld_iyd_n d n => [0xFD, 0x36, d, n]
  | .add_iy_sp => [0xFD, 0x39]
  | .ld_b_iyh => [0xFD, 0x44]
  | .ld_b_iyl => [0xFD, 0x45]
  | .ld_b_iyd d => [0xFD, 0x46, d]
  | .ld_c_iyh => [0xFD, 0x4C]
  | .ld_c_iyl => [0xFD, 0x4D]
  | .ld_c_iyd d => [0xFD, 0x4E, d]
  | .ld_d_iyh => [0xFD, 0x54]
  | .ld_d_iyl => [0xFD, 0x55]
  | .ld_d_iyd d => [0xFD, 0x56, d]
  | .ld_e_iyh => [0xFD, 0x5C]
  | .ld_e_iyl => [0xFD, 0x5D]
  | .ld_e_iyd d => [0xFD, 0x5E, d]
  | .ld_iyh_b => [0xFD, 0x60]
  | .ld_iyh_c => [0xFD, 0x61]
  | .ld_iyh_d => [0xFD, 0x62]
  | .ld_iyh_e => [0xFD, 0x63]
  | .ld_iyh_iyh => [0xFD, 0x64]
  | .ld_iyh_iyl => [0xFD, 0x65]
  | .ld_h_iyd d => [0xFD, 0x66, d]
  | .ld_iyh_a => [0xFD, 0x67]
  | .ld_iyl_b => [0xFD, 0x68]
  | .ld_iyl_c => [0xFD, 0x69]
  | .ld_iyl_d => [0xFD, 0x6A]
  | .ld_iyl_e => [0xFD, 0x6B]
  | .ld_iyl_iyh => [0xFD, 0x6C]
  | .ld_iyl_iyl => [0xFD, 0x6D]
  | .ld_l_iyd d => [0xFD, 0x6E, d]
  | .ld_iyl_a => [0xFD, 0x6F]
  | .ld_iyd_b d => [0xFD, 0x70, d]
  | .ld_iyd_c d => [0xFD, 0x71, d]
  | .ld_iyd_d d => [0xFD, 0x72, d]
  | .ld_iyd_e d => [0xFD, 0x73, d]
  | .ld_iyd_h d => [0xFD, 0x74, d]
  | .ld_iyd_l d => [0xFD, 0x75, d]
  | .ld_iyd_a d => [0xFD, 0x77, d]
  | .ld_a_iyh => [0xFD, 0x7C]
  | .ld_a_iyl => [0xFD, 0x7D]
  | .ld_a_iyd d => [0xFD, 0x7E, d]
  | .add_a_iyh => [0xFD, 0x84]
  | .add_a_iyl => [0xFD, 0x85]
  | .add_a_iyd d => [0xFD, 0x86, d]
  | .adc_a_iyh => [0xFD, 0x8C]
  | .adc_a_iyl => [0xFD, 0x8D]
  | .adc_a_iyd d => [0xFD, 0x8E, d]
  | .sub_iyh => [0xFD, 0x94]
  | .sub_iyl => [0xFD, 0x95]
  | .sub_iyd d => [0xFD, 0x96, d]
  | .sbc_a_iyh => [0xFD, 0x9C]
  | .sbc_a_iyl => [0xFD, 0x9D]
  | .sbc_a_iyd d => [0xFD, 0x9E, d]
  | .and_iyh => [0xFD, 0xA4]
  | .and_iyl => [0xFD, 0xA5]
  | .and_iyd d => [0xFD, 0xA6, d]
  | .xor_iyh => [0xFD, 0xAC]
  | .xor_iyl => [0xFD, 0xAD]
  | .xor_iyd d => [0xFD, 0xAE, d]
  | .or_iyh => [0xFD, 0xB4]
  | .or_iyl => [0xFD, 0xB5]
  | .or_iyd d => [0xFD, 0xB6, d]
  | .cp_iyh => [0xFD, 0xBC]
  | .cp_iyl => [0xFD, 0xBD]
  | .cp_iyd d => [0xFD, 0xBE, d]
  | .pop_iy => [0xFD, 0xE1]
  | .ex_msp_iy => [0xFD, 0xE3]
  | .push_iy => [0xFD, 0xE5]
  | .jp_iy => [0xFD, 0xE9]
  | .ld_sp_iy => [0xFD, 0xF9]
  | .rlc_iyd_b d => [0xFD, 0xCB, d, 0x00]
  | .rlc_iyd_c d => [0xFD, 0xCB, d, 0x01]
  | .rlc_iyd_d d => [0xFD, 0xCB, d, 0x02]
  | .rlc_iyd_e d => [0xFD, 0xCB, d, 0x03]
  | .rlc_iyd_h d => [0xFD, 0xCB, d, 0x04]
  | .rlc_iyd_l d => [0xFD, 0xCB, d, 0x05]
  | .rlc_iyd d => [0xFD, 0xCB, d, 0x06]
  | .rlc_iyd_a d => [0xFD, 0xCB, d, 0x07]
  | .rrc_iyd_b d => [0xFD, 0xCB, d, 0x08]
  | .rrc_iyd_c d => [0xFD, 0xCB, d, 0x09]
  | .rrc_iyd_d d => [0xFD, 0xCB, d, 0x0A]
  | .rrc_iyd_e d => [0xFD, 0xCB, d, 0x0B]
  | .rrc_iyd_h d => [0xFD, 0xCB, d, 0x0C]
  | .rrc_iyd_l d => [0xFD, 0xCB, d, 0x0D]
  | .rrc_iyd d => [0xFD, 0xCB, d, 0x0E]
  | .rrc_iyd_a d => [0xFD, 0xCB, d, 0x0F]
  | .rl_iyd_b d => [0xFD, 0xCB, d, 0x10]
  | .rl_iyd_c d => [0xFD, 0xCB, d, 0x11]
  | .rl_iyd_d d => [0xFD, 0xCB, d, 0x12]
  | .rl_iyd_e d => [0xFD, 0xCB, d, 0x13]
  | .rl_iyd_h d => [0xFD, 0xCB, d, 0x14]
  | .rl_iyd_l d => [0xFD, 0xCB, d, 0x15]
  | .rl_iyd d => [0xFD, 0xCB, d, 0x16]
  | .rl_iyd_a d => [0xFD, 0xCB, d, 0x17]
  | .rr_iyd_b d => [0xFD, 0xCB, d, 0x18]
  | .rr_iyd_c d => [0xFD, 0xCB, d, 0x19]
  | .rr_iyd_d d => [0xFD, 0xCB, d, 0x1A]
  | .rr_iyd_e d => [0xFD, 0xCB, d, 0x1B]
  | .rr_iyd_h d => [0xFD, 0xCB, d, 0x1C]
  | .rr_iyd_l d => [0xFD, 0xCB, d, 0x1D]
  | .rr_iyd d => [0xFD, 0xCB, d, 0x1E]
  | .rr_iyd_a d => [0xFD, 0xCB, d, 0x1F]
  | .sla_iyd_b d => [0xFD, 0xCB, d, 0x20]
  | .sla_iyd_c d => [0xFD, 0xCB, d, 0x21]
  | .sla_iyd_d d => [0xFD, 0xCB, d, 0x22]
  | .sla_iyd_e d => [0xFD, 0xCB, d, 0x23]
  | .sla_iyd_h d => [0xFD, 0xCB, d, 0x24]
  | .sla_iyd_l d => [0xFD, 0xCB, d, 0x25]
  | .sla_iyd d => [0xFD, 0xCB, d, 0x26]
  | .sla_iyd_a d => [0xFD, 0xCB, d, 0x27]
  | .sra_iyd_b d => [0xFD, 0xCB, d, 0x28]
  | .sra_iyd_c d => [0xFD, 0xCB, d, 0x29]
  | .sra_iyd_d d => [0xFD, 0xCB, d, 0x2A]
  | .sra_iyd_e d => [0xFD, 0xCB, d, 0x2B]
  | .sra_iyd_h d => [0xFD, 0xCB, d, 0x2C]
  | .sra_iyd_l d => [0xFD, 0xCB, d, 0x2D]
  | .sra_iyd d => [0xFD, 0xCB, d, 0x2E]
  | .sra_iyd_a d => [0xFD, 0xCB, d, 0x2F]
  | .sll_iyd_b d => [0xFD, 0xCB, d, 0x30]
  | .sll_iyd_c d => [0xFD, 0xCB, d, 0x31]
  | .sll_iyd_d d => [0xFD, 0xCB, d, 0x32]
  | .sll_iyd_e d => [0xFD, 0xCB, d, 0x33]
  | .sll_iyd_h d => [0xFD, 0xCB, d, 0x34]
  | .sll_iyd_l d => [0xFD, 0xCB, d, 0x35]
  | .sll_iyd d => [0xFD, 0xCB, d, 0x36]
  | .sll_iyd_a d => [0xFD, 0xCB, d, 0x37]
  | .srl_iyd_b d => [0xFD, 0xCB, d, 0x38]
  | .srl_iyd_c d => [0xFD, 0xCB, d, 0x39]
  | .srl_iyd_d d => [0xFD, 0xCB, d, 0x3A]
  | .srl_iyd_e d => [0xFD, 0xCB, d, 0x3B]
  | .srl_iyd_h d => [0xFD, 0xCB, d, 0x3C]
  | .srl_iyd_l d => [0xFD, 0xCB, d, 0x3D]
  | .srl_iyd d => [0xFD, 0xCB, d, 0x3E]
  | .srl_iyd_a d => [0xFD, 0xCB, d, 0x3F]
  | .bit_0_iyd_z0 d => [0xFD, 0xCB, d, 0x40]
  | .bit_0_iyd_z1 d => [0xFD, 0xCB, d, 0x41]
  | .bit_0_iyd_z2 d => [0xFD, 0xCB, d, 0x42]
  | .bit_0_iyd_z3 d => [0xFD, 0xCB, d, 0x43]
  | .bit_0_iyd_z4 d => [0xFD, 0xCB, d, 0x44]
  | .bit_0_iyd_z5 d => [0xFD, 0xCB, d, 0x45]
  | .bit_0_iyd d => [0xFD, 0xCB, d, 0x46]
  | .bit_0_iyd_z7 d => [0xFD, 0xCB, d, 0x47]
  | .bit_1_iyd_z0 d => [0xFD, 0xCB, d, 0x48]
  | .bit_1_iyd_z1 d => [0xFD, 0xCB, d, 0x49]
  | .bit_1_iyd_z2 d => [0xFD, 0xCB, d, 0x4A]
  | .bit_1_iyd_z3 d => [0xFD, 0xCB, d, 0x4B]
  | .bit_1_iyd_z4 d => [0xFD, 0xCB, d, 0x4C]
  | .bit_1_iyd_z5 d => [0xFD, 0xCB, d, 0x4D]
  | .bit_1_iyd d => [0xFD, 0xCB, d, 0x4E]
  | .bit_1_iyd_z7 d => [0xFD, 0xCB, d, 0x4F]
  | .bit_2_iyd_z0 d => [0xFD, 0xCB, d, 0x50]
  | .bit_2_iyd_z1 d => [0xFD, 0xCB, d, 0x51]
  | .bit_2_iyd_z2 d => [0xFD, 0xCB, d, 0x52]
  | .bit_2_iyd_z3 d => [0xFD, 0xCB, d, 0x53]
  | .bit_2_iyd_z4 d => [0xFD, 0xCB, d, 0x54]
  | .bit_2_iyd_z5 d => [0xFD, 0xCB, d, 0x55]
  | .bit_2_iyd d => [0xFD, 0xCB, d, 0x56]
  | .bit_2_iyd_z7 d => [0xFD, 0xCB, d, 0x57]
  | .bit_3_iyd_z0 d => [0xFD, 0xCB, d, 0x58]
  | .bit_3_iyd_z1 d => [0xFD, 0xCB, d, 0x59]
  | .bit_3_iyd_z2 d => [0xFD, 0xCB, d, 0x5A]
  | .bit_3_iyd_z3 d => [0xFD, 0xCB, d, 0x5B]
  | .bit_3_iyd_z4 d => [0xFD, 0xCB, d, 0x5C]
  | .bit_3_iyd_z5 d => [0xFD, 0xCB, d, 0x5D]
  | .bit_3_iyd d => [0xFD, 0xCB, d, 0x5E]
  | .bit_3_iyd_z7 d => [0xFD, 0xCB, d, 0x5F]
  | .bit_4_iyd_z0 d => [0xFD, 0xCB, d, 0x60]
  | .bit_4_iyd_z1 d => [0xFD, 0xCB, d, 0x61]
  | .bit_4_iyd_z2 d => [0xFD, 0xCB, d, 0x62]
  | .bit_4_iyd_z3 d => [0xFD, 0xCB, d, 0x63]
  | .bit_4_iyd_z4 d => [0xFD, 0xCB, d, 0x64]
  | .bit_4_iyd_z5 d => [0xFD, 0xCB, d, 0x65]
  | .bit_4_iyd d => [0xFD, 0xCB, d, 0x66]
  | .bit_4_iyd_z7 d => [0xFD, 0xCB, d, 0x67]
  | .bit_5_iyd_z0 d => [0xFD, 0xCB, d, 0x68]
  | .bit_5_iyd_z1 d => [0xFD, 0xCB, d, 0x69]
  | .bit_5_iyd_z2 d => [0xFD, 0xCB, d, 0x6A]
  | .bit_5_iyd_z3 d => [0xFD, 0xCB, d, 0x6B]
  | .bit_5_iyd_z4 d => [0xFD, 0xCB, d, 0x6C]
  | .bit_5_iyd_z5 d => [0xFD, 0xCB, d, 0x6D]
  | .bit_5_iyd d => [0xFD, 0xCB, d, 0x6E]
  | .bit_5_iyd_z7 d => [0xFD, 0xCB, d, 0x6F]
  | .bit_6_iyd_z0 d => [0xFD, 0xCB, d, 0x70]
  | .bit_6_iyd_z1 d => [0xFD, 0xCB, d, 0x71]
  | .bit_6_iyd_z2 d => [0xFD, 0xCB, d, 0x72]
  | .bit_6_iyd_z3 d => [0xFD, 0xCB, d, 0x73]
  | .bit_6_iyd_z4 d => [0xFD, 0xCB, d, 0x74]
  | .bit_6_iyd_z5 d => [0xFD, 0xCB, d, 0x75]
  | .bit_6_iyd d => [0xFD, 0xCB, d, 0x76]
  | .bit_6_iyd_z7 d => [0xFD, 0xCB, d, 0x77]
  | .bit_7_iyd_z0 d => [0xFD, 0xCB, d, 0x78]
  | .bit_7_iyd_z1 d => [0xFD, 0xCB, d, 0x79]
  | .bit_7_iyd_z2 d => [0xFD, 0xCB, d, 0x7A]
  | .bit_7_iyd_z3 d => [0xFD, 0xCB, d, 0x7B]
  | .bit_7_iyd_z4 d => [0xFD, 0xCB, d, 0x7C]
  | .bit_7_iyd_z5 d => [0xFD, 0xCB, d, 0x7D]
  | .bit_7_iyd d => [0xFD, 0xCB, d, 0x7E]
  | .bit_7_iyd_z7 d => [0xFD, 0xCB, d, 0x7F]
  | .res_0_iyd_b d => [0xFD, 0xCB, d, 0x80]
  | .res_0_iyd_c d => [0xFD, 0xCB, d, 0x81]
  | .res_0_iyd_d d => [0xFD, 0xCB, d, 0x82]
  | .res_0_iyd_e d => [0xFD, 0xCB, d, 0x83]
  | .res_0_iyd_h d => [0xFD, 0xCB, d, 0x84]
  | .res_0_iyd_l d => [0xFD, 0xCB, d, 0x85]
  | .res_0_iyd d => [0xFD, 0xCB, d, 0x86]
  | .res_0_iyd_a d => [0xFD, 0xCB, d, 0x87]
  | .res_1_iyd_b d => [0xFD, 0xCB, d, 0x88]
  | .res_1_iyd_c d => [0xFD, 0xCB, d, 0x89]
  | .res_1_iyd_d d => [0xFD, 0xCB, d, 0x8A]
  | .res_1_iyd_e d => [0xFD, 0xCB, d, 0x8B]
  | .res_1_iyd_h d => [0xFD, 0xCB, d, 0x8C]
  | .res_1_iyd_l d => [0xFD, 0xCB, d, 0x8D]
  | .res_1_iyd d => [0xFD, 0xCB, d, 0x8E]
  | .res_1_iyd_a d => [0xFD, 0xCB, d, 0x8F]
  | .res_2_iyd_b d => [0xFD, 0xCB, d, 0x90]
  | .res_2_iyd_c d => [0xFD, 0xCB, d, 0x91]
  | .res_2_iyd_d d => [0xFD, 0xCB, d, 0x92]
  | .res_2_iyd_e d => [0xFD, 0xCB, d, 0x93]
  | .res_2_iyd_h d => [0xFD, 0xCB, d, 0x94]
  | .res_2_iyd_l d => [0xFD, 0xCB, d, 0x95]
  | .res_2_iyd d => [0xFD, 0xCB, d, 0x96]
  | .res_2_iyd_a d => [0xFD, 0xCB, d, 0x97]
  | .res_3_iyd_b d => [0xFD, 0xCB, d, 0x98]
  | .res_3_iyd_c d => [0xFD, 0xCB, d, 0x99]
  | .res_3_iyd_d d => [0xFD, 0xCB, d, 0x9A]
  | .res_3_iyd_e d => [0xFD, 0xCB, d, 0x9B]
  | .res_3_iyd_h d => [0xFD, 0xCB, d, 0x9C]
  | .res_3_iyd_l d => [0xFD, 0xCB, d, 0x9D]
  | .res_3_iyd d => [0xFD, 0xCB, d, 0x9E]
  | .res_3_iyd_a d => [0xFD, 0xCB, d, 0x9F]
  | .res_4_iyd_b d => [0xFD, 0xCB, d, 0xA0]
  | .res_4_iyd_c d => [0xFD, 0xCB, d, 0xA1]
  | .res_4_iyd_d d => [0xFD, 0xCB, d, 0xA2]
  | .res_4_iyd_e d => [0xFD, 0xCB, d, 0xA3]
  | .res_4_iyd_h d => [0xFD, 0xCB, d, 0xA4]
  | .res_4_iyd_l d => [0xFD, 0xCB, d, 0xA5]
  | .res_4_iyd d => [0xFD, 0xCB, d, 0xA6]
  | .res_4_iyd_a d => [0xFD, 0xCB, d, 0xA7]
  | .res_5_iyd_b d => [0xFD, 0xCB, d, 0xA8]
  | .res_5_iyd_c d => [0xFD, 0xCB, d, 0xA9]
  | .res_5_iyd_d d => [0xFD, 0xCB, d, 0xAA]
  | .res_5_iyd_e d => [0xFD, 0xCB, d, 0xAB]
  | .res_5_iyd_h d => [0xFD, 0xCB, d, 0xAC]
  | .res_5_iyd_l d => [0xFD, 0xCB, d, 0xAD]
  | .res_5_iyd d => [0xFD, 0xCB, d, 0xAE]
  | .res_5_iyd_a d => [0xFD, 0xCB, d, 0xAF]
  | .res_6_iyd_b d => [0xFD, 0xCB, d, 0xB0]
  | .res_6_iyd_c d => [0xFD, 0xCB, d, 0xB1]
  | .res_6_iyd_d d => [0xFD, 0xCB, d, 0xB2]
  | .res_6_iyd_e d => [0xFD, 0xCB, d, 0xB3]
  | .res_6_iyd_h d => [0xFD, 0xCB, d, 0xB4]
  | .res_6_iyd_l d => [0xFD, 0xCB, d, 0xB5]
  | .res_6_iyd d => [0xFD, 0xCB, d, 0xB6]
  | .res_6_iyd_a d => [0xFD, 0xCB, d, 0xB7]
  | .res_7_iyd_b d => [0xFD, 0xCB, d, 0xB8]
  | .res_7_iyd_c d => [0xFD, 0xCB, d, 0xB9]
  | .res_7_iyd_d d => [0xFD, 0xCB, d, 0xBA]
  | .res_7_iyd_e d => [0xFD, 0xCB, d, 0xBB]
  | .res_7_iyd_h d => [0xFD, 0xCB, d, 0xBC]
  | .res_7_iyd_l d => [0xFD, 0xCB, d, 0xBD]
  | .res_7_iyd d => [0xFD, 0xCB, d, 0xBE]
  | .res_7_iyd_a d => [0xFD, 0xCB, d, 0xBF]
  | .set_0_iyd_b d => [0xFD, 0xCB, d, 0xC0]
  | .set_0_iyd_c d => [0xFD, 0xCB, d, 0xC1]
  | .set_0_iyd_d d => [0xFD, 0xCB, d, 0xC2]
  | .set_0_iyd_e d => [0xFD, 0xCB, d, 0xC3]
  | .set_0_iyd_h d => [0xFD, 0xCB, d, 0xC4]
  | .set_0_iyd_l d => [0xFD, 0xCB, d, 0xC5]
  | .set_0_iyd d => [0xFD, 0xCB, d, 0xC6]
  | .set_0_iyd_a d => [0xFD, 0xCB, d, 0xC7]
  | .set_1_iyd_b d => [0xFD, 0xCB, d, 0xC8]
  | .set_1_iyd_c d => [0xFD, 0xCB, d, 0xC9]
  | .set_1_iyd_d d => [0xFD, 0xCB, d, 0xCA]
  | .set_1_iyd_e d => [0xFD, 0xCB, d, 0xCB]
  | .set_1_iyd_h d => [0xFD, 0xCB, d, 0xCC]
  | .set_1_iyd_l d => [0xFD, 0xCB, d, 0xCD]
  | .set_1_iyd d => [0xFD, 0xCB, d, 0xCE]
  | .set_1_iyd_a d => [0xFD, 0xCB, d, 0xCF]
  | .set_2_iyd_b d => [0xFD, 0xCB, d, 0xD0]
  | .set_2_iyd_c d => [0xFD, 0xCB, d, 0xD1]
  | .set_2_iyd_d d => [0xFD, 0xCB, d, 0xD2]
  | .set_2_iyd_e d => [0xFD, 0xCB, d, 0xD3]
  | .set_2_iyd_h d => [0xFD, 0xCB, d, 0xD4]
  | .set_2_iyd_l d => [0xFD, 0xCB, d, 0xD5]
  | .set_2_iyd d => [0xFD, 0xCB, d, 0xD6]
  | .set_2_iyd_a d => [0xFD, 0xCB, d, 0xD7]
  | .set_3_iyd_b d => [0xFD, 0xCB, d, 0xD8]
  | .set_3_iyd_c d => [0xFD, 0xCB, d, 0xD9]
  | .set_3_iyd_d d => [0xFD, 0xCB, d, 0xDA]
  | .set_3_iyd_e d => [0xFD, 0xCB, d, 0xDB]
  | .set_3_iyd_h d => [0xFD, 0xCB, d, 0xDC]
  | .set_3_iyd_l d => [0xFD, 0xCB, d, 0xDD]
  | .set_3_iyd d => [0xFD, 0xCB, d, 0xDE]
  | .set_3_iyd_a d => [0xFD, 0xCB, d, 0xDF]
  | .set_4_iyd_b d => [0xFD, 0xCB, d, 0xE0]
  | .set_4_iyd_c d => [0xFD, 0xCB, d, 0xE1]
  | .set_4_iyd_d d => [0xFD, 0xCB, d, 0xE2]
  | .set_4_iyd_e d => [0xFD, 0xCB, d, 0xE3]
  | .set_4_iyd_h d => [0xFD, 0xCB, d, 0xE4]
  | .set_4_iyd_l d => [0xFD, 0xCB, d, 0xE5]
  | .set_4_iyd d => [0xFD, 0xCB, d, 0xE6]
  | .set_4_iyd_a d => [0xFD, 0xCB, d, 0xE7]
  | .set_5_iyd_b d => [0xFD, 0xCB, d, 0xE8]
  | .set_5_iyd_c d => [0xFD, 0xCB, d, 0xE9]
  | .set_5_iyd_d d => [0xFD, 0xCB, d, 0xEA]
  | .set_5_iyd_e d => [0xFD, 0xCB, d, 0xEB]
  | .set_5_iyd_h d => [0xFD, 0xCB, d, 0xEC]
  | .set_5_iyd_l d => [0xFD, 0xCB, d, 0xED]
  | .set_5_iyd d => [0xFD, 0xCB, d, 0xEE]
  | .set_5_iyd_a d => [0xFD, 0xCB, d, 0xEF]
  | .set_6_iyd_b d => [0xFD, 0xCB, d, 0xF0]
  | .set_6_iyd_c d => [0xFD, 0xCB, d, 0xF1]
  | .set_6_iyd_d d => [0xFD, 0xCB, d, 0xF2]
  | .set_6_iyd_e d => [0xFD, 0xCB, d, 0xF3]
  | .set_6_iyd_h d => [0xFD, 0xCB, d, 0xF4]
  | .set_6_iyd_l d => [0xFD, 0xCB, d, 0xF5]
  | .set_6_iyd d => [0xFD, 0xCB, d, 0xF6]
  | .set_6_iyd_a d => [0xFD, 0xCB, d, 0xF7]
  | .set_7_iyd_b d => [0xFD, 0xCB, d, 0xF8]
  | .set_7_iyd_c d => [0xFD, 0xCB, d, 0xF9]
  | .set_7_iyd_d d => [0xFD, 0xCB, d, 0xFA]
  | .set_7_iyd_e d => [0xFD, 0xCB, d, 0xFB]
  | .set_7_iyd_h d => [0xFD, 0xCB, d, 0xFC]
  | .set_7_iyd_l d => [0xFD, 0xCB, d, 0xFD]
  | .set_7_iyd d => [0xFD, 0xCB, d, 0xFE]
  | .set_7_iyd_a d => [0xFD, 0xCB, d, 0xFF]

end Sys2Proof
end

