-- ==== Sys2Proof/Machine/Flags.lean ====
section
/-! DEFINITION. The flag byte F and every flag computation (spec/10_state.md R38, spec/00_scope.md R10 and
the Flags lines of spec/41_load_exchange.md to spec/48_control_latches.md). -/

namespace Sys2Proof.Machine

/-! ### The flags in F (R38) -/

def flagS (f : Byte) : Bool := f.getLsbD 7
def flagZ (f : Byte) : Bool := f.getLsbD 6
def flagY (f : Byte) : Bool := f.getLsbD 5
def flagH (f : Byte) : Bool := f.getLsbD 4
def flagX (f : Byte) : Bool := f.getLsbD 3
def flagPV (f : Byte) : Bool := f.getLsbD 2
def flagN (f : Byte) : Bool := f.getLsbD 1
def flagC (f : Byte) : Bool := f.getLsbD 0

/-- The byte F with the given flags, bit 7 first (R38). -/
def packF (s z y h x pv n c : Bool) : Byte :=
  BitVec.ofBool s ++ (BitVec.ofBool z ++ (BitVec.ofBool y ++ (BitVec.ofBool h ++
    (BitVec.ofBool x ++ (BitVec.ofBool pv ++ (BitVec.ofBool n ++ BitVec.ofBool c))))))

/-- F with S and Z from `v` and Y and X from `src` (`sz(v); xy(src)` of R10), the other four given. -/
def szxyF (v src : Byte) (h pv n c : Bool) : Byte :=
  packF (s := v.getLsbD 7) (z := v == 0) (y := src.getLsbD 5) (h := h) (x := src.getLsbD 3)
    (pv := pv) (n := n) (c := c)

/-! ### The adders (R10) -/

/-- What an 8-bit adder returns: result, carry, half-carry, overflow. -/
structure Sum8 where
  r : Byte
  c : Bool
  h : Bool
  v : Bool
  deriving DecidableEq, Repr

/-- What a 16-bit adder returns. -/
structure Sum16 where
  r : Word
  c : Bool
  h : Bool
  v : Bool
  deriving DecidableEq, Repr

/-- A carry-in as a number. -/
def carryIn (w : Nat) (cin : Bool) : BitVec w := (BitVec.ofBool cin).zeroExtend w

/-- `add8` of R10. -/
def add8 (a b : Byte) (cin : Bool) : Sum8 :=
  let t : BitVec 9 := a.zeroExtend 9 + b.zeroExtend 9 + carryIn 9 cin
  let r := t.extractLsb' 0 8
  { r := r
    c := t.getLsbD 8
    h := decide (15 < a.toNat % 16 + b.toNat % 16 + cin.toNat)
    v := a.msb == b.msb && r.msb != a.msb }

/-- `sub8` of R10: `c` is the borrow. -/
def sub8 (a b : Byte) (cin : Bool) : Sum8 :=
  let t : BitVec 9 := a.zeroExtend 9 - b.zeroExtend 9 - carryIn 9 cin
  let r := t.extractLsb' 0 8
  { r := r
    c := t.getLsbD 8
    h := ((loNibble a).zeroExtend 5 - (loNibble b).zeroExtend 5 - carryIn 5 cin : BitVec 5).getLsbD 4
    v := a.msb != b.msb && r.msb != a.msb }

/-- `add16` of R10. -/
def add16 (a b : Word) (cin : Bool) : Sum16 :=
  let t : BitVec 17 := a.zeroExtend 17 + b.zeroExtend 17 + carryIn 17 cin
  let r := t.extractLsb' 0 16
  { r := r
    c := t.getLsbD 16
    h := decide (4095 < a.toNat % 4096 + b.toNat % 4096 + cin.toNat)
    v := a.msb == b.msb && r.msb != a.msb }

/-- `sub16` of R10. -/
def sub16 (a b : Word) (cin : Bool) : Sum16 :=
  let t : BitVec 17 := a.zeroExtend 17 - b.zeroExtend 17 - carryIn 17 cin
  let r := t.extractLsb' 0 16
  { r := r
    c := t.getLsbD 16
    h := ((a.extractLsb' 0 12).zeroExtend 13 - (b.extractLsb' 0 12).zeroExtend 13 - carryIn 13 cin :
      BitVec 13).getLsbD 12
    v := a.msb != b.msb && r.msb != a.msb }

/-! ### 8-bit arithmetic and logic (R261 to R276) -/

/-- An 8-bit result and the new F. -/
structure Out8 where
  r : Byte
  f : Byte
  deriving DecidableEq, Repr

/-- A sum or difference with all its flags; Y and X from `src`. -/
def sumFlags (o : Sum8) (src : Byte) (n : Bool) : Byte := szxyF o.r src o.h o.v n o.c

/-- A logic result: PV is parity, N and C are 0 (R265 to R267). -/
def logicFlags (r : Byte) (h : Bool) : Byte := szxyF r r h (parity r) false false

/-- The accumulator operation `op` on A = `a`, the operand `v` and the old F: the new A and the new F
(R261 to R268). CP keeps A and takes Y and X from the operand. -/
def alu8 (op : AluOp) (a v f : Byte) : Out8 :=
  match op with
  | .add => let o := add8 a v false; { r := o.r, f := sumFlags o o.r false }
  | .adc => let o := add8 a v (flagC f); { r := o.r, f := sumFlags o o.r false }
  | .sub => let o := sub8 a v false; { r := o.r, f := sumFlags o o.r true }
  | .sbc => let o := sub8 a v (flagC f); { r := o.r, f := sumFlags o o.r true }
  | .and => { r := a &&& v, f := logicFlags (a &&& v) true }
  | .xor => { r := a ^^^ v, f := logicFlags (a ^^^ v) false }
  | .or => { r := a ||| v, f := logicFlags (a ||| v) false }
  | .cp => let o := sub8 a v false; { r := a, f := sumFlags o v true }

/-- INC on a byte (R269): C is unaffected. -/
def inc8 (old f : Byte) : Out8 :=
  let res := old + 1
  { r := res, f := szxyF res res (loNibble old == 0xF) (old == 0x7F) false (flagC f) }

/-- DEC on a byte (R272): C is unaffected. -/
def dec8 (old f : Byte) : Out8 :=
  let res := old - 1
  { r := res, f := szxyF res res (loNibble old == 0x0) (old == 0x80) true (flagC f) }

/-! ### 16-bit arithmetic (R300 to R303) -/

/-- A 16-bit result and the new F. -/
structure Out16 where
  r : Word
  f : Byte
  deriving DecidableEq, Repr

/-- `ADD HL,ss` and `ADD XY,pp`: S, Z, PV unaffected (R300, R301). -/
def addPair16 (a b : Word) (f : Byte) : Out16 :=
  let o := add16 a b false
  let hi := hiByte o.r
  { r := o.r
    f := packF (s := flagS f) (z := flagZ f) (y := hi.getLsbD 5) (h := o.h) (x := hi.getLsbD 3)
      (pv := flagPV f) (n := false) (c := o.c) }

/-- All flags of a 16-bit sum or difference: Z over 16 bits, Y and X from the high byte (R302, R303). -/
def sumFlags16 (o : Sum16) (n : Bool) : Byte :=
  let hi := hiByte o.r
  packF (s := o.r.getLsbD 15) (z := o.r == 0) (y := hi.getLsbD 5) (h := o.h) (x := hi.getLsbD 3)
    (pv := o.v) (n := n) (c := o.c)

/-! ### DAA, CPL, NEG (R308 to R310) -/

/-- DAA (R308): the correction from A, C, H and N; N is unaffected. -/
def daa8 (a f : Byte) : Out8 :=
  let lo := loNibble a
  let low := flagH f || decide (9 < lo.toNat)
  let high := flagC f || decide (0x99 < a.toNat)
  let adj : Byte := (if low then 0x06 else 0x00) ||| (if high then 0x60 else 0x00)
  let r := if flagN f then a - adj else a + adj
  let hh := if flagN f then flagH f && decide (lo.toNat < 6) else decide (9 < lo.toNat)
  { r := r, f := szxyF r r hh (parity r) (flagN f) high }

/-- CPL (R309): S, Z, PV, C unaffected. -/
def cpl8 (a f : Byte) : Out8 :=
  { r := ~~~a
    f := packF (s := flagS f) (z := flagZ f) (y := (~~~a).getLsbD 5) (h := true)
      (x := (~~~a).getLsbD 3) (pv := flagPV f) (n := true) (c := flagC f) }

/-- NEG (R310). -/
def neg8 (a : Byte) : Out8 := let o := sub8 0x00 a false; { r := o.r, f := sumFlags o o.r true }

/-! ### Rotates and shifts (R330 to R334) -/

/-- The result and the carry out of row `op` of R334's table. -/
def rot8 (op : RotOp) (v : Byte) (cin : Bool) : Byte × Bool :=
  let left (b : Bool) : Byte := v.extractLsb' 0 7 ++ BitVec.ofBool b
  let right (b : Bool) : Byte := BitVec.ofBool b ++ v.extractLsb' 1 7
  match op with
  | .rlc => (left (v.getLsbD 7), v.getLsbD 7)
  | .rrc => (right (v.getLsbD 0), v.getLsbD 0)
  | .rl => (left cin, v.getLsbD 7)
  | .rr => (right cin, v.getLsbD 0)
  | .sla => (left false, v.getLsbD 7)
  | .sra => (right (v.getLsbD 7), v.getLsbD 0)
  | .sll => (left true, v.getLsbD 7)
  | .srl => (right false, v.getLsbD 0)

/-- A CB-space rotate or shift: all flags (R334). -/
def rotOut (op : RotOp) (v f : Byte) : Out8 :=
  let o := rot8 op v (flagC f)
  { r := o.1, f := szxyF o.1 o.1 false (parity o.1) false o.2 }

/-- An accumulator rotate: S, Z, PV unaffected (R330 to R333). -/
def rotAOut (op : RotOp) (a f : Byte) : Out8 :=
  let o := rot8 op a (flagC f)
  { r := o.1
    f := packF (s := flagS f) (z := flagZ f) (y := o.1.getLsbD 5) (h := false) (x := o.1.getLsbD 3)
      (pv := flagPV f) (n := false) (c := o.2) }

/-! ### Bit operations (R346 to R350) -/

/-- A bit number. -/
def bitIndex : BitNo → Nat
  | .b0 => 0 | .b1 => 1 | .b2 => 2 | .b3 => 3 | .b4 => 4 | .b5 => 5 | .b6 => 6 | .b7 => 7

/-- The flags of BIT on the byte `v`, Y and X from `src` (R346 to R348): C is unaffected. -/
def bitFlags (b : BitNo) (v src f : Byte) : Byte :=
  let t := v.getLsbD (bitIndex b)
  packF (s := b == .b7 && t) (z := !t) (y := src.getLsbD 5) (h := true) (x := src.getLsbD 3)
    (pv := !t) (n := false) (c := flagC f)

/-- `v & ~(1 << b)` (R349). -/
def resBit (b : BitNo) (v : Byte) : Byte := v &&& ~~~((1 : Byte) <<< bitIndex b)

/-- `v | (1 << b)` (R350). -/
def setBit (b : BitNo) (v : Byte) : Byte := v ||| ((1 : Byte) <<< bitIndex b)

/-! ### Loads, blocks, ports, carry (R223, R381, R385, R390, R453, R466, R486, R487) -/

/-- The flags of `LD A,I` and `LD A,R`: PV is IFF2 (R223). -/
def loadIrFlags (v : Byte) (iff2 : Bool) (f : Byte) : Byte := szxyF v v false iff2 false (flagC f)

/-- The flags of LDI and LDD: `n = t + A`, X is `n[3]`, Y is `n[1]`, PV is `BC != 0` after the
decrement (R381). -/
def blockLoadFlags (t a : Byte) (bc : Word) (f : Byte) : Byte :=
  let n := t + a
  packF (s := flagS f) (z := flagZ f) (y := n.getLsbD 1) (h := false) (x := n.getLsbD 3)
    (pv := bc != 0) (n := false) (c := flagC f)

/-- The flags of CPI and CPD: `n = r - h` (R385). -/
def blockCompareFlags (a t : Byte) (bc : Word) (f : Byte) : Byte :=
  let o := sub8 a t false
  let n := o.r - carryIn 8 o.h
  packF (s := o.r.getLsbD 7) (z := o.r == 0) (y := n.getLsbD 1) (h := o.h) (x := n.getLsbD 3)
    (pv := bc != 0) (n := true) (c := flagC f)

/-- The flags of RLD, RRD and `IN r,(C)`: the OR/XOR contract on `v`, C unaffected (R390, R453). -/
def logicKeepCarry (v f : Byte) : Byte := szxyF v v false (parity v) false (flagC f)

/-- `blockio_flags(v, b, k8)` (R466). -/
def blockIoFlags (v b k8 : Byte) : Byte :=
  let k : BitVec 9 := v.zeroExtend 9 + k8.zeroExtend 9
  szxyF b b (k.getLsbD 8) (parity ((k.extractLsb' 0 3).zeroExtend 8 ^^^ b)) (v.getLsbD 7) (k.getLsbD 8)

/-- `((Q xor F) or A)`, whose bits 5 and 3 SCF and CCF copy (R486). -/
def carryXy (q f a : Byte) : Byte := (q ^^^ f) ||| a

/-- The flags of SCF (R486). -/
def scfFlags (q f a : Byte) : Byte :=
  packF (s := flagS f) (z := flagZ f) (y := (carryXy q f a).getLsbD 5) (h := false)
    (x := (carryXy q f a).getLsbD 3) (pv := flagPV f) (n := false) (c := true)

/-- The flags of CCF: H receives the old carry (R487). -/
def ccfFlags (q f a : Byte) : Byte :=
  packF (s := flagS f) (z := flagZ f) (y := (carryXy q f a).getLsbD 5) (h := flagC f)
    (x := (carryXy q f a).getLsbD 3) (pv := flagPV f) (n := false) (c := !flagC f)

end Sys2Proof.Machine
end

