-- ==== Sys2Proof/Machine/Memory.lean ====
section
/-! DEFINITION. The 64 KB memory space (spec/20_memory.md R80, R82, R84): a list of (address, byte) pairs in
one canonical form, addresses strictly rising and no byte equal to what an unlisted address reads as,
so that equal memories are equal data. It is the plain RAM of log entry 1. -/

namespace Sys2Proof.Machine

/-- Memory contents. -/
abbrev Memory := List Host.Cell

/-- The byte at address `x`. -/
def Memory.readNat : Memory → Nat → Byte
  | [], _ => Config.unlistedByte
  | (a, v) :: m, x => if a = x then v else readNat m x

/-- Memory without the entries of `x`. -/
def Memory.eraseNat : Memory → Nat → Memory
  | [], _ => []
  | (a, w) :: m, x => if a = x then eraseNat m x else (a, w) :: eraseNat m x

/-- An entry for `x` put before the first entry of a higher address. -/
def Memory.insertNat : Memory → Nat → Byte → Memory
  | [], x, v => [(x, v)]
  | (a, w) :: m, x, v => if x < a then (x, v) :: (a, w) :: m else (a, w) :: insertNat m x v

/-- Memory with the byte at `x` replaced. A canonical form stays canonical; the byte reads back, and
the others as before, whatever the list. -/
def Memory.writeNat (m : Memory) (x : Nat) (v : Byte) : Memory :=
  if v = Config.unlistedByte then Memory.eraseNat m x
  else Memory.insertNat (Memory.eraseNat m x) x v

/-- The canonical form from address `lo` up: addresses rise strictly, all lie in the 64 KB space, and
no listed byte is the one an unlisted address reads as. -/
def Memory.wfFrom (lo : Nat) : Memory → Bool
  | [] => true
  | (a, v) :: m =>
    decide (lo ≤ a) && decide (a < 65536) && decide (v ≠ Config.unlistedByte) && wfFrom (a + 1) m

/-- The canonical form. -/
def Memory.wf (m : Memory) : Bool := m.wfFrom 0

/-- One change of what the memory bus exposes: an address and the byte it now holds. -/
abbrev MemChange := Word × Byte

/-- `MemRead(addr, 1)` of R82. -/
def Memory.read (m : Memory) (addr : Word) : Byte := m.readNat addr.toNat

/-- `MemWrite(addr, 1, v)` of R84. -/
def Memory.write (m : Memory) (addr : Word) (v : Byte) : Memory := m.writeNat addr.toNat v

/-- Memory once the bus exposes `changes`, made in order: a page switched in is the list of its bytes
(R80, R88). -/
def Memory.expose : Memory → List MemChange → Memory
  | m, [] => m
  | m, (a, v) :: rest => expose (m.write a v) rest

end Sys2Proof.Machine
end

