-- ==== Sys2Proof/Machine/State.lean ====
section
/-! DEFINITION. The machine's state, whole (spec/10_state.md), its stops, and its value after reset
(R55). -/

namespace Sys2Proof.Machine

/-- The interrupt mode IM: 0, 1 or 2 (R41; log entry 14). -/
inductive IntMode where
  | im0 | im1 | im2
  deriving DecidableEq, Repr

/-- Every piece of state of spec/10_state.md, the memory of R80, and the platform's side of the port bus
(R81, R88). Plain data. -/
structure State where
  /-- A, the accumulator (R30). -/
  a : Byte
  /-- F, the packed flags (R30, R38). -/
  f : Byte
  b : Byte
  c : Byte
  d : Byte
  e : Byte
  h : Byte
  l : Byte
  /-- A', the first register of the shadow bank (R31). -/
  a' : Byte
  f' : Byte
  b' : Byte
  c' : Byte
  d' : Byte
  e' : Byte
  h' : Byte
  l' : Byte
  /-- The index register IX (R33). -/
  ix : Word
  /-- The index register IY (R33). -/
  iy : Word
  /-- SP (R34). -/
  sp : Word
  /-- PC: the address of the next byte to fetch; during an action, of the opcode byte (R35). -/
  pc : Word
  /-- I, the interrupt vector's high byte (R36). -/
  i : Byte
  /-- R, the refresh counter (R37). -/
  r : Byte
  /-- IFF1 (R40). -/
  iff1 : Bool
  /-- IFF2 (R40). -/
  iff2 : Bool
  /-- IM (R41). -/
  im : IntMode
  /-- The halted latch (R42). -/
  halted : Bool
  /-- The one-shot skip-interrupt-check latch (R43). -/
  skipInt : Bool
  /-- The pending-prefix latch; `none` is the latch's value 0 (R44; log entry 14). -/
  pfx : Option Pfx
  /-- MEMPTR (R45). -/
  memptr : Word
  /-- The Q latch (R46). -/
  q : Byte
  /-- The last byte written to paging port A (R47). -/
  pageA : Byte
  /-- The last byte written to paging port B (R47). -/
  pageB : Byte
  /-- The fault latch: the index of the absent entry, or `none` (R48). -/
  fault : Option Nat
  /-- NMI-pending, owned by the platform, cleared on service (R49). -/
  nmiPending : Bool
  /-- INT-pending, owned by the platform, cleared on service (R49). -/
  intPending : Bool
  /-- The byte the platform associates with INT-pending (R49). -/
  intData : Byte
  /-- The 64 KB memory (R80). -/
  mem : Memory
  /-- The model's own: the bytes the platform will answer to the coming port reads, oldest first; when
  it is empty the answer is the free value `Config.portIn` (R88, log entry 4). -/
  portInputs : List Byte
  /-- The model's own: the port accesses made so far, newest first, the history of R5's `PortIn`
  (log entry 4). -/
  portHist : List PortEvent
  /-- The model's own: what the platform's port-write hook will do at the coming port writes, the next
  one first: the bytes it makes the memory bus expose. When the list is empty there is no hook, which
  R88 calls optional (R88, R451; log entry 19). -/
  portHooks : List (List MemChange)
  deriving DecidableEq, Repr

/-- Why the machine has no step. -/
inductive Fault where
  /-- Raised by `step` on a core whose fault latch holds `idx`: "a core with fault != none has no
  further step" (R501). Safe: nothing is proved past it. -/
  | unimplementedOpcode (idx : Nat)
  deriving DecidableEq, Repr

/-- Why the model gives no meaning. -/
inductive Refusal where
  /-- Raised by an arm of `exec` whose instruction has no meaning yet. Safe. No arm raises it. -/
  | notModelled (mnemonic : String)
  deriving DecidableEq, Repr

/-- What an instruction, or a step, answers. -/
abbrev Result := Host.Outcome State Fault Refusal

/-- The state right after reset (R55, R550, R551). Values the spec does not give: PC (log entry 7),
`pageA` and `pageB` (log entry 8), the interrupt line (log entry 9), memory (log entry 1), the model's
own port fields (log entries 4, 19). -/
def State.reset : State where
  a := 0xFF
  f := 0xFF
  b := 0x00
  c := 0x00
  d := 0x00
  e := 0x00
  h := 0x00
  l := 0x00
  a' := 0xFF
  f' := 0xFF
  b' := 0x00
  c' := 0x00
  d' := 0x00
  e' := 0x00
  h' := 0x00
  l' := 0x00
  ix := 0x0000
  iy := 0x0000
  sp := 0xFFFF
  pc := Config.resetPc
  i := 0x00
  r := 0x00
  iff1 := false
  iff2 := false
  im := .im0
  halted := false
  skipInt := false
  pfx := none
  memptr := 0x0000
  q := 0x00
  pageA := 0x00
  pageB := 0x00
  fault := none
  nmiPending := false
  intPending := false
  intData := 0xFF
  mem := []
  portInputs := []
  portHist := []
  portHooks := []

end Sys2Proof.Machine
end

