-- ==== Sys2Proof/Machine/Ops.lean ====
section
/-! DEFINITION. The named operations over registers, memory, the stack and the ports, the latch updates
every action ends with, and taking and leaving an interrupt (spec/10_state.md R30 to R49,
spec/20_memory.md R82 to R88, spec/47_io.md R451, spec/60_exceptions.md R501 to R526). -/

namespace Sys2Proof.Machine

/-! ### Registers (R7, R30 to R34) -/

/-- `r8[c]`. -/
def State.r8 (s : State) : R8 → Byte
  | .b => s.b | .c => s.c | .d => s.d | .e => s.e | .h => s.h | .l => s.l | .a => s.a

/-- `r8[c] <- v`. -/
def State.setR8 (s : State) (r : R8) (v : Byte) : State :=
  match r with
  | .b => { s with b := v }
  | .c => { s with c := v }
  | .d => { s with d := v }
  | .e => { s with e := v }
  | .h => { s with h := v }
  | .l => { s with l := v }
  | .a => { s with a := v }

/-- The register a code keeps in the DD/FD spaces (R214). -/
def plainR8 : Plain → R8
  | .b => .b | .c => .c | .d => .d | .e => .e | .a => .a

/-- `BC = {B, C}` (R32). -/
def State.bc (s : State) : Word := mkWord s.b s.c
/-- `DE = {D, E}` (R32). -/
def State.de (s : State) : Word := mkWord s.d s.e
/-- `HL = {H, L}` (R32). -/
def State.hl (s : State) : Word := mkWord s.h s.l
/-- `AF = {A, F}` (R32). -/
def State.af (s : State) : Word := mkWord s.a s.f

def State.setBc (s : State) (v : Word) : State := { s with b := hiByte v, c := loByte v }
def State.setDe (s : State) (v : Word) : State := { s with d := hiByte v, e := loByte v }
def State.setHl (s : State) (v : Word) : State := { s with h := hiByte v, l := loByte v }
def State.setAf (s : State) (v : Word) : State := { s with a := hiByte v, f := loByte v }

/-- `rp[p]`. -/
def State.pair (s : State) : Pair → Word
  | .bc => s.bc | .de => s.de | .hl => s.hl | .sp => s.sp

/-- `rp[p] <- v`. -/
def State.setPair (s : State) (p : Pair) (v : Word) : State :=
  match p with
  | .bc => s.setBc v | .de => s.setDe v | .hl => s.setHl v | .sp => { s with sp := v }

/-- `rp2[p]`. -/
def State.pair2 (s : State) : Pair2 → Word
  | .bc => s.bc | .de => s.de | .hl => s.hl | .af => s.af

/-- `rp2[p] <- v`. -/
def State.setPair2 (s : State) (p : Pair2) (v : Word) : State :=
  match p with
  | .bc => s.setBc v | .de => s.setDe v | .hl => s.setHl v | .af => s.setAf v

/-- `XY`: IX or IY (R7). -/
def State.xy (s : State) : Xy → Word
  | .ix => s.ix | .iy => s.iy

/-- `XY <- v`. -/
def State.setXy (s : State) (x : Xy) (v : Word) : State :=
  match x with
  | .ix => { s with ix := v } | .iy => { s with iy := v }

/-- `XYH` or `XYL` (R33). -/
def State.half (s : State) (x : Xy) (h : Half) : Byte :=
  match h with
  | .hi => hiByte (s.xy x) | .lo => loByte (s.xy x)

/-- `XYH <- v` or `XYL <- v`; the other half is kept (R33). -/
def State.setHalf (s : State) (x : Xy) (h : Half) (v : Byte) : State :=
  match h with
  | .hi => s.setXy x (mkWord v (loByte (s.xy x)))
  | .lo => s.setXy x (mkWord (hiByte (s.xy x)) v)

/-- The second operand of `ADD XY,pp` (R301). -/
def State.addPair (s : State) (x : Xy) : AddPair → Word
  | .bc => s.bc | .de => s.de | .xy => s.xy x | .sp => s.sp

/-- `IncR(k)` of R37: bit 7 is kept, the low seven bits wrap. -/
def incR (k : BitVec 7) (r : Byte) : Byte := BitVec.ofBool r.msb ++ (r.extractLsb' 0 7 + k)

/-! ### Memory (R82 to R87) -/

/-- `MemRead(addr, 1)` (R82). No side effect: DESIGN CHOICE, log entry 2. -/
def State.memRead (s : State) (addr : Word) : Byte := s.mem.read addr

/-- `MemRead(addr, 2)`: little-endian, the high byte from `addr + 1` modulo 65,536 (R83). -/
def State.memRead2 (s : State) (addr : Word) : Word := mkWord (s.memRead (addr + 1)) (s.memRead addr)

/-- `MemWrite(addr, 1, v)` (R84). Plain RAM: DESIGN CHOICE, log entry 2. -/
def State.memWrite (s : State) (addr : Word) (v : Byte) : State := { s with mem := s.mem.write addr v }

/-- `MemWrite(addr, 2, v)`: the low byte at `addr`, then the high byte at `addr + 1` (R85). -/
def State.memWrite2 (s : State) (addr : Word) (v : Word) : State :=
  (s.memWrite addr (loByte v)).memWrite (addr + 1) (hiByte v)

/-- `Push16(v)`: the high byte at SP - 1, then the low byte at SP - 2 (R86; log entry 3). -/
def State.push16 (s : State) (v : Word) : State :=
  let s1 := ({ s with sp := s.sp - 1 }).memWrite (s.sp - 1) (hiByte v)
  ({ s1 with sp := s1.sp - 1 }).memWrite (s1.sp - 1) (loByte v)

/-- The word `Pop16()` returns (R87). -/
def State.popValue (s : State) : Word := mkWord (s.memRead (s.sp + 1)) (s.memRead s.sp)

/-- The state after `Pop16()`: SP has moved up by 2, memory is unchanged (R87). -/
def State.popped (s : State) : State := { s with sp := s.sp + 2 }

/-! ### Ports (R81, R88, R451) -/

/-- The byte the platform answers to a port read at `pa` now (R88): the next byte of `portInputs`, or
the free value of log entry 4. -/
def State.portValue (s : State) (pa : Word) : Byte :=
  match s.portInputs with
  | v :: _ => v
  | [] => Config.portIn pa s.portHist

/-- The state after `PortRead(pa)`: one access (R88). -/
def State.afterPortRead (s : State) (pa : Word) : State :=
  { s with portInputs := s.portInputs.tail, portHist := .read pa (s.portValue pa) :: s.portHist }

/-- Memory after the port-write hook has run: the changes that head `portHooks` are exposed, and there
are none without a hook (R88; log entry 19). -/
def State.hookedMem (s : State) : Memory := s.mem.expose (s.portHooks.headD [])

/-- `PortWrite(pa, v)`, then the paging-latch recording, then the platform's hook, so that the next
memory access of the same step, the interrupt controller's included, finds what the hook exposed
(R88, R451; the predicates are log entry 5, the hook is log entry 19). -/
def State.portWrite (s : State) (pa : Word) (v : Byte) : State :=
  { s with
    pageA := if Config.pagingPortA pa then v else s.pageA
    pageB := if Config.pagingPortB pa then v else s.pageB
    portHist := .write pa v :: s.portHist
    mem := s.hookedMem
    portHooks := s.portHooks.tail }

/-! ### How an action ends (R46, R157) -/

/-- An action that writes no flag through the flag logic and does not reposition PC: `Q <- 0`, PC
advances by `len`. -/
def State.done (s : State) (len : Word) : Result := .next { s with q := 0, pc := s.pc + len }

/-- An action whose Flags line writes `flags`: F, then `Q <- F`, and PC advances by `len`. -/
def State.doneFlags (s : State) (flags : Byte) (len : Word) : Result :=
  .next { s with f := flags, q := flags, pc := s.pc + len }

/-- An action that repositions PC and writes no flag: `Q <- 0`, `PC <- target` (R9). -/
def State.goto (s : State) (target : Word) : Result := .next { s with q := 0, pc := target }

/-- An action that writes flags and repositions PC (R380). -/
def State.gotoFlags (s : State) (flags : Byte) (target : Word) : Result :=
  .next { s with f := flags, q := flags, pc := target }

/-! ### Taking an interrupt, and the return (R500 to R526) -/

/-- The transfer every vectored entry makes: the PC of the next instruction is pushed, then control goes
to the address `target` finds in the state after the push, which MEMPTR records (R505, R511 to R514,
R517). -/
def State.enterHandler (s : State) (target : State → Word) : State :=
  let s1 := s.push16 s.pc
  { s1 with pc := target s1, memptr := target s1 }

/-- NMI acceptance (R505; it differs from the real part, log entry 16). -/
def State.acceptNmi (s : State) : State :=
  let s1 := ({ s with halted := false }).enterHandler (fun _ => 0x0066)
  { s1 with iff2 := s.iff1, iff1 := false, q := 0, nmiPending := false }

/-- The dispatch of a maskable interrupt by mode (R510 to R515; the spec's decisions, log entry 15). -/
def State.enterByMode (s : State) : State :=
  match s.im with
  | .im0 =>
    if s.intData &&& 0xC7 = 0xC7 then
      s.enterHandler (fun _ => mkWord 0x00 (s.intData &&& 0x38))
    else if s.intData = 0xCD then s.enterHandler (fun s1 => s1.memRead2 s.pc)
    else s
  | .im1 => s.enterHandler (fun _ => 0x0038)
  | .im2 => s.enterHandler (fun s1 => s1.memRead2 (mkWord s.i s.intData))

/-- INT acceptance, common part (R506). -/
def State.acceptInt (s : State) : State :=
  let s1 := ({ s with halted := false, iff1 := false, iff2 := false }).enterByMode
  { s1 with intPending := false, q := 0 }

/-- `InterruptController()` (R526, R504, R516). -/
def State.interruptController (s : State) : State :=
  if s.skipInt then s
  else if s.nmiPending then s.acceptNmi
  else if s.intPending && s.iff1 then s.acceptInt
  else s

/-- The return of RETI and RETN: PC is popped and `IFF1 <- IFF2` (R422, R423, R518). -/
def State.returnFromInterrupt (s : State) : Result :=
  ({ s.popped with memptr := s.popValue, iff1 := s.iff2 }).goto s.popValue

/-- `raise UnimplementedOpcode(idx)`: the prefix latch was consumed, the fault latch is set, nothing
else changes (R163, R501; log entry 13). -/
def State.raiseUnimplemented (s : State) (idx : Nat) : State :=
  { s with pfx := none, fault := some idx }

end Sys2Proof.Machine
end

