-- ==== Sys2Proof/Machine/Operands.lean ====
section
/-! DEFINITION. Every operand form (spec/42_alu8.md R260, R269 to R276; spec/44_rotate_shift_bit.md R343,
R346 to R348, R351), the effective address and the relative target (spec/30_encoding.md R116), and the
conditions (spec/46_control_transfer_stack.md R410). -/

namespace Sys2Proof.Machine

/-- `ea = XY + sext_16(d)`, modulo 65,536 (R116, R203). -/
def State.ea (s : State) (x : Xy) (d : Byte) : Word := s.xy x + sext16 d

/-- `PC + 2 + sext_16(e)` (R116, R413). -/
def State.relTarget (s : State) (e : Byte) : Word := s.pc + 2 + sext16 e

/-- `MEMPTR <- v`. -/
def State.setMemptr (s : State) (v : Word) : State := { s with memptr := v }

/-! ### `s` of the accumulator operations (R260) -/

/-- The operand value. -/
def readSrc8 (src : Src8) (s : State) : Byte :=
  match src with
  | .r r => s.r8 r
  | .n n => n
  | .hl => s.memRead s.hl
  | .idx x d => s.memRead (s.ea x d)
  | .half x h => s.half x h

/-- The form's effect on MEMPTR. -/
def latchSrc8 (src : Src8) (s : State) : State :=
  match src with
  | .r _ => s
  | .n _ => s
  | .hl => s
  | .idx x d => s.setMemptr (s.ea x d)
  | .half _ _ => s

/-- The `len` of the form's last step. -/
def lenSrc8 (src : Src8) : Word :=
  match src with
  | .r _ => 1
  | .n _ => 2
  | .hl => 1
  | .idx _ _ => 2
  | .half _ _ => 1

/-! ### The operand of INC and DEC (R269 to R276) -/

/-- The operand value. -/
def readDst8 (dst : Dst8) (s : State) : Byte :=
  match dst with
  | .r r => s.r8 r
  | .hl => s.memRead s.hl
  | .idx x d => s.memRead (s.ea x d)
  | .half x h => s.half x h

/-- The result written back, and the form's effect on MEMPTR. -/
def writeDst8 (dst : Dst8) (v : Byte) (s : State) : State :=
  match dst with
  | .r r => s.setR8 r v
  | .hl => s.memWrite s.hl v
  | .idx x d => (s.memWrite (s.ea x d) v).setMemptr (s.ea x d)
  | .half x h => s.setHalf x h v

/-- The `len` of the form's last step. -/
def lenDst8 (dst : Dst8) : Word :=
  match dst with
  | .r _ => 1
  | .hl => 1
  | .idx _ _ => 2
  | .half _ _ => 1

/-! ### `m` of the CB-space operations (R343, R351) -/

/-- The operand value. -/
def readM8 (m : M8) (s : State) : Byte :=
  match m with
  | .r r => s.r8 r
  | .hl => s.memRead s.hl
  | .idx x d => s.memRead (s.ea x d)
  | .idxCopy x d _ => s.memRead (s.ea x d)

/-- The form's effect on MEMPTR. -/
def latchM8 (m : M8) (s : State) : State :=
  match m with
  | .r _ => s
  | .hl => s
  | .idx x d => s.setMemptr (s.ea x d)
  | .idxCopy x d _ => s.setMemptr (s.ea x d)

/-- The result written back: to the register, to memory, or to memory and then also to the register of
the register-copy form (R351); and the form's effect on MEMPTR. -/
def writeM8 (m : M8) (v : Byte) (s : State) : State :=
  match m with
  | .r r => s.setR8 r v
  | .hl => s.memWrite s.hl v
  | .idx x d => (s.memWrite (s.ea x d) v).setMemptr (s.ea x d)
  | .idxCopy x d r => ((s.memWrite (s.ea x d) v).setMemptr (s.ea x d)).setR8 r v

/-- The `len` of the form's last step (R154, R343). -/
def lenM8 (m : M8) : Word :=
  match m with
  | .r _ => 1
  | .hl => 1
  | .idx _ _ => 3
  | .idxCopy _ _ _ => 3

/-! ### Conditions (R410) -/

/-- Whether `cc` holds in F. -/
def condHolds (cc : Cond) (f : Byte) : Bool :=
  match cc with
  | .nz => !flagZ f
  | .z => flagZ f
  | .nc => !flagC f
  | .c => flagC f
  | .po => !flagPV f
  | .pe => flagPV f
  | .p => !flagS f
  | .m => flagS f

/-- The condition of a `JR cc` as a `cc`. -/
def jrCondition : JrCond → Cond
  | .nz => .nz | .z => .z | .nc => .nc | .c => .c

/-- The address step of a block instruction: + 1 or - 1 (R381, R382). -/
def dirStep : Dir → Word
  | .inc => 1 | .dec => 0xFFFF

/-- The same step in 8 bits, for `(C + 1)` and `(C - 1)` (R466). -/
def dirStep8 : Dir → Byte
  | .inc => 1 | .dec => 0xFF

end Sys2Proof.Machine
end

