-- ==== Sys2Proof/Machine/Alu16.lean ====
section
/-! DEFINITION. 16-bit arithmetic, DAA, CPL, NEG (spec/43_alu16_daa_misc.md R300 to R310): the shared
operations, then one meaning per row. -/

namespace Sys2Proof.Machine

/-- `ADD HL,ss`: `MEMPTR <- HL + 1`, with HL before the sum (R300). -/
def addHlPair (p : Pair) (s : State) : Result :=
  let o := addPair16 s.hl (s.pair p) s.f
  ((s.setHl o.r).setMemptr (s.hl + 1)).doneFlags o.f 1

/-- `ADD XY,pp` (R301). -/
def addXyPair (xy : Xy) (p : AddPair) (s : State) : Result :=
  let o := addPair16 (s.xy xy) (s.addPair xy p) s.f
  ((s.setXy xy o.r).setMemptr (s.xy xy + 1)).doneFlags o.f 1

/-- `ADC HL,ss` (R302). -/
def adcHlPair (p : Pair) (s : State) : Result :=
  let o := add16 s.hl (s.pair p) (flagC s.f)
  ((s.setHl o.r).setMemptr (s.hl + 1)).doneFlags (sumFlags16 o false) 1

/-- `SBC HL,ss` (R303). -/
def sbcHlPair (p : Pair) (s : State) : Result :=
  let o := sub16 s.hl (s.pair p) (flagC s.f)
  ((s.setHl o.r).setMemptr (s.hl + 1)).doneFlags (sumFlags16 o true) 1

/-- `INC ss` (R304). -/
def incrementPair (p : Pair) (s : State) : Result := (s.setPair p (s.pair p + 1)).done 1
/-- `DEC ss` (R305). -/
def decrementPair (p : Pair) (s : State) : Result := (s.setPair p (s.pair p - 1)).done 1
/-- `INC XY` (R306). -/
def incrementXy (xy : Xy) (s : State) : Result := (s.setXy xy (s.xy xy + 1)).done 1
/-- `DEC XY` (R307). -/
def decrementXy (xy : Xy) (s : State) : Result := (s.setXy xy (s.xy xy - 1)).done 1

/-- `DAA` (R308). -/
def decimalAdjust (s : State) : Result :=
  let o := daa8 s.a s.f
  ({ s with a := o.r }).doneFlags o.f 1

/-- `CPL` (R309). -/
def complementA (s : State) : Result :=
  let o := cpl8 s.a s.f
  ({ s with a := o.r }).doneFlags o.f 1

/-- `NEG`: the documented encoding is `y = 0`; the mirrors are identical in every effect (R310). -/
def negate (_y : BitNo) (s : State) : Result :=
  let o := neg8 s.a
  ({ s with a := o.r }).doneFlags o.f 1

/-! ### The rows -/

/-- `INC BC` (R304). -/
def exec_inc_bc (s : State) : Result := incrementPair .bc s
/-- `ADD HL,BC` (R300). -/
def exec_add_hl_bc (s : State) : Result := addHlPair .bc s
/-- `DEC BC` (R305). -/
def exec_dec_bc (s : State) : Result := decrementPair .bc s
/-- `INC DE` (R304). -/
def exec_inc_de (s : State) : Result := incrementPair .de s
/-- `ADD HL,DE` (R300). -/
def exec_add_hl_de (s : State) : Result := addHlPair .de s
/-- `DEC DE` (R305). -/
def exec_dec_de (s : State) : Result := decrementPair .de s
/-- `INC HL` (R304). -/
def exec_inc_hl (s : State) : Result := incrementPair .hl s
/-- `DAA` (R308). -/
def exec_daa (s : State) : Result := decimalAdjust s
/-- `ADD HL,HL` (R300). -/
def exec_add_hl_hl (s : State) : Result := addHlPair .hl s
/-- `DEC HL` (R305). -/
def exec_dec_hl (s : State) : Result := decrementPair .hl s
/-- `CPL` (R309). -/
def exec_cpl (s : State) : Result := complementA s
/-- `INC SP` (R304). -/
def exec_inc_sp (s : State) : Result := incrementPair .sp s
/-- `ADD HL,SP` (R300). -/
def exec_add_hl_sp (s : State) : Result := addHlPair .sp s
/-- `DEC SP` (R305). -/
def exec_dec_sp (s : State) : Result := decrementPair .sp s
/-- `SBC HL,BC` (R303). -/
def exec_sbc_hl_bc (s : State) : Result := sbcHlPair .bc s
/-- `NEG` (R310). -/
def exec_neg (s : State) : Result := negate .b0 s
/-- `ADC HL,BC` (R302). -/
def exec_adc_hl_bc (s : State) : Result := adcHlPair .bc s
/-- `NEG` (R310). -/
def exec_neg_ED4C (s : State) : Result := negate .b1 s
/-- `SBC HL,DE` (R303). -/
def exec_sbc_hl_de (s : State) : Result := sbcHlPair .de s
/-- `NEG` (R310). -/
def exec_neg_ED54 (s : State) : Result := negate .b2 s
/-- `ADC HL,DE` (R302). -/
def exec_adc_hl_de (s : State) : Result := adcHlPair .de s
/-- `NEG` (R310). -/
def exec_neg_ED5C (s : State) : Result := negate .b3 s
/-- `SBC HL,HL` (R303). -/
def exec_sbc_hl_hl (s : State) : Result := sbcHlPair .hl s
/-- `NEG` (R310). -/
def exec_neg_ED64 (s : State) : Result := negate .b4 s
/-- `ADC HL,HL` (R302). -/
def exec_adc_hl_hl (s : State) : Result := adcHlPair .hl s
/-- `NEG` (R310). -/
def exec_neg_ED6C (s : State) : Result := negate .b5 s
/-- `SBC HL,SP` (R303). -/
def exec_sbc_hl_sp (s : State) : Result := sbcHlPair .sp s
/-- `NEG` (R310). -/
def exec_neg_ED74 (s : State) : Result := negate .b6 s
/-- `ADC HL,SP` (R302). -/
def exec_adc_hl_sp (s : State) : Result := adcHlPair .sp s
/-- `NEG` (R310). -/
def exec_neg_ED7C (s : State) : Result := negate .b7 s
/-- `ADD IX,BC` (R301). -/
def exec_add_ix_bc (s : State) : Result := addXyPair .ix .bc s
/-- `ADD IX,DE` (R301). -/
def exec_add_ix_de (s : State) : Result := addXyPair .ix .de s
/-- `INC IX` (R306). -/
def exec_inc_ix (s : State) : Result := incrementXy .ix s
/-- `ADD IX,IX` (R301). -/
def exec_add_ix_ix (s : State) : Result := addXyPair .ix .xy s
/-- `DEC IX` (R307). -/
def exec_dec_ix (s : State) : Result := decrementXy .ix s
/-- `ADD IX,SP` (R301). -/
def exec_add_ix_sp (s : State) : Result := addXyPair .ix .sp s
/-- `ADD IY,BC` (R301). -/
def exec_add_iy_bc (s : State) : Result := addXyPair .iy .bc s
/-- `ADD IY,DE` (R301). -/
def exec_add_iy_de (s : State) : Result := addXyPair .iy .de s
/-- `INC IY` (R306). -/
def exec_inc_iy (s : State) : Result := incrementXy .iy s
/-- `ADD IY,IY` (R301). -/
def exec_add_iy_iy (s : State) : Result := addXyPair .iy .xy s
/-- `DEC IY` (R307). -/
def exec_dec_iy (s : State) : Result := decrementXy .iy s
/-- `ADD IY,SP` (R301). -/
def exec_add_iy_sp (s : State) : Result := addXyPair .iy .sp s

end Sys2Proof.Machine
end

