-- ==== Sys2Proof/Machine/Alu8.lean ====
section
/-! DEFINITION. 8-bit arithmetic and logic (spec/42_alu8.md R260 to R276): the shared operations, then one
meaning per row. -/

namespace Sys2Proof.Machine

/-- An accumulator operation: the operand is read, then A and F are written (R260 to R268). -/
def aluAccumulator (op : AluOp) (src : Src8) (s : State) : Result :=
  let o := alu8 op s.a (readSrc8 src s) s.f
  ({ latchSrc8 src s with a := o.r }).doneFlags o.f (lenSrc8 src)

/-- `INC` on a byte (R269 to R271, R275). -/
def increment8 (dst : Dst8) (s : State) : Result :=
  let o := inc8 (readDst8 dst s) s.f
  (writeDst8 dst o.r s).doneFlags o.f (lenDst8 dst)

/-- `DEC` on a byte (R272 to R274, R276). -/
def decrement8 (dst : Dst8) (s : State) : Result :=
  let o := dec8 (readDst8 dst s) s.f
  (writeDst8 dst o.r s).doneFlags o.f (lenDst8 dst)

/-! ### The rows -/

/-- `INC B` (R269). -/
def exec_inc_b (s : State) : Result := increment8 (.r .b) s
/-- `DEC B` (R272). -/
def exec_dec_b (s : State) : Result := decrement8 (.r .b) s
/-- `INC C` (R269). -/
def exec_inc_c (s : State) : Result := increment8 (.r .c) s
/-- `DEC C` (R272). -/
def exec_dec_c (s : State) : Result := decrement8 (.r .c) s
/-- `INC D` (R269). -/
def exec_inc_d (s : State) : Result := increment8 (.r .d) s
/-- `DEC D` (R272). -/
def exec_dec_d (s : State) : Result := decrement8 (.r .d) s
/-- `INC E` (R269). -/
def exec_inc_e (s : State) : Result := increment8 (.r .e) s
/-- `DEC E` (R272). -/
def exec_dec_e (s : State) : Result := decrement8 (.r .e) s
/-- `INC H` (R269). -/
def exec_inc_h (s : State) : Result := increment8 (.r .h) s
/-- `DEC H` (R272). -/
def exec_dec_h (s : State) : Result := decrement8 (.r .h) s
/-- `INC L` (R269). -/
def exec_inc_l (s : State) : Result := increment8 (.r .l) s
/-- `DEC L` (R272). -/
def exec_dec_l (s : State) : Result := decrement8 (.r .l) s
/-- `INC (HL)` (R270). -/
def exec_inc_mhl (s : State) : Result := increment8 .hl s
/-- `DEC (HL)` (R273). -/
def exec_dec_mhl (s : State) : Result := decrement8 .hl s
/-- `INC A` (R269). -/
def exec_inc_a (s : State) : Result := increment8 (.r .a) s
/-- `DEC A` (R272). -/
def exec_dec_a (s : State) : Result := decrement8 (.r .a) s
/-- `ADD A,B` (R261). -/
def exec_add_a_b (s : State) : Result := aluAccumulator .add (.r .b) s
/-- `ADD A,C` (R261). -/
def exec_add_a_c (s : State) : Result := aluAccumulator .add (.r .c) s
/-- `ADD A,D` (R261). -/
def exec_add_a_d (s : State) : Result := aluAccumulator .add (.r .d) s
/-- `ADD A,E` (R261). -/
def exec_add_a_e (s : State) : Result := aluAccumulator .add (.r .e) s
/-- `ADD A,H` (R261). -/
def exec_add_a_h (s : State) : Result := aluAccumulator .add (.r .h) s
/-- `ADD A,L` (R261). -/
def exec_add_a_l (s : State) : Result := aluAccumulator .add (.r .l) s
/-- `ADD A,(HL)` (R261). -/
def exec_add_a_mhl (s : State) : Result := aluAccumulator .add .hl s
/-- `ADD A,A` (R261). -/
def exec_add_a_a (s : State) : Result := aluAccumulator .add (.r .a) s
/-- `ADC A,B` (R262). -/
def exec_adc_a_b (s : State) : Result := aluAccumulator .adc (.r .b) s
/-- `ADC A,C` (R262). -/
def exec_adc_a_c (s : State) : Result := aluAccumulator .adc (.r .c) s
/-- `ADC A,D` (R262). -/
def exec_adc_a_d (s : State) : Result := aluAccumulator .adc (.r .d) s
/-- `ADC A,E` (R262). -/
def exec_adc_a_e (s : State) : Result := aluAccumulator .adc (.r .e) s
/-- `ADC A,H` (R262). -/
def exec_adc_a_h (s : State) : Result := aluAccumulator .adc (.r .h) s
/-- `ADC A,L` (R262). -/
def exec_adc_a_l (s : State) : Result := aluAccumulator .adc (.r .l) s
/-- `ADC A,(HL)` (R262). -/
def exec_adc_a_mhl (s : State) : Result := aluAccumulator .adc .hl s
/-- `ADC A,A` (R262). -/
def exec_adc_a_a (s : State) : Result := aluAccumulator .adc (.r .a) s
/-- `SUB B` (R263). -/
def exec_sub_b (s : State) : Result := aluAccumulator .sub (.r .b) s
/-- `SUB C` (R263). -/
def exec_sub_c (s : State) : Result := aluAccumulator .sub (.r .c) s
/-- `SUB D` (R263). -/
def exec_sub_d (s : State) : Result := aluAccumulator .sub (.r .d) s
/-- `SUB E` (R263). -/
def exec_sub_e (s : State) : Result := aluAccumulator .sub (.r .e) s
/-- `SUB H` (R263). -/
def exec_sub_h (s : State) : Result := aluAccumulator .sub (.r .h) s
/-- `SUB L` (R263). -/
def exec_sub_l (s : State) : Result := aluAccumulator .sub (.r .l) s
/-- `SUB (HL)` (R263). -/
def exec_sub_mhl (s : State) : Result := aluAccumulator .sub .hl s
/-- `SUB A` (R263). -/
def exec_sub_a (s : State) : Result := aluAccumulator .sub (.r .a) s
/-- `SBC A,B` (R264). -/
def exec_sbc_a_b (s : State) : Result := aluAccumulator .sbc (.r .b) s
/-- `SBC A,C` (R264). -/
def exec_sbc_a_c (s : State) : Result := aluAccumulator .sbc (.r .c) s
/-- `SBC A,D` (R264). -/
def exec_sbc_a_d (s : State) : Result := aluAccumulator .sbc (.r .d) s
/-- `SBC A,E` (R264). -/
def exec_sbc_a_e (s : State) : Result := aluAccumulator .sbc (.r .e) s
/-- `SBC A,H` (R264). -/
def exec_sbc_a_h (s : State) : Result := aluAccumulator .sbc (.r .h) s
/-- `SBC A,L` (R264). -/
def exec_sbc_a_l (s : State) : Result := aluAccumulator .sbc (.r .l) s
/-- `SBC A,(HL)` (R264). -/
def exec_sbc_a_mhl (s : State) : Result := aluAccumulator .sbc .hl s
/-- `SBC A,A` (R264). -/
def exec_sbc_a_a (s : State) : Result := aluAccumulator .sbc (.r .a) s
/-- `AND B` (R265). -/
def exec_and_b (s : State) : Result := aluAccumulator .and (.r .b) s
/-- `AND C` (R265). -/
def exec_and_c (s : State) : Result := aluAccumulator .and (.r .c) s
/-- `AND D` (R265). -/
def exec_and_d (s : State) : Result := aluAccumulator .and (.r .d) s
/-- `AND E` (R265). -/
def exec_and_e (s : State) : Result := aluAccumulator .and (.r .e) s
/-- `AND H` (R265). -/
def exec_and_h (s : State) : Result := aluAccumulator .and (.r .h) s
/-- `AND L` (R265). -/
def exec_and_l (s : State) : Result := aluAccumulator .and (.r .l) s
/-- `AND (HL)` (R265). -/
def exec_and_mhl (s : State) : Result := aluAccumulator .and .hl s
/-- `AND A` (R265). -/
def exec_and_a (s : State) : Result := aluAccumulator .and (.r .a) s
/-- `XOR B` (R266). -/
def exec_xor_b (s : State) : Result := aluAccumulator .xor (.r .b) s
/-- `XOR C` (R266). -/
def exec_xor_c (s : State) : Result := aluAccumulator .xor (.r .c) s
/-- `XOR D` (R266). -/
def exec_xor_d (s : State) : Result := aluAccumulator .xor (.r .d) s
/-- `XOR E` (R266). -/
def exec_xor_e (s : State) : Result := aluAccumulator .xor (.r .e) s
/-- `XOR H` (R266). -/
def exec_xor_h (s : State) : Result := aluAccumulator .xor (.r .h) s
/-- `XOR L` (R266). -/
def exec_xor_l (s : State) : Result := aluAccumulator .xor (.r .l) s
/-- `XOR (HL)` (R266). -/
def exec_xor_mhl (s : State) : Result := aluAccumulator .xor .hl s
/-- `XOR A` (R266). -/
def exec_xor_a (s : State) : Result := aluAccumulator .xor (.r .a) s
/-- `OR B` (R267). -/
def exec_or_b (s : State) : Result := aluAccumulator .or (.r .b) s
/-- `OR C` (R267). -/
def exec_or_c (s : State) : Result := aluAccumulator .or (.r .c) s
/-- `OR D` (R267). -/
def exec_or_d (s : State) : Result := aluAccumulator .or (.r .d) s
/-- `OR E` (R267). -/
def exec_or_e (s : State) : Result := aluAccumulator .or (.r .e) s
/-- `OR H` (R267). -/
def exec_or_h (s : State) : Result := aluAccumulator .or (.r .h) s
/-- `OR L` (R267). -/
def exec_or_l (s : State) : Result := aluAccumulator .or (.r .l) s
/-- `OR (HL)` (R267). -/
def exec_or_mhl (s : State) : Result := aluAccumulator .or .hl s
/-- `OR A` (R267). -/
def exec_or_a (s : State) : Result := aluAccumulator .or (.r .a) s
/-- `CP B` (R268). -/
def exec_cp_b (s : State) : Result := aluAccumulator .cp (.r .b) s
/-- `CP C` (R268). -/
def exec_cp_c (s : State) : Result := aluAccumulator .cp (.r .c) s
/-- `CP D` (R268). -/
def exec_cp_d (s : State) : Result := aluAccumulator .cp (.r .d) s
/-- `CP E` (R268). -/
def exec_cp_e (s : State) : Result := aluAccumulator .cp (.r .e) s
/-- `CP H` (R268). -/
def exec_cp_h (s : State) : Result := aluAccumulator .cp (.r .h) s
/-- `CP L` (R268). -/
def exec_cp_l (s : State) : Result := aluAccumulator .cp (.r .l) s
/-- `CP (HL)` (R268). -/
def exec_cp_mhl (s : State) : Result := aluAccumulator .cp .hl s
/-- `CP A` (R268). -/
def exec_cp_a (s : State) : Result := aluAccumulator .cp (.r .a) s
/-- `ADD A,n` (R261). -/
def exec_add_a_n (n : Byte) (s : State) : Result := aluAccumulator .add (.n n) s
/-- `ADC A,n` (R262). -/
def exec_adc_a_n (n : Byte) (s : State) : Result := aluAccumulator .adc (.n n) s
/-- `SUB n` (R263). -/
def exec_sub_n (n : Byte) (s : State) : Result := aluAccumulator .sub (.n n) s
/-- `SBC A,n` (R264). -/
def exec_sbc_a_n (n : Byte) (s : State) : Result := aluAccumulator .sbc (.n n) s
/-- `AND n` (R265). -/
def exec_and_n (n : Byte) (s : State) : Result := aluAccumulator .and (.n n) s
/-- `XOR n` (R266). -/
def exec_xor_n (n : Byte) (s : State) : Result := aluAccumulator .xor (.n n) s
/-- `OR n` (R267). -/
def exec_or_n (n : Byte) (s : State) : Result := aluAccumulator .or (.n n) s
/-- `CP n` (R268). -/
def exec_cp_n (n : Byte) (s : State) : Result := aluAccumulator .cp (.n n) s
/-- `INC IXH` (R275). -/
def exec_inc_ixh (s : State) : Result := increment8 (.half .ix .hi) s
/-- `DEC IXH` (R276). -/
def exec_dec_ixh (s : State) : Result := decrement8 (.half .ix .hi) s
/-- `INC IXL` (R275). -/
def exec_inc_ixl (s : State) : Result := increment8 (.half .ix .lo) s
/-- `DEC IXL` (R276). -/
def exec_dec_ixl (s : State) : Result := decrement8 (.half .ix .lo) s
/-- `INC (IX+d)` (R271). -/
def exec_inc_ixd (d : Byte) (s : State) : Result := increment8 (.idx .ix d) s
/-- `DEC (IX+d)` (R274). -/
def exec_dec_ixd (d : Byte) (s : State) : Result := decrement8 (.idx .ix d) s
/-- `ADD A,IXH` (R261). -/
def exec_add_a_ixh (s : State) : Result := aluAccumulator .add (.half .ix .hi) s
/-- `ADD A,IXL` (R261). -/
def exec_add_a_ixl (s : State) : Result := aluAccumulator .add (.half .ix .lo) s
/-- `ADD A,(IX+d)` (R261). -/
def exec_add_a_ixd (d : Byte) (s : State) : Result := aluAccumulator .add (.idx .ix d) s
/-- `ADC A,IXH` (R262). -/
def exec_adc_a_ixh (s : State) : Result := aluAccumulator .adc (.half .ix .hi) s
/-- `ADC A,IXL` (R262). -/
def exec_adc_a_ixl (s : State) : Result := aluAccumulator .adc (.half .ix .lo) s
/-- `ADC A,(IX+d)` (R262). -/
def exec_adc_a_ixd (d : Byte) (s : State) : Result := aluAccumulator .adc (.idx .ix d) s
/-- `SUB IXH` (R263). -/
def exec_sub_ixh (s : State) : Result := aluAccumulator .sub (.half .ix .hi) s
/-- `SUB IXL` (R263). -/
def exec_sub_ixl (s : State) : Result := aluAccumulator .sub (.half .ix .lo) s
/-- `SUB (IX+d)` (R263). -/
def exec_sub_ixd (d : Byte) (s : State) : Result := aluAccumulator .sub (.idx .ix d) s
/-- `SBC A,IXH` (R264). -/
def exec_sbc_a_ixh (s : State) : Result := aluAccumulator .sbc (.half .ix .hi) s
/-- `SBC A,IXL` (R264). -/
def exec_sbc_a_ixl (s : State) : Result := aluAccumulator .sbc (.half .ix .lo) s
/-- `SBC A,(IX+d)` (R264). -/
def exec_sbc_a_ixd (d : Byte) (s : State) : Result := aluAccumulator .sbc (.idx .ix d) s
/-- `AND IXH` (R265). -/
def exec_and_ixh (s : State) : Result := aluAccumulator .and (.half .ix .hi) s
/-- `AND IXL` (R265). -/
def exec_and_ixl (s : State) : Result := aluAccumulator .and (.half .ix .lo) s
/-- `AND (IX+d)` (R265). -/
def exec_and_ixd (d : Byte) (s : State) : Result := aluAccumulator .and (.idx .ix d) s
/-- `XOR IXH` (R266). -/
def exec_xor_ixh (s : State) : Result := aluAccumulator .xor (.half .ix .hi) s
/-- `XOR IXL` (R266). -/
def exec_xor_ixl (s : State) : Result := aluAccumulator .xor (.half .ix .lo) s
/-- `XOR (IX+d)` (R266). -/
def exec_xor_ixd (d : Byte) (s : State) : Result := aluAccumulator .xor (.idx .ix d) s
/-- `OR IXH` (R267). -/
def exec_or_ixh (s : State) : Result := aluAccumulator .or (.half .ix .hi) s
/-- `OR IXL` (R267). -/
def exec_or_ixl (s : State) : Result := aluAccumulator .or (.half .ix .lo) s
/-- `OR (IX+d)` (R267). -/
def exec_or_ixd (d : Byte) (s : State) : Result := aluAccumulator .or (.idx .ix d) s
/-- `CP IXH` (R268). -/
def exec_cp_ixh (s : State) : Result := aluAccumulator .cp (.half .ix .hi) s
/-- `CP IXL` (R268). -/
def exec_cp_ixl (s : State) : Result := aluAccumulator .cp (.half .ix .lo) s
/-- `CP (IX+d)` (R268). -/
def exec_cp_ixd (d : Byte) (s : State) : Result := aluAccumulator .cp (.idx .ix d) s
/-- `INC IYH` (R275). -/
def exec_inc_iyh (s : State) : Result := increment8 (.half .iy .hi) s
/-- `DEC IYH` (R276). -/
def exec_dec_iyh (s : State) : Result := decrement8 (.half .iy .hi) s
/-- `INC IYL` (R275). -/
def exec_inc_iyl (s : State) : Result := increment8 (.half .iy .lo) s
/-- `DEC IYL` (R276). -/
def exec_dec_iyl (s : State) : Result := decrement8 (.half .iy .lo) s
/-- `INC (IY+d)` (R271). -/
def exec_inc_iyd (d : Byte) (s : State) : Result := increment8 (.idx .iy d) s
/-- `DEC (IY+d)` (R274). -/
def exec_dec_iyd (d : Byte) (s : State) : Result := decrement8 (.idx .iy d) s
/-- `ADD A,IYH` (R261). -/
def exec_add_a_iyh (s : State) : Result := aluAccumulator .add (.half .iy .hi) s
/-- `ADD A,IYL` (R261). -/
def exec_add_a_iyl (s : State) : Result := aluAccumulator .add (.half .iy .lo) s
/-- `ADD A,(IY+d)` (R261). -/
def exec_add_a_iyd (d : Byte) (s : State) : Result := aluAccumulator .add (.idx .iy d) s
/-- `ADC A,IYH` (R262). -/
def exec_adc_a_iyh (s : State) : Result := aluAccumulator .adc (.half .iy .hi) s
/-- `ADC A,IYL` (R262). -/
def exec_adc_a_iyl (s : State) : Result := aluAccumulator .adc (.half .iy .lo) s
/-- `ADC A,(IY+d)` (R262). -/
def exec_adc_a_iyd (d : Byte) (s : State) : Result := aluAccumulator .adc (.idx .iy d) s
/-- `SUB IYH` (R263). -/
def exec_sub_iyh (s : State) : Result := aluAccumulator .sub (.half .iy .hi) s
/-- `SUB IYL` (R263). -/
def exec_sub_iyl (s : State) : Result := aluAccumulator .sub (.half .iy .lo) s
/-- `SUB (IY+d)` (R263). -/
def exec_sub_iyd (d : Byte) (s : State) : Result := aluAccumulator .sub (.idx .iy d) s
/-- `SBC A,IYH` (R264). -/
def exec_sbc_a_iyh (s : State) : Result := aluAccumulator .sbc (.half .iy .hi) s
/-- `SBC A,IYL` (R264). -/
def exec_sbc_a_iyl (s : State) : Result := aluAccumulator .sbc (.half .iy .lo) s
/-- `SBC A,(IY+d)` (R264). -/
def exec_sbc_a_iyd (d : Byte) (s : State) : Result := aluAccumulator .sbc (.idx .iy d) s
/-- `AND IYH` (R265). -/
def exec_and_iyh (s : State) : Result := aluAccumulator .and (.half .iy .hi) s
/-- `AND IYL` (R265). -/
def exec_and_iyl (s : State) : Result := aluAccumulator .and (.half .iy .lo) s
/-- `AND (IY+d)` (R265). -/
def exec_and_iyd (d : Byte) (s : State) : Result := aluAccumulator .and (.idx .iy d) s
/-- `XOR IYH` (R266). -/
def exec_xor_iyh (s : State) : Result := aluAccumulator .xor (.half .iy .hi) s
/-- `XOR IYL` (R266). -/
def exec_xor_iyl (s : State) : Result := aluAccumulator .xor (.half .iy .lo) s
/-- `XOR (IY+d)` (R266). -/
def exec_xor_iyd (d : Byte) (s : State) : Result := aluAccumulator .xor (.idx .iy d) s
/-- `OR IYH` (R267). -/
def exec_or_iyh (s : State) : Result := aluAccumulator .or (.half .iy .hi) s
/-- `OR IYL` (R267). -/
def exec_or_iyl (s : State) : Result := aluAccumulator .or (.half .iy .lo) s
/-- `OR (IY+d)` (R267). -/
def exec_or_iyd (d : Byte) (s : State) : Result := aluAccumulator .or (.idx .iy d) s
/-- `CP IYH` (R268). -/
def exec_cp_iyh (s : State) : Result := aluAccumulator .cp (.half .iy .hi) s
/-- `CP IYL` (R268). -/
def exec_cp_iyl (s : State) : Result := aluAccumulator .cp (.half .iy .lo) s
/-- `CP (IY+d)` (R268). -/
def exec_cp_iyd (d : Byte) (s : State) : Result := aluAccumulator .cp (.idx .iy d) s

end Sys2Proof.Machine
end

