-- ==== Sys2Proof/Machine/BitOps.lean ====
section
/-! DEFINITION. Bit test, reset and set (spec/44_rotate_shift_bit.md R346 to R351): the shared operations, then
one meaning per row. -/

namespace Sys2Proof.Machine

/-- The byte whose bits 5 and 3 BIT copies into Y and X: the register tested (R346), the high byte of
MEMPTR (R347), the high byte of the effective address (R348). -/
def bitXySource (m : M8) (s : State) : Byte :=
  match m with
  | .r r => s.r8 r
  | .hl => hiByte s.memptr
  | .idx x d => hiByte (s.ea x d)
  | .idxCopy x d _ => hiByte (s.ea x d)

/-- `BIT b,m`: nothing is written but F, and MEMPTR in the indexed forms; the register code of an
indexed form's duplicates names no register (R346 to R348). -/
def bitTest (b : BitNo) (m : M8) (s : State) : Result :=
  (latchM8 m s).doneFlags (bitFlags b (readM8 m s) (bitXySource m s) s.f) (lenM8 m)

/-- `RES b,m` (R349, R351). -/
def bitReset (b : BitNo) (m : M8) (s : State) : Result :=
  (writeM8 m (resBit b (readM8 m s)) s).done (lenM8 m)

/-- `SET b,m` (R350, R351). -/
def bitSet (b : BitNo) (m : M8) (s : State) : Result :=
  (writeM8 m (setBit b (readM8 m s)) s).done (lenM8 m)

/-! ### The rows -/

/-- `BIT 0,B` (R346). -/
def exec_bit_0_b (s : State) : Result := bitTest .b0 (.r .b) s
/-- `BIT 0,C` (R346). -/
def exec_bit_0_c (s : State) : Result := bitTest .b0 (.r .c) s
/-- `BIT 0,D` (R346). -/
def exec_bit_0_d (s : State) : Result := bitTest .b0 (.r .d) s
/-- `BIT 0,E` (R346). -/
def exec_bit_0_e (s : State) : Result := bitTest .b0 (.r .e) s
/-- `BIT 0,H` (R346). -/
def exec_bit_0_h (s : State) : Result := bitTest .b0 (.r .h) s
/-- `BIT 0,L` (R346). -/
def exec_bit_0_l (s : State) : Result := bitTest .b0 (.r .l) s
/-- `BIT 0,(HL)` (R347). -/
def exec_bit_0_mhl (s : State) : Result := bitTest .b0 .hl s
/-- `BIT 0,A` (R346). -/
def exec_bit_0_a (s : State) : Result := bitTest .b0 (.r .a) s
/-- `BIT 1,B` (R346). -/
def exec_bit_1_b (s : State) : Result := bitTest .b1 (.r .b) s
/-- `BIT 1,C` (R346). -/
def exec_bit_1_c (s : State) : Result := bitTest .b1 (.r .c) s
/-- `BIT 1,D` (R346). -/
def exec_bit_1_d (s : State) : Result := bitTest .b1 (.r .d) s
/-- `BIT 1,E` (R346). -/
def exec_bit_1_e (s : State) : Result := bitTest .b1 (.r .e) s
/-- `BIT 1,H` (R346). -/
def exec_bit_1_h (s : State) : Result := bitTest .b1 (.r .h) s
/-- `BIT 1,L` (R346). -/
def exec_bit_1_l (s : State) : Result := bitTest .b1 (.r .l) s
/-- `BIT 1,(HL)` (R347). -/
def exec_bit_1_mhl (s : State) : Result := bitTest .b1 .hl s
/-- `BIT 1,A` (R346). -/
def exec_bit_1_a (s : State) : Result := bitTest .b1 (.r .a) s
/-- `BIT 2,B` (R346). -/
def exec_bit_2_b (s : State) : Result := bitTest .b2 (.r .b) s
/-- `BIT 2,C` (R346). -/
def exec_bit_2_c (s : State) : Result := bitTest .b2 (.r .c) s
/-- `BIT 2,D` (R346). -/
def exec_bit_2_d (s : State) : Result := bitTest .b2 (.r .d) s
/-- `BIT 2,E` (R346). -/
def exec_bit_2_e (s : State) : Result := bitTest .b2 (.r .e) s
/-- `BIT 2,H` (R346). -/
def exec_bit_2_h (s : State) : Result := bitTest .b2 (.r .h) s
/-- `BIT 2,L` (R346). -/
def exec_bit_2_l (s : State) : Result := bitTest .b2 (.r .l) s
/-- `BIT 2,(HL)` (R347). -/
def exec_bit_2_mhl (s : State) : Result := bitTest .b2 .hl s
/-- `BIT 2,A` (R346). -/
def exec_bit_2_a (s : State) : Result := bitTest .b2 (.r .a) s
/-- `BIT 3,B` (R346). -/
def exec_bit_3_b (s : State) : Result := bitTest .b3 (.r .b) s
/-- `BIT 3,C` (R346). -/
def exec_bit_3_c (s : State) : Result := bitTest .b3 (.r .c) s
/-- `BIT 3,D` (R346). -/
def exec_bit_3_d (s : State) : Result := bitTest .b3 (.r .d) s
/-- `BIT 3,E` (R346). -/
def exec_bit_3_e (s : State) : Result := bitTest .b3 (.r .e) s
/-- `BIT 3,H` (R346). -/
def exec_bit_3_h (s : State) : Result := bitTest .b3 (.r .h) s
/-- `BIT 3,L` (R346). -/
def exec_bit_3_l (s : State) : Result := bitTest .b3 (.r .l) s
/-- `BIT 3,(HL)` (R347). -/
def exec_bit_3_mhl (s : State) : Result := bitTest .b3 .hl s
/-- `BIT 3,A` (R346). -/
def exec_bit_3_a (s : State) : Result := bitTest .b3 (.r .a) s
/-- `BIT 4,B` (R346). -/
def exec_bit_4_b (s : State) : Result := bitTest .b4 (.r .b) s
/-- `BIT 4,C` (R346). -/
def exec_bit_4_c (s : State) : Result := bitTest .b4 (.r .c) s
/-- `BIT 4,D` (R346). -/
def exec_bit_4_d (s : State) : Result := bitTest .b4 (.r .d) s
/-- `BIT 4,E` (R346). -/
def exec_bit_4_e (s : State) : Result := bitTest .b4 (.r .e) s
/-- `BIT 4,H` (R346). -/
def exec_bit_4_h (s : State) : Result := bitTest .b4 (.r .h) s
/-- `BIT 4,L` (R346). -/
def exec_bit_4_l (s : State) : Result := bitTest .b4 (.r .l) s
/-- `BIT 4,(HL)` (R347). -/
def exec_bit_4_mhl (s : State) : Result := bitTest .b4 .hl s
/-- `BIT 4,A` (R346). -/
def exec_bit_4_a (s : State) : Result := bitTest .b4 (.r .a) s
/-- `BIT 5,B` (R346). -/
def exec_bit_5_b (s : State) : Result := bitTest .b5 (.r .b) s
/-- `BIT 5,C` (R346). -/
def exec_bit_5_c (s : State) : Result := bitTest .b5 (.r .c) s
/-- `BIT 5,D` (R346). -/
def exec_bit_5_d (s : State) : Result := bitTest .b5 (.r .d) s
/-- `BIT 5,E` (R346). -/
def exec_bit_5_e (s : State) : Result := bitTest .b5 (.r .e) s
/-- `BIT 5,H` (R346). -/
def exec_bit_5_h (s : State) : Result := bitTest .b5 (.r .h) s
/-- `BIT 5,L` (R346). -/
def exec_bit_5_l (s : State) : Result := bitTest .b5 (.r .l) s
/-- `BIT 5,(HL)` (R347). -/
def exec_bit_5_mhl (s : State) : Result := bitTest .b5 .hl s
/-- `BIT 5,A` (R346). -/
def exec_bit_5_a (s : State) : Result := bitTest .b5 (.r .a) s
/-- `BIT 6,B` (R346). -/
def exec_bit_6_b (s : State) : Result := bitTest .b6 (.r .b) s
/-- `BIT 6,C` (R346). -/
def exec_bit_6_c (s : State) : Result := bitTest .b6 (.r .c) s
/-- `BIT 6,D` (R346). -/
def exec_bit_6_d (s : State) : Result := bitTest .b6 (.r .d) s
/-- `BIT 6,E` (R346). -/
def exec_bit_6_e (s : State) : Result := bitTest .b6 (.r .e) s
/-- `BIT 6,H` (R346). -/
def exec_bit_6_h (s : State) : Result := bitTest .b6 (.r .h) s
/-- `BIT 6,L` (R346). -/
def exec_bit_6_l (s : State) : Result := bitTest .b6 (.r .l) s
/-- `BIT 6,(HL)` (R347). -/
def exec_bit_6_mhl (s : State) : Result := bitTest .b6 .hl s
/-- `BIT 6,A` (R346). -/
def exec_bit_6_a (s : State) : Result := bitTest .b6 (.r .a) s
/-- `BIT 7,B` (R346). -/
def exec_bit_7_b (s : State) : Result := bitTest .b7 (.r .b) s
/-- `BIT 7,C` (R346). -/
def exec_bit_7_c (s : State) : Result := bitTest .b7 (.r .c) s
/-- `BIT 7,D` (R346). -/
def exec_bit_7_d (s : State) : Result := bitTest .b7 (.r .d) s
/-- `BIT 7,E` (R346). -/
def exec_bit_7_e (s : State) : Result := bitTest .b7 (.r .e) s
/-- `BIT 7,H` (R346). -/
def exec_bit_7_h (s : State) : Result := bitTest .b7 (.r .h) s
/-- `BIT 7,L` (R346). -/
def exec_bit_7_l (s : State) : Result := bitTest .b7 (.r .l) s
/-- `BIT 7,(HL)` (R347). -/
def exec_bit_7_mhl (s : State) : Result := bitTest .b7 .hl s
/-- `BIT 7,A` (R346). -/
def exec_bit_7_a (s : State) : Result := bitTest .b7 (.r .a) s
/-- `RES 0,B` (R349). -/
def exec_res_0_b (s : State) : Result := bitReset .b0 (.r .b) s
/-- `RES 0,C` (R349). -/
def exec_res_0_c (s : State) : Result := bitReset .b0 (.r .c) s
/-- `RES 0,D` (R349). -/
def exec_res_0_d (s : State) : Result := bitReset .b0 (.r .d) s
/-- `RES 0,E` (R349). -/
def exec_res_0_e (s : State) : Result := bitReset .b0 (.r .e) s
/-- `RES 0,H` (R349). -/
def exec_res_0_h (s : State) : Result := bitReset .b0 (.r .h) s
/-- `RES 0,L` (R349). -/
def exec_res_0_l (s : State) : Result := bitReset .b0 (.r .l) s
/-- `RES 0,(HL)` (R349). -/
def exec_res_0_mhl (s : State) : Result := bitReset .b0 .hl s
/-- `RES 0,A` (R349). -/
def exec_res_0_a (s : State) : Result := bitReset .b0 (.r .a) s
/-- `RES 1,B` (R349). -/
def exec_res_1_b (s : State) : Result := bitReset .b1 (.r .b) s
/-- `RES 1,C` (R349). -/
def exec_res_1_c (s : State) : Result := bitReset .b1 (.r .c) s
/-- `RES 1,D` (R349). -/
def exec_res_1_d (s : State) : Result := bitReset .b1 (.r .d) s
/-- `RES 1,E` (R349). -/
def exec_res_1_e (s : State) : Result := bitReset .b1 (.r .e) s
/-- `RES 1,H` (R349). -/
def exec_res_1_h (s : State) : Result := bitReset .b1 (.r .h) s
/-- `RES 1,L` (R349). -/
def exec_res_1_l (s : State) : Result := bitReset .b1 (.r .l) s
/-- `RES 1,(HL)` (R349). -/
def exec_res_1_mhl (s : State) : Result := bitReset .b1 .hl s
/-- `RES 1,A` (R349). -/
def exec_res_1_a (s : State) : Result := bitReset .b1 (.r .a) s
/-- `RES 2,B` (R349). -/
def exec_res_2_b (s : State) : Result := bitReset .b2 (.r .b) s
/-- `RES 2,C` (R349). -/
def exec_res_2_c (s : State) : Result := bitReset .b2 (.r .c) s
/-- `RES 2,D` (R349). -/
def exec_res_2_d (s : State) : Result := bitReset .b2 (.r .d) s
/-- `RES 2,E` (R349). -/
def exec_res_2_e (s : State) : Result := bitReset .b2 (.r .e) s
/-- `RES 2,H` (R349). -/
def exec_res_2_h (s : State) : Result := bitReset .b2 (.r .h) s
/-- `RES 2,L` (R349). -/
def exec_res_2_l (s : State) : Result := bitReset .b2 (.r .l) s
/-- `RES 2,(HL)` (R349). -/
def exec_res_2_mhl (s : State) : Result := bitReset .b2 .hl s
/-- `RES 2,A` (R349). -/
def exec_res_2_a (s : State) : Result := bitReset .b2 (.r .a) s
/-- `RES 3,B` (R349). -/
def exec_res_3_b (s : State) : Result := bitReset .b3 (.r .b) s
/-- `RES 3,C` (R349). -/
def exec_res_3_c (s : State) : Result := bitReset .b3 (.r .c) s
/-- `RES 3,D` (R349). -/
def exec_res_3_d (s : State) : Result := bitReset .b3 (.r .d) s
/-- `RES 3,E` (R349). -/
def exec_res_3_e (s : State) : Result := bitReset .b3 (.r .e) s
/-- `RES 3,H` (R349). -/
def exec_res_3_h (s : State) : Result := bitReset .b3 (.r .h) s
/-- `RES 3,L` (R349). -/
def exec_res_3_l (s : State) : Result := bitReset .b3 (.r .l) s
/-- `RES 3,(HL)` (R349). -/
def exec_res_3_mhl (s : State) : Result := bitReset .b3 .hl s
/-- `RES 3,A` (R349). -/
def exec_res_3_a (s : State) : Result := bitReset .b3 (.r .a) s
/-- `RES 4,B` (R349). -/
def exec_res_4_b (s : State) : Result := bitReset .b4 (.r .b) s
/-- `RES 4,C` (R349). -/
def exec_res_4_c (s : State) : Result := bitReset .b4 (.r .c) s
/-- `RES 4,D` (R349). -/
def exec_res_4_d (s : State) : Result := bitReset .b4 (.r .d) s
/-- `RES 4,E` (R349). -/
def exec_res_4_e (s : State) : Result := bitReset .b4 (.r .e) s
/-- `RES 4,H` (R349). -/
def exec_res_4_h (s : State) : Result := bitReset .b4 (.r .h) s
/-- `RES 4,L` (R349). -/
def exec_res_4_l (s : State) : Result := bitReset .b4 (.r .l) s
/-- `RES 4,(HL)` (R349). -/
def exec_res_4_mhl (s : State) : Result := bitReset .b4 .hl s
/-- `RES 4,A` (R349). -/
def exec_res_4_a (s : State) : Result := bitReset .b4 (.r .a) s
/-- `RES 5,B` (R349). -/
def exec_res_5_b (s : State) : Result := bitReset .b5 (.r .b) s
/-- `RES 5,C` (R349). -/
def exec_res_5_c (s : State) : Result := bitReset .b5 (.r .c) s
/-- `RES 5,D` (R349). -/
def exec_res_5_d (s : State) : Result := bitReset .b5 (.r .d) s
/-- `RES 5,E` (R349). -/
def exec_res_5_e (s : State) : Result := bitReset .b5 (.r .e) s
/-- `RES 5,H` (R349). -/
def exec_res_5_h (s : State) : Result := bitReset .b5 (.r .h) s
/-- `RES 5,L` (R349). -/
def exec_res_5_l (s : State) : Result := bitReset .b5 (.r .l) s
/-- `RES 5,(HL)` (R349). -/
def exec_res_5_mhl (s : State) : Result := bitReset .b5 .hl s
/-- `RES 5,A` (R349). -/
def exec_res_5_a (s : State) : Result := bitReset .b5 (.r .a) s
/-- `RES 6,B` (R349). -/
def exec_res_6_b (s : State) : Result := bitReset .b6 (.r .b) s
/-- `RES 6,C` (R349). -/
def exec_res_6_c (s : State) : Result := bitReset .b6 (.r .c) s
/-- `RES 6,D` (R349). -/
def exec_res_6_d (s : State) : Result := bitReset .b6 (.r .d) s
/-- `RES 6,E` (R349). -/
def exec_res_6_e (s : State) : Result := bitReset .b6 (.r .e) s
/-- `RES 6,H` (R349). -/
def exec_res_6_h (s : State) : Result := bitReset .b6 (.r .h) s
/-- `RES 6,L` (R349). -/
def exec_res_6_l (s : State) : Result := bitReset .b6 (.r .l) s
/-- `RES 6,(HL)` (R349). -/
def exec_res_6_mhl (s : State) : Result := bitReset .b6 .hl s
/-- `RES 6,A` (R349). -/
def exec_res_6_a (s : State) : Result := bitReset .b6 (.r .a) s
/-- `RES 7,B` (R349). -/
def exec_res_7_b (s : State) : Result := bitReset .b7 (.r .b) s
/-- `RES 7,C` (R349). -/
def exec_res_7_c (s : State) : Result := bitReset .b7 (.r .c) s
/-- `RES 7,D` (R349). -/
def exec_res_7_d (s : State) : Result := bitReset .b7 (.r .d) s
/-- `RES 7,E` (R349). -/
def exec_res_7_e (s : State) : Result := bitReset .b7 (.r .e) s
/-- `RES 7,H` (R349). -/
def exec_res_7_h (s : State) : Result := bitReset .b7 (.r .h) s
/-- `RES 7,L` (R349). -/
def exec_res_7_l (s : State) : Result := bitReset .b7 (.r .l) s
/-- `RES 7,(HL)` (R349). -/
def exec_res_7_mhl (s : State) : Result := bitReset .b7 .hl s
/-- `RES 7,A` (R349). -/
def exec_res_7_a (s : State) : Result := bitReset .b7 (.r .a) s
/-- `SET 0,B` (R350). -/
def exec_set_0_b (s : State) : Result := bitSet .b0 (.r .b) s
/-- `SET 0,C` (R350). -/
def exec_set_0_c (s : State) : Result := bitSet .b0 (.r .c) s
/-- `SET 0,D` (R350). -/
def exec_set_0_d (s : State) : Result := bitSet .b0 (.r .d) s
/-- `SET 0,E` (R350). -/
def exec_set_0_e (s : State) : Result := bitSet .b0 (.r .e) s
/-- `SET 0,H` (R350). -/
def exec_set_0_h (s : State) : Result := bitSet .b0 (.r .h) s
/-- `SET 0,L` (R350). -/
def exec_set_0_l (s : State) : Result := bitSet .b0 (.r .l) s
/-- `SET 0,(HL)` (R350). -/
def exec_set_0_mhl (s : State) : Result := bitSet .b0 .hl s
/-- `SET 0,A` (R350). -/
def exec_set_0_a (s : State) : Result := bitSet .b0 (.r .a) s
/-- `SET 1,B` (R350). -/
def exec_set_1_b (s : State) : Result := bitSet .b1 (.r .b) s
/-- `SET 1,C` (R350). -/
def exec_set_1_c (s : State) : Result := bitSet .b1 (.r .c) s
/-- `SET 1,D` (R350). -/
def exec_set_1_d (s : State) : Result := bitSet .b1 (.r .d) s
/-- `SET 1,E` (R350). -/
def exec_set_1_e (s : State) : Result := bitSet .b1 (.r .e) s
/-- `SET 1,H` (R350). -/
def exec_set_1_h (s : State) : Result := bitSet .b1 (.r .h) s
/-- `SET 1,L` (R350). -/
def exec_set_1_l (s : State) : Result := bitSet .b1 (.r .l) s
/-- `SET 1,(HL)` (R350). -/
def exec_set_1_mhl (s : State) : Result := bitSet .b1 .hl s
/-- `SET 1,A` (R350). -/
def exec_set_1_a (s : State) : Result := bitSet .b1 (.r .a) s
/-- `SET 2,B` (R350). -/
def exec_set_2_b (s : State) : Result := bitSet .b2 (.r .b) s
/-- `SET 2,C` (R350). -/
def exec_set_2_c (s : State) : Result := bitSet .b2 (.r .c) s
/-- `SET 2,D` (R350). -/
def exec_set_2_d (s : State) : Result := bitSet .b2 (.r .d) s
/-- `SET 2,E` (R350). -/
def exec_set_2_e (s : State) : Result := bitSet .b2 (.r .e) s
/-- `SET 2,H` (R350). -/
def exec_set_2_h (s : State) : Result := bitSet .b2 (.r .h) s
/-- `SET 2,L` (R350). -/
def exec_set_2_l (s : State) : Result := bitSet .b2 (.r .l) s
/-- `SET 2,(HL)` (R350). -/
def exec_set_2_mhl (s : State) : Result := bitSet .b2 .hl s
/-- `SET 2,A` (R350). -/
def exec_set_2_a (s : State) : Result := bitSet .b2 (.r .a) s
/-- `SET 3,B` (R350). -/
def exec_set_3_b (s : State) : Result := bitSet .b3 (.r .b) s
/-- `SET 3,C` (R350). -/
def exec_set_3_c (s : State) : Result := bitSet .b3 (.r .c) s
/-- `SET 3,D` (R350). -/
def exec_set_3_d (s : State) : Result := bitSet .b3 (.r .d) s
/-- `SET 3,E` (R350). -/
def exec_set_3_e (s : State) : Result := bitSet .b3 (.r .e) s
/-- `SET 3,H` (R350). -/
def exec_set_3_h (s : State) : Result := bitSet .b3 (.r .h) s
/-- `SET 3,L` (R350). -/
def exec_set_3_l (s : State) : Result := bitSet .b3 (.r .l) s
/-- `SET 3,(HL)` (R350). -/
def exec_set_3_mhl (s : State) : Result := bitSet .b3 .hl s
/-- `SET 3,A` (R350). -/
def exec_set_3_a (s : State) : Result := bitSet .b3 (.r .a) s
/-- `SET 4,B` (R350). -/
def exec_set_4_b (s : State) : Result := bitSet .b4 (.r .b) s
/-- `SET 4,C` (R350). -/
def exec_set_4_c (s : State) : Result := bitSet .b4 (.r .c) s
/-- `SET 4,D` (R350). -/
def exec_set_4_d (s : State) : Result := bitSet .b4 (.r .d) s
/-- `SET 4,E` (R350). -/
def exec_set_4_e (s : State) : Result := bitSet .b4 (.r .e) s
/-- `SET 4,H` (R350). -/
def exec_set_4_h (s : State) : Result := bitSet .b4 (.r .h) s
/-- `SET 4,L` (R350). -/
def exec_set_4_l (s : State) : Result := bitSet .b4 (.r .l) s
/-- `SET 4,(HL)` (R350). -/
def exec_set_4_mhl (s : State) : Result := bitSet .b4 .hl s
/-- `SET 4,A` (R350). -/
def exec_set_4_a (s : State) : Result := bitSet .b4 (.r .a) s
/-- `SET 5,B` (R350). -/
def exec_set_5_b (s : State) : Result := bitSet .b5 (.r .b) s
/-- `SET 5,C` (R350). -/
def exec_set_5_c (s : State) : Result := bitSet .b5 (.r .c) s
/-- `SET 5,D` (R350). -/
def exec_set_5_d (s : State) : Result := bitSet .b5 (.r .d) s
/-- `SET 5,E` (R350). -/
def exec_set_5_e (s : State) : Result := bitSet .b5 (.r .e) s
/-- `SET 5,H` (R350). -/
def exec_set_5_h (s : State) : Result := bitSet .b5 (.r .h) s
/-- `SET 5,L` (R350). -/
def exec_set_5_l (s : State) : Result := bitSet .b5 (.r .l) s
/-- `SET 5,(HL)` (R350). -/
def exec_set_5_mhl (s : State) : Result := bitSet .b5 .hl s
/-- `SET 5,A` (R350). -/
def exec_set_5_a (s : State) : Result := bitSet .b5 (.r .a) s
/-- `SET 6,B` (R350). -/
def exec_set_6_b (s : State) : Result := bitSet .b6 (.r .b) s
/-- `SET 6,C` (R350). -/
def exec_set_6_c (s : State) : Result := bitSet .b6 (.r .c) s
/-- `SET 6,D` (R350). -/
def exec_set_6_d (s : State) : Result := bitSet .b6 (.r .d) s
/-- `SET 6,E` (R350). -/
def exec_set_6_e (s : State) : Result := bitSet .b6 (.r .e) s
/-- `SET 6,H` (R350). -/
def exec_set_6_h (s : State) : Result := bitSet .b6 (.r .h) s
/-- `SET 6,L` (R350). -/
def exec_set_6_l (s : State) : Result := bitSet .b6 (.r .l) s
/-- `SET 6,(HL)` (R350). -/
def exec_set_6_mhl (s : State) : Result := bitSet .b6 .hl s
/-- `SET 6,A` (R350). -/
def exec_set_6_a (s : State) : Result := bitSet .b6 (.r .a) s
/-- `SET 7,B` (R350). -/
def exec_set_7_b (s : State) : Result := bitSet .b7 (.r .b) s
/-- `SET 7,C` (R350). -/
def exec_set_7_c (s : State) : Result := bitSet .b7 (.r .c) s
/-- `SET 7,D` (R350). -/
def exec_set_7_d (s : State) : Result := bitSet .b7 (.r .d) s
/-- `SET 7,E` (R350). -/
def exec_set_7_e (s : State) : Result := bitSet .b7 (.r .e) s
/-- `SET 7,H` (R350). -/
def exec_set_7_h (s : State) : Result := bitSet .b7 (.r .h) s
/-- `SET 7,L` (R350). -/
def exec_set_7_l (s : State) : Result := bitSet .b7 (.r .l) s
/-- `SET 7,(HL)` (R350). -/
def exec_set_7_mhl (s : State) : Result := bitSet .b7 .hl s
/-- `SET 7,A` (R350). -/
def exec_set_7_a (s : State) : Result := bitSet .b7 (.r .a) s
/-- `BIT 0,(IX+d)` (R348). -/
def exec_bit_0_ixd_z0 (d : Byte) (s : State) : Result := bitTest .b0 (.idxCopy .ix d .b) s
/-- `BIT 0,(IX+d)` (R348). -/
def exec_bit_0_ixd_z1 (d : Byte) (s : State) : Result := bitTest .b0 (.idxCopy .ix d .c) s
/-- `BIT 0,(IX+d)` (R348). -/
def exec_bit_0_ixd_z2 (d : Byte) (s : State) : Result := bitTest .b0 (.idxCopy .ix d .d) s
/-- `BIT 0,(IX+d)` (R348). -/
def exec_bit_0_ixd_z3 (d : Byte) (s : State) : Result := bitTest .b0 (.idxCopy .ix d .e) s
/-- `BIT 0,(IX+d)` (R348). -/
def exec_bit_0_ixd_z4 (d : Byte) (s : State) : Result := bitTest .b0 (.idxCopy .ix d .h) s
/-- `BIT 0,(IX+d)` (R348). -/
def exec_bit_0_ixd_z5 (d : Byte) (s : State) : Result := bitTest .b0 (.idxCopy .ix d .l) s
/-- `BIT 0,(IX+d)` (R348). -/
def exec_bit_0_ixd (d : Byte) (s : State) : Result := bitTest .b0 (.idx .ix d) s
/-- `BIT 0,(IX+d)` (R348). -/
def exec_bit_0_ixd_z7 (d : Byte) (s : State) : Result := bitTest .b0 (.idxCopy .ix d .a) s
/-- `BIT 1,(IX+d)` (R348). -/
def exec_bit_1_ixd_z0 (d : Byte) (s : State) : Result := bitTest .b1 (.idxCopy .ix d .b) s
/-- `BIT 1,(IX+d)` (R348). -/
def exec_bit_1_ixd_z1 (d : Byte) (s : State) : Result := bitTest .b1 (.idxCopy .ix d .c) s
/-- `BIT 1,(IX+d)` (R348). -/
def exec_bit_1_ixd_z2 (d : Byte) (s : State) : Result := bitTest .b1 (.idxCopy .ix d .d) s
/-- `BIT 1,(IX+d)` (R348). -/
def exec_bit_1_ixd_z3 (d : Byte) (s : State) : Result := bitTest .b1 (.idxCopy .ix d .e) s
/-- `BIT 1,(IX+d)` (R348). -/
def exec_bit_1_ixd_z4 (d : Byte) (s : State) : Result := bitTest .b1 (.idxCopy .ix d .h) s
/-- `BIT 1,(IX+d)` (R348). -/
def exec_bit_1_ixd_z5 (d : Byte) (s : State) : Result := bitTest .b1 (.idxCopy .ix d .l) s
/-- `BIT 1,(IX+d)` (R348). -/
def exec_bit_1_ixd (d : Byte) (s : State) : Result := bitTest .b1 (.idx .ix d) s
/-- `BIT 1,(IX+d)` (R348). -/
def exec_bit_1_ixd_z7 (d : Byte) (s : State) : Result := bitTest .b1 (.idxCopy .ix d .a) s
/-- `BIT 2,(IX+d)` (R348). -/
def exec_bit_2_ixd_z0 (d : Byte) (s : State) : Result := bitTest .b2 (.idxCopy .ix d .b) s
/-- `BIT 2,(IX+d)` (R348). -/
def exec_bit_2_ixd_z1 (d : Byte) (s : State) : Result := bitTest .b2 (.idxCopy .ix d .c) s
/-- `BIT 2,(IX+d)` (R348). -/
def exec_bit_2_ixd_z2 (d : Byte) (s : State) : Result := bitTest .b2 (.idxCopy .ix d .d) s
/-- `BIT 2,(IX+d)` (R348). -/
def exec_bit_2_ixd_z3 (d : Byte) (s : State) : Result := bitTest .b2 (.idxCopy .ix d .e) s
/-- `BIT 2,(IX+d)` (R348). -/
def exec_bit_2_ixd_z4 (d : Byte) (s : State) : Result := bitTest .b2 (.idxCopy .ix d .h) s
/-- `BIT 2,(IX+d)` (R348). -/
def exec_bit_2_ixd_z5 (d : Byte) (s : State) : Result := bitTest .b2 (.idxCopy .ix d .l) s
/-- `BIT 2,(IX+d)` (R348). -/
def exec_bit_2_ixd (d : Byte) (s : State) : Result := bitTest .b2 (.idx .ix d) s
/-- `BIT 2,(IX+d)` (R348). -/
def exec_bit_2_ixd_z7 (d : Byte) (s : State) : Result := bitTest .b2 (.idxCopy .ix d .a) s
/-- `BIT 3,(IX+d)` (R348). -/
def exec_bit_3_ixd_z0 (d : Byte) (s : State) : Result := bitTest .b3 (.idxCopy .ix d .b) s
/-- `BIT 3,(IX+d)` (R348). -/
def exec_bit_3_ixd_z1 (d : Byte) (s : State) : Result := bitTest .b3 (.idxCopy .ix d .c) s
/-- `BIT 3,(IX+d)` (R348). -/
def exec_bit_3_ixd_z2 (d : Byte) (s : State) : Result := bitTest .b3 (.idxCopy .ix d .d) s
/-- `BIT 3,(IX+d)` (R348). -/
def exec_bit_3_ixd_z3 (d : Byte) (s : State) : Result := bitTest .b3 (.idxCopy .ix d .e) s
/-- `BIT 3,(IX+d)` (R348). -/
def exec_bit_3_ixd_z4 (d : Byte) (s : State) : Result := bitTest .b3 (.idxCopy .ix d .h) s
/-- `BIT 3,(IX+d)` (R348). -/
def exec_bit_3_ixd_z5 (d : Byte) (s : State) : Result := bitTest .b3 (.idxCopy .ix d .l) s
/-- `BIT 3,(IX+d)` (R348). -/
def exec_bit_3_ixd (d : Byte) (s : State) : Result := bitTest .b3 (.idx .ix d) s
/-- `BIT 3,(IX+d)` (R348). -/
def exec_bit_3_ixd_z7 (d : Byte) (s : State) : Result := bitTest .b3 (.idxCopy .ix d .a) s
/-- `BIT 4,(IX+d)` (R348). -/
def exec_bit_4_ixd_z0 (d : Byte) (s : State) : Result := bitTest .b4 (.idxCopy .ix d .b) s
/-- `BIT 4,(IX+d)` (R348). -/
def exec_bit_4_ixd_z1 (d : Byte) (s : State) : Result := bitTest .b4 (.idxCopy .ix d .c) s
/-- `BIT 4,(IX+d)` (R348). -/
def exec_bit_4_ixd_z2 (d : Byte) (s : State) : Result := bitTest .b4 (.idxCopy .ix d .d) s
/-- `BIT 4,(IX+d)` (R348). -/
def exec_bit_4_ixd_z3 (d : Byte) (s : State) : Result := bitTest .b4 (.idxCopy .ix d .e) s
/-- `BIT 4,(IX+d)` (R348). -/
def exec_bit_4_ixd_z4 (d : Byte) (s : State) : Result := bitTest .b4 (.idxCopy .ix d .h) s
/-- `BIT 4,(IX+d)` (R348). -/
def exec_bit_4_ixd_z5 (d : Byte) (s : State) : Result := bitTest .b4 (.idxCopy .ix d .l) s
/-- `BIT 4,(IX+d)` (R348). -/
def exec_bit_4_ixd (d : Byte) (s : State) : Result := bitTest .b4 (.idx .ix d) s
/-- `BIT 4,(IX+d)` (R348). -/
def exec_bit_4_ixd_z7 (d : Byte) (s : State) : Result := bitTest .b4 (.idxCopy .ix d .a) s
/-- `BIT 5,(IX+d)` (R348). -/
def exec_bit_5_ixd_z0 (d : Byte) (s : State) : Result := bitTest .b5 (.idxCopy .ix d .b) s
/-- `BIT 5,(IX+d)` (R348). -/
def exec_bit_5_ixd_z1 (d : Byte) (s : State) : Result := bitTest .b5 (.idxCopy .ix d .c) s
/-- `BIT 5,(IX+d)` (R348). -/
def exec_bit_5_ixd_z2 (d : Byte) (s : State) : Result := bitTest .b5 (.idxCopy .ix d .d) s
/-- `BIT 5,(IX+d)` (R348). -/
def exec_bit_5_ixd_z3 (d : Byte) (s : State) : Result := bitTest .b5 (.idxCopy .ix d .e) s
/-- `BIT 5,(IX+d)` (R348). -/
def exec_bit_5_ixd_z4 (d : Byte) (s : State) : Result := bitTest .b5 (.idxCopy .ix d .h) s
/-- `BIT 5,(IX+d)` (R348). -/
def exec_bit_5_ixd_z5 (d : Byte) (s : State) : Result := bitTest .b5 (.idxCopy .ix d .l) s
/-- `BIT 5,(IX+d)` (R348). -/
def exec_bit_5_ixd (d : Byte) (s : State) : Result := bitTest .b5 (.idx .ix d) s
/-- `BIT 5,(IX+d)` (R348). -/
def exec_bit_5_ixd_z7 (d : Byte) (s : State) : Result := bitTest .b5 (.idxCopy .ix d .a) s
/-- `BIT 6,(IX+d)` (R348). -/
def exec_bit_6_ixd_z0 (d : Byte) (s : State) : Result := bitTest .b6 (.idxCopy .ix d .b) s
/-- `BIT 6,(IX+d)` (R348). -/
def exec_bit_6_ixd_z1 (d : Byte) (s : State) : Result := bitTest .b6 (.idxCopy .ix d .c) s
/-- `BIT 6,(IX+d)` (R348). -/
def exec_bit_6_ixd_z2 (d : Byte) (s : State) : Result := bitTest .b6 (.idxCopy .ix d .d) s
/-- `BIT 6,(IX+d)` (R348). -/
def exec_bit_6_ixd_z3 (d : Byte) (s : State) : Result := bitTest .b6 (.idxCopy .ix d .e) s
/-- `BIT 6,(IX+d)` (R348). -/
def exec_bit_6_ixd_z4 (d : Byte) (s : State) : Result := bitTest .b6 (.idxCopy .ix d .h) s
/-- `BIT 6,(IX+d)` (R348). -/
def exec_bit_6_ixd_z5 (d : Byte) (s : State) : Result := bitTest .b6 (.idxCopy .ix d .l) s
/-- `BIT 6,(IX+d)` (R348). -/
def exec_bit_6_ixd (d : Byte) (s : State) : Result := bitTest .b6 (.idx .ix d) s
/-- `BIT 6,(IX+d)` (R348). -/
def exec_bit_6_ixd_z7 (d : Byte) (s : State) : Result := bitTest .b6 (.idxCopy .ix d .a) s
/-- `BIT 7,(IX+d)` (R348). -/
def exec_bit_7_ixd_z0 (d : Byte) (s : State) : Result := bitTest .b7 (.idxCopy .ix d .b) s
/-- `BIT 7,(IX+d)` (R348). -/
def exec_bit_7_ixd_z1 (d : Byte) (s : State) : Result := bitTest .b7 (.idxCopy .ix d .c) s
/-- `BIT 7,(IX+d)` (R348). -/
def exec_bit_7_ixd_z2 (d : Byte) (s : State) : Result := bitTest .b7 (.idxCopy .ix d .d) s
/-- `BIT 7,(IX+d)` (R348). -/
def exec_bit_7_ixd_z3 (d : Byte) (s : State) : Result := bitTest .b7 (.idxCopy .ix d .e) s
/-- `BIT 7,(IX+d)` (R348). -/
def exec_bit_7_ixd_z4 (d : Byte) (s : State) : Result := bitTest .b7 (.idxCopy .ix d .h) s
/-- `BIT 7,(IX+d)` (R348). -/
def exec_bit_7_ixd_z5 (d : Byte) (s : State) : Result := bitTest .b7 (.idxCopy .ix d .l) s
/-- `BIT 7,(IX+d)` (R348). -/
def exec_bit_7_ixd (d : Byte) (s : State) : Result := bitTest .b7 (.idx .ix d) s
/-- `BIT 7,(IX+d)` (R348). -/
def exec_bit_7_ixd_z7 (d : Byte) (s : State) : Result := bitTest .b7 (.idxCopy .ix d .a) s
/-- `RES 0,(IX+d),B` (R351). -/
def exec_res_0_ixd_b (d : Byte) (s : State) : Result := bitReset .b0 (.idxCopy .ix d .b) s
/-- `RES 0,(IX+d),C` (R351). -/
def exec_res_0_ixd_c (d : Byte) (s : State) : Result := bitReset .b0 (.idxCopy .ix d .c) s
/-- `RES 0,(IX+d),D` (R351). -/
def exec_res_0_ixd_d (d : Byte) (s : State) : Result := bitReset .b0 (.idxCopy .ix d .d) s
/-- `RES 0,(IX+d),E` (R351). -/
def exec_res_0_ixd_e (d : Byte) (s : State) : Result := bitReset .b0 (.idxCopy .ix d .e) s
/-- `RES 0,(IX+d),H` (R351). -/
def exec_res_0_ixd_h (d : Byte) (s : State) : Result := bitReset .b0 (.idxCopy .ix d .h) s
/-- `RES 0,(IX+d),L` (R351). -/
def exec_res_0_ixd_l (d : Byte) (s : State) : Result := bitReset .b0 (.idxCopy .ix d .l) s
/-- `RES 0,(IX+d)` (R349). -/
def exec_res_0_ixd (d : Byte) (s : State) : Result := bitReset .b0 (.idx .ix d) s
/-- `RES 0,(IX+d),A` (R351). -/
def exec_res_0_ixd_a (d : Byte) (s : State) : Result := bitReset .b0 (.idxCopy .ix d .a) s
/-- `RES 1,(IX+d),B` (R351). -/
def exec_res_1_ixd_b (d : Byte) (s : State) : Result := bitReset .b1 (.idxCopy .ix d .b) s
/-- `RES 1,(IX+d),C` (R351). -/
def exec_res_1_ixd_c (d : Byte) (s : State) : Result := bitReset .b1 (.idxCopy .ix d .c) s
/-- `RES 1,(IX+d),D` (R351). -/
def exec_res_1_ixd_d (d : Byte) (s : State) : Result := bitReset .b1 (.idxCopy .ix d .d) s
/-- `RES 1,(IX+d),E` (R351). -/
def exec_res_1_ixd_e (d : Byte) (s : State) : Result := bitReset .b1 (.idxCopy .ix d .e) s
/-- `RES 1,(IX+d),H` (R351). -/
def exec_res_1_ixd_h (d : Byte) (s : State) : Result := bitReset .b1 (.idxCopy .ix d .h) s
/-- `RES 1,(IX+d),L` (R351). -/
def exec_res_1_ixd_l (d : Byte) (s : State) : Result := bitReset .b1 (.idxCopy .ix d .l) s
/-- `RES 1,(IX+d)` (R349). -/
def exec_res_1_ixd (d : Byte) (s : State) : Result := bitReset .b1 (.idx .ix d) s
/-- `RES 1,(IX+d),A` (R351). -/
def exec_res_1_ixd_a (d : Byte) (s : State) : Result := bitReset .b1 (.idxCopy .ix d .a) s
/-- `RES 2,(IX+d),B` (R351). -/
def exec_res_2_ixd_b (d : Byte) (s : State) : Result := bitReset .b2 (.idxCopy .ix d .b) s
/-- `RES 2,(IX+d),C` (R351). -/
def exec_res_2_ixd_c (d : Byte) (s : State) : Result := bitReset .b2 (.idxCopy .ix d .c) s
/-- `RES 2,(IX+d),D` (R351). -/
def exec_res_2_ixd_d (d : Byte) (s : State) : Result := bitReset .b2 (.idxCopy .ix d .d) s
/-- `RES 2,(IX+d),E` (R351). -/
def exec_res_2_ixd_e (d : Byte) (s : State) : Result := bitReset .b2 (.idxCopy .ix d .e) s
/-- `RES 2,(IX+d),H` (R351). -/
def exec_res_2_ixd_h (d : Byte) (s : State) : Result := bitReset .b2 (.idxCopy .ix d .h) s
/-- `RES 2,(IX+d),L` (R351). -/
def exec_res_2_ixd_l (d : Byte) (s : State) : Result := bitReset .b2 (.idxCopy .ix d .l) s
/-- `RES 2,(IX+d)` (R349). -/
def exec_res_2_ixd (d : Byte) (s : State) : Result := bitReset .b2 (.idx .ix d) s
/-- `RES 2,(IX+d),A` (R351). -/
def exec_res_2_ixd_a (d : Byte) (s : State) : Result := bitReset .b2 (.idxCopy .ix d .a) s
/-- `RES 3,(IX+d),B` (R351). -/
def exec_res_3_ixd_b (d : Byte) (s : State) : Result := bitReset .b3 (.idxCopy .ix d .b) s
/-- `RES 3,(IX+d),C` (R351). -/
def exec_res_3_ixd_c (d : Byte) (s : State) : Result := bitReset .b3 (.idxCopy .ix d .c) s
/-- `RES 3,(IX+d),D` (R351). -/
def exec_res_3_ixd_d (d : Byte) (s : State) : Result := bitReset .b3 (.idxCopy .ix d .d) s
/-- `RES 3,(IX+d),E` (R351). -/
def exec_res_3_ixd_e (d : Byte) (s : State) : Result := bitReset .b3 (.idxCopy .ix d .e) s
/-- `RES 3,(IX+d),H` (R351). -/
def exec_res_3_ixd_h (d : Byte) (s : State) : Result := bitReset .b3 (.idxCopy .ix d .h) s
/-- `RES 3,(IX+d),L` (R351). -/
def exec_res_3_ixd_l (d : Byte) (s : State) : Result := bitReset .b3 (.idxCopy .ix d .l) s
/-- `RES 3,(IX+d)` (R349). -/
def exec_res_3_ixd (d : Byte) (s : State) : Result := bitReset .b3 (.idx .ix d) s
/-- `RES 3,(IX+d),A` (R351). -/
def exec_res_3_ixd_a (d : Byte) (s : State) : Result := bitReset .b3 (.idxCopy .ix d .a) s
/-- `RES 4,(IX+d),B` (R351). -/
def exec_res_4_ixd_b (d : Byte) (s : State) : Result := bitReset .b4 (.idxCopy .ix d .b) s
/-- `RES 4,(IX+d),C` (R351). -/
def exec_res_4_ixd_c (d : Byte) (s : State) : Result := bitReset .b4 (.idxCopy .ix d .c) s
/-- `RES 4,(IX+d),D` (R351). -/
def exec_res_4_ixd_d (d : Byte) (s : State) : Result := bitReset .b4 (.idxCopy .ix d .d) s
/-- `RES 4,(IX+d),E` (R351). -/
def exec_res_4_ixd_e (d : Byte) (s : State) : Result := bitReset .b4 (.idxCopy .ix d .e) s
/-- `RES 4,(IX+d),H` (R351). -/
def exec_res_4_ixd_h (d : Byte) (s : State) : Result := bitReset .b4 (.idxCopy .ix d .h) s
/-- `RES 4,(IX+d),L` (R351). -/
def exec_res_4_ixd_l (d : Byte) (s : State) : Result := bitReset .b4 (.idxCopy .ix d .l) s
/-- `RES 4,(IX+d)` (R349). -/
def exec_res_4_ixd (d : Byte) (s : State) : Result := bitReset .b4 (.idx .ix d) s
/-- `RES 4,(IX+d),A` (R351). -/
def exec_res_4_ixd_a (d : Byte) (s : State) : Result := bitReset .b4 (.idxCopy .ix d .a) s
/-- `RES 5,(IX+d),B` (R351). -/
def exec_res_5_ixd_b (d : Byte) (s : State) : Result := bitReset .b5 (.idxCopy .ix d .b) s
/-- `RES 5,(IX+d),C` (R351). -/
def exec_res_5_ixd_c (d : Byte) (s : State) : Result := bitReset .b5 (.idxCopy .ix d .c) s
/-- `RES 5,(IX+d),D` (R351). -/
def exec_res_5_ixd_d (d : Byte) (s : State) : Result := bitReset .b5 (.idxCopy .ix d .d) s
/-- `RES 5,(IX+d),E` (R351). -/
def exec_res_5_ixd_e (d : Byte) (s : State) : Result := bitReset .b5 (.idxCopy .ix d .e) s
/-- `RES 5,(IX+d),H` (R351). -/
def exec_res_5_ixd_h (d : Byte) (s : State) : Result := bitReset .b5 (.idxCopy .ix d .h) s
/-- `RES 5,(IX+d),L` (R351). -/
def exec_res_5_ixd_l (d : Byte) (s : State) : Result := bitReset .b5 (.idxCopy .ix d .l) s
/-- `RES 5,(IX+d)` (R349). -/
def exec_res_5_ixd (d : Byte) (s : State) : Result := bitReset .b5 (.idx .ix d) s
/-- `RES 5,(IX+d),A` (R351). -/
def exec_res_5_ixd_a (d : Byte) (s : State) : Result := bitReset .b5 (.idxCopy .ix d .a) s
/-- `RES 6,(IX+d),B` (R351). -/
def exec_res_6_ixd_b (d : Byte) (s : State) : Result := bitReset .b6 (.idxCopy .ix d .b) s
/-- `RES 6,(IX+d),C` (R351). -/
def exec_res_6_ixd_c (d : Byte) (s : State) : Result := bitReset .b6 (.idxCopy .ix d .c) s
/-- `RES 6,(IX+d),D` (R351). -/
def exec_res_6_ixd_d (d : Byte) (s : State) : Result := bitReset .b6 (.idxCopy .ix d .d) s
/-- `RES 6,(IX+d),E` (R351). -/
def exec_res_6_ixd_e (d : Byte) (s : State) : Result := bitReset .b6 (.idxCopy .ix d .e) s
/-- `RES 6,(IX+d),H` (R351). -/
def exec_res_6_ixd_h (d : Byte) (s : State) : Result := bitReset .b6 (.idxCopy .ix d .h) s
/-- `RES 6,(IX+d),L` (R351). -/
def exec_res_6_ixd_l (d : Byte) (s : State) : Result := bitReset .b6 (.idxCopy .ix d .l) s
/-- `RES 6,(IX+d)` (R349). -/
def exec_res_6_ixd (d : Byte) (s : State) : Result := bitReset .b6 (.idx .ix d) s
/-- `RES 6,(IX+d),A` (R351). -/
def exec_res_6_ixd_a (d : Byte) (s : State) : Result := bitReset .b6 (.idxCopy .ix d .a) s
/-- `RES 7,(IX+d),B` (R351). -/
def exec_res_7_ixd_b (d : Byte) (s : State) : Result := bitReset .b7 (.idxCopy .ix d .b) s
/-- `RES 7,(IX+d),C` (R351). -/
def exec_res_7_ixd_c (d : Byte) (s : State) : Result := bitReset .b7 (.idxCopy .ix d .c) s
/-- `RES 7,(IX+d),D` (R351). -/
def exec_res_7_ixd_d (d : Byte) (s : State) : Result := bitReset .b7 (.idxCopy .ix d .d) s
/-- `RES 7,(IX+d),E` (R351). -/
def exec_res_7_ixd_e (d : Byte) (s : State) : Result := bitReset .b7 (.idxCopy .ix d .e) s
/-- `RES 7,(IX+d),H` (R351). -/
def exec_res_7_ixd_h (d : Byte) (s : State) : Result := bitReset .b7 (.idxCopy .ix d .h) s
/-- `RES 7,(IX+d),L` (R351). -/
def exec_res_7_ixd_l (d : Byte) (s : State) : Result := bitReset .b7 (.idxCopy .ix d .l) s
/-- `RES 7,(IX+d)` (R349). -/
def exec_res_7_ixd (d : Byte) (s : State) : Result := bitReset .b7 (.idx .ix d) s
/-- `RES 7,(IX+d),A` (R351). -/
def exec_res_7_ixd_a (d : Byte) (s : State) : Result := bitReset .b7 (.idxCopy .ix d .a) s
/-- `SET 0,(IX+d),B` (R351). -/
def exec_set_0_ixd_b (d : Byte) (s : State) : Result := bitSet .b0 (.idxCopy .ix d .b) s
/-- `SET 0,(IX+d),C` (R351). -/
def exec_set_0_ixd_c (d : Byte) (s : State) : Result := bitSet .b0 (.idxCopy .ix d .c) s
/-- `SET 0,(IX+d),D` (R351). -/
def exec_set_0_ixd_d (d : Byte) (s : State) : Result := bitSet .b0 (.idxCopy .ix d .d) s
/-- `SET 0,(IX+d),E` (R351). -/
def exec_set_0_ixd_e (d : Byte) (s : State) : Result := bitSet .b0 (.idxCopy .ix d .e) s
/-- `SET 0,(IX+d),H` (R351). -/
def exec_set_0_ixd_h (d : Byte) (s : State) : Result := bitSet .b0 (.idxCopy .ix d .h) s
/-- `SET 0,(IX+d),L` (R351). -/
def exec_set_0_ixd_l (d : Byte) (s : State) : Result := bitSet .b0 (.idxCopy .ix d .l) s
/-- `SET 0,(IX+d)` (R350). -/
def exec_set_0_ixd (d : Byte) (s : State) : Result := bitSet .b0 (.idx .ix d) s
/-- `SET 0,(IX+d),A` (R351). -/
def exec_set_0_ixd_a (d : Byte) (s : State) : Result := bitSet .b0 (.idxCopy .ix d .a) s
/-- `SET 1,(IX+d),B` (R351). -/
def exec_set_1_ixd_b (d : Byte) (s : State) : Result := bitSet .b1 (.idxCopy .ix d .b) s
/-- `SET 1,(IX+d),C` (R351). -/
def exec_set_1_ixd_c (d : Byte) (s : State) : Result := bitSet .b1 (.idxCopy .ix d .c) s
/-- `SET 1,(IX+d),D` (R351). -/
def exec_set_1_ixd_d (d : Byte) (s : State) : Result := bitSet .b1 (.idxCopy .ix d .d) s
/-- `SET 1,(IX+d),E` (R351). -/
def exec_set_1_ixd_e (d : Byte) (s : State) : Result := bitSet .b1 (.idxCopy .ix d .e) s
/-- `SET 1,(IX+d),H` (R351). -/
def exec_set_1_ixd_h (d : Byte) (s : State) : Result := bitSet .b1 (.idxCopy .ix d .h) s
/-- `SET 1,(IX+d),L` (R351). -/
def exec_set_1_ixd_l (d : Byte) (s : State) : Result := bitSet .b1 (.idxCopy .ix d .l) s
/-- `SET 1,(IX+d)` (R350). -/
def exec_set_1_ixd (d : Byte) (s : State) : Result := bitSet .b1 (.idx .ix d) s
/-- `SET 1,(IX+d),A` (R351). -/
def exec_set_1_ixd_a (d : Byte) (s : State) : Result := bitSet .b1 (.idxCopy .ix d .a) s
/-- `SET 2,(IX+d),B` (R351). -/
def exec_set_2_ixd_b (d : Byte) (s : State) : Result := bitSet .b2 (.idxCopy .ix d .b) s
/-- `SET 2,(IX+d),C` (R351). -/
def exec_set_2_ixd_c (d : Byte) (s : State) : Result := bitSet .b2 (.idxCopy .ix d .c) s
/-- `SET 2,(IX+d),D` (R351). -/
def exec_set_2_ixd_d (d : Byte) (s : State) : Result := bitSet .b2 (.idxCopy .ix d .d) s
/-- `SET 2,(IX+d),E` (R351). -/
def exec_set_2_ixd_e (d : Byte) (s : State) : Result := bitSet .b2 (.idxCopy .ix d .e) s
/-- `SET 2,(IX+d),H` (R351). -/
def exec_set_2_ixd_h (d : Byte) (s : State) : Result := bitSet .b2 (.idxCopy .ix d .h) s
/-- `SET 2,(IX+d),L` (R351). -/
def exec_set_2_ixd_l (d : Byte) (s : State) : Result := bitSet .b2 (.idxCopy .ix d .l) s
/-- `SET 2,(IX+d)` (R350). -/
def exec_set_2_ixd (d : Byte) (s : State) : Result := bitSet .b2 (.idx .ix d) s
/-- `SET 2,(IX+d),A` (R351). -/
def exec_set_2_ixd_a (d : Byte) (s : State) : Result := bitSet .b2 (.idxCopy .ix d .a) s
/-- `SET 3,(IX+d),B` (R351). -/
def exec_set_3_ixd_b (d : Byte) (s : State) : Result := bitSet .b3 (.idxCopy .ix d .b) s
/-- `SET 3,(IX+d),C` (R351). -/
def exec_set_3_ixd_c (d : Byte) (s : State) : Result := bitSet .b3 (.idxCopy .ix d .c) s
/-- `SET 3,(IX+d),D` (R351). -/
def exec_set_3_ixd_d (d : Byte) (s : State) : Result := bitSet .b3 (.idxCopy .ix d .d) s
/-- `SET 3,(IX+d),E` (R351). -/
def exec_set_3_ixd_e (d : Byte) (s : State) : Result := bitSet .b3 (.idxCopy .ix d .e) s
/-- `SET 3,(IX+d),H` (R351). -/
def exec_set_3_ixd_h (d : Byte) (s : State) : Result := bitSet .b3 (.idxCopy .ix d .h) s
/-- `SET 3,(IX+d),L` (R351). -/
def exec_set_3_ixd_l (d : Byte) (s : State) : Result := bitSet .b3 (.idxCopy .ix d .l) s
/-- `SET 3,(IX+d)` (R350). -/
def exec_set_3_ixd (d : Byte) (s : State) : Result := bitSet .b3 (.idx .ix d) s
/-- `SET 3,(IX+d),A` (R351). -/
def exec_set_3_ixd_a (d : Byte) (s : State) : Result := bitSet .b3 (.idxCopy .ix d .a) s
/-- `SET 4,(IX+d),B` (R351). -/
def exec_set_4_ixd_b (d : Byte) (s : State) : Result := bitSet .b4 (.idxCopy .ix d .b) s
/-- `SET 4,(IX+d),C` (R351). -/
def exec_set_4_ixd_c (d : Byte) (s : State) : Result := bitSet .b4 (.idxCopy .ix d .c) s
/-- `SET 4,(IX+d),D` (R351). -/
def exec_set_4_ixd_d (d : Byte) (s : State) : Result := bitSet .b4 (.idxCopy .ix d .d) s
/-- `SET 4,(IX+d),E` (R351). -/
def exec_set_4_ixd_e (d : Byte) (s : State) : Result := bitSet .b4 (.idxCopy .ix d .e) s
/-- `SET 4,(IX+d),H` (R351). -/
def exec_set_4_ixd_h (d : Byte) (s : State) : Result := bitSet .b4 (.idxCopy .ix d .h) s
/-- `SET 4,(IX+d),L` (R351). -/
def exec_set_4_ixd_l (d : Byte) (s : State) : Result := bitSet .b4 (.idxCopy .ix d .l) s
/-- `SET 4,(IX+d)` (R350). -/
def exec_set_4_ixd (d : Byte) (s : State) : Result := bitSet .b4 (.idx .ix d) s
/-- `SET 4,(IX+d),A` (R351). -/
def exec_set_4_ixd_a (d : Byte) (s : State) : Result := bitSet .b4 (.idxCopy .ix d .a) s
/-- `SET 5,(IX+d),B` (R351). -/
def exec_set_5_ixd_b (d : Byte) (s : State) : Result := bitSet .b5 (.idxCopy .ix d .b) s
/-- `SET 5,(IX+d),C` (R351). -/
def exec_set_5_ixd_c (d : Byte) (s : State) : Result := bitSet .b5 (.idxCopy .ix d .c) s
/-- `SET 5,(IX+d),D` (R351). -/
def exec_set_5_ixd_d (d : Byte) (s : State) : Result := bitSet .b5 (.idxCopy .ix d .d) s
/-- `SET 5,(IX+d),E` (R351). -/
def exec_set_5_ixd_e (d : Byte) (s : State) : Result := bitSet .b5 (.idxCopy .ix d .e) s
/-- `SET 5,(IX+d),H` (R351). -/
def exec_set_5_ixd_h (d : Byte) (s : State) : Result := bitSet .b5 (.idxCopy .ix d .h) s
/-- `SET 5,(IX+d),L` (R351). -/
def exec_set_5_ixd_l (d : Byte) (s : State) : Result := bitSet .b5 (.idxCopy .ix d .l) s
/-- `SET 5,(IX+d)` (R350). -/
def exec_set_5_ixd (d : Byte) (s : State) : Result := bitSet .b5 (.idx .ix d) s
/-- `SET 5,(IX+d),A` (R351). -/
def exec_set_5_ixd_a (d : Byte) (s : State) : Result := bitSet .b5 (.idxCopy .ix d .a) s
/-- `SET 6,(IX+d),B` (R351). -/
def exec_set_6_ixd_b (d : Byte) (s : State) : Result := bitSet .b6 (.idxCopy .ix d .b) s
/-- `SET 6,(IX+d),C` (R351). -/
def exec_set_6_ixd_c (d : Byte) (s : State) : Result := bitSet .b6 (.idxCopy .ix d .c) s
/-- `SET 6,(IX+d),D` (R351). -/
def exec_set_6_ixd_d (d : Byte) (s : State) : Result := bitSet .b6 (.idxCopy .ix d .d) s
/-- `SET 6,(IX+d),E` (R351). -/
def exec_set_6_ixd_e (d : Byte) (s : State) : Result := bitSet .b6 (.idxCopy .ix d .e) s
/-- `SET 6,(IX+d),H` (R351). -/
def exec_set_6_ixd_h (d : Byte) (s : State) : Result := bitSet .b6 (.idxCopy .ix d .h) s
/-- `SET 6,(IX+d),L` (R351). -/
def exec_set_6_ixd_l (d : Byte) (s : State) : Result := bitSet .b6 (.idxCopy .ix d .l) s
/-- `SET 6,(IX+d)` (R350). -/
def exec_set_6_ixd (d : Byte) (s : State) : Result := bitSet .b6 (.idx .ix d) s
/-- `SET 6,(IX+d),A` (R351). -/
def exec_set_6_ixd_a (d : Byte) (s : State) : Result := bitSet .b6 (.idxCopy .ix d .a) s
/-- `SET 7,(IX+d),B` (R351). -/
def exec_set_7_ixd_b (d : Byte) (s : State) : Result := bitSet .b7 (.idxCopy .ix d .b) s
/-- `SET 7,(IX+d),C` (R351). -/
def exec_set_7_ixd_c (d : Byte) (s : State) : Result := bitSet .b7 (.idxCopy .ix d .c) s
/-- `SET 7,(IX+d),D` (R351). -/
def exec_set_7_ixd_d (d : Byte) (s : State) : Result := bitSet .b7 (.idxCopy .ix d .d) s
/-- `SET 7,(IX+d),E` (R351). -/
def exec_set_7_ixd_e (d : Byte) (s : State) : Result := bitSet .b7 (.idxCopy .ix d .e) s
/-- `SET 7,(IX+d),H` (R351). -/
def exec_set_7_ixd_h (d : Byte) (s : State) : Result := bitSet .b7 (.idxCopy .ix d .h) s
/-- `SET 7,(IX+d),L` (R351). -/
def exec_set_7_ixd_l (d : Byte) (s : State) : Result := bitSet .b7 (.idxCopy .ix d .l) s
/-- `SET 7,(IX+d)` (R350). -/
def exec_set_7_ixd (d : Byte) (s : State) : Result := bitSet .b7 (.idx .ix d) s
/-- `SET 7,(IX+d),A` (R351). -/
def exec_set_7_ixd_a (d : Byte) (s : State) : Result := bitSet .b7 (.idxCopy .ix d .a) s
/-- `BIT 0,(IY+d)` (R348). -/
def exec_bit_0_iyd_z0 (d : Byte) (s : State) : Result := bitTest .b0 (.idxCopy .iy d .b) s
/-- `BIT 0,(IY+d)` (R348). -/
def exec_bit_0_iyd_z1 (d : Byte) (s : State) : Result := bitTest .b0 (.idxCopy .iy d .c) s
/-- `BIT 0,(IY+d)` (R348). -/
def exec_bit_0_iyd_z2 (d : Byte) (s : State) : Result := bitTest .b0 (.idxCopy .iy d .d) s
/-- `BIT 0,(IY+d)` (R348). -/
def exec_bit_0_iyd_z3 (d : Byte) (s : State) : Result := bitTest .b0 (.idxCopy .iy d .e) s
/-- `BIT 0,(IY+d)` (R348). -/
def exec_bit_0_iyd_z4 (d : Byte) (s : State) : Result := bitTest .b0 (.idxCopy .iy d .h) s
/-- `BIT 0,(IY+d)` (R348). -/
def exec_bit_0_iyd_z5 (d : Byte) (s : State) : Result := bitTest .b0 (.idxCopy .iy d .l) s
/-- `BIT 0,(IY+d)` (R348). -/
def exec_bit_0_iyd (d : Byte) (s : State) : Result := bitTest .b0 (.idx .iy d) s
/-- `BIT 0,(IY+d)` (R348). -/
def exec_bit_0_iyd_z7 (d : Byte) (s : State) : Result := bitTest .b0 (.idxCopy .iy d .a) s
/-- `BIT 1,(IY+d)` (R348). -/
def exec_bit_1_iyd_z0 (d : Byte) (s : State) : Result := bitTest .b1 (.idxCopy .iy d .b) s
/-- `BIT 1,(IY+d)` (R348). -/
def exec_bit_1_iyd_z1 (d : Byte) (s : State) : Result := bitTest .b1 (.idxCopy .iy d .c) s
/-- `BIT 1,(IY+d)` (R348). -/
def exec_bit_1_iyd_z2 (d : Byte) (s : State) : Result := bitTest .b1 (.idxCopy .iy d .d) s
/-- `BIT 1,(IY+d)` (R348). -/
def exec_bit_1_iyd_z3 (d : Byte) (s : State) : Result := bitTest .b1 (.idxCopy .iy d .e) s
/-- `BIT 1,(IY+d)` (R348). -/
def exec_bit_1_iyd_z4 (d : Byte) (s : State) : Result := bitTest .b1 (.idxCopy .iy d .h) s
/-- `BIT 1,(IY+d)` (R348). -/
def exec_bit_1_iyd_z5 (d : Byte) (s : State) : Result := bitTest .b1 (.idxCopy .iy d .l) s
/-- `BIT 1,(IY+d)` (R348). -/
def exec_bit_1_iyd (d : Byte) (s : State) : Result := bitTest .b1 (.idx .iy d) s
/-- `BIT 1,(IY+d)` (R348). -/
def exec_bit_1_iyd_z7 (d : Byte) (s : State) : Result := bitTest .b1 (.idxCopy .iy d .a) s
/-- `BIT 2,(IY+d)` (R348). -/
def exec_bit_2_iyd_z0 (d : Byte) (s : State) : Result := bitTest .b2 (.idxCopy .iy d .b) s
/-- `BIT 2,(IY+d)` (R348). -/
def exec_bit_2_iyd_z1 (d : Byte) (s : State) : Result := bitTest .b2 (.idxCopy .iy d .c) s
/-- `BIT 2,(IY+d)` (R348). -/
def exec_bit_2_iyd_z2 (d : Byte) (s : State) : Result := bitTest .b2 (.idxCopy .iy d .d) s
/-- `BIT 2,(IY+d)` (R348). -/
def exec_bit_2_iyd_z3 (d : Byte) (s : State) : Result := bitTest .b2 (.idxCopy .iy d .e) s
/-- `BIT 2,(IY+d)` (R348). -/
def exec_bit_2_iyd_z4 (d : Byte) (s : State) : Result := bitTest .b2 (.idxCopy .iy d .h) s
/-- `BIT 2,(IY+d)` (R348). -/
def exec_bit_2_iyd_z5 (d : Byte) (s : State) : Result := bitTest .b2 (.idxCopy .iy d .l) s
/-- `BIT 2,(IY+d)` (R348). -/
def exec_bit_2_iyd (d : Byte) (s : State) : Result := bitTest .b2 (.idx .iy d) s
/-- `BIT 2,(IY+d)` (R348). -/
def exec_bit_2_iyd_z7 (d : Byte) (s : State) : Result := bitTest .b2 (.idxCopy .iy d .a) s
/-- `BIT 3,(IY+d)` (R348). -/
def exec_bit_3_iyd_z0 (d : Byte) (s : State) : Result := bitTest .b3 (.idxCopy .iy d .b) s
/-- `BIT 3,(IY+d)` (R348). -/
def exec_bit_3_iyd_z1 (d : Byte) (s : State) : Result := bitTest .b3 (.idxCopy .iy d .c) s
/-- `BIT 3,(IY+d)` (R348). -/
def exec_bit_3_iyd_z2 (d : Byte) (s : State) : Result := bitTest .b3 (.idxCopy .iy d .d) s
/-- `BIT 3,(IY+d)` (R348). -/
def exec_bit_3_iyd_z3 (d : Byte) (s : State) : Result := bitTest .b3 (.idxCopy .iy d .e) s
/-- `BIT 3,(IY+d)` (R348). -/
def exec_bit_3_iyd_z4 (d : Byte) (s : State) : Result := bitTest .b3 (.idxCopy .iy d .h) s
/-- `BIT 3,(IY+d)` (R348). -/
def exec_bit_3_iyd_z5 (d : Byte) (s : State) : Result := bitTest .b3 (.idxCopy .iy d .l) s
/-- `BIT 3,(IY+d)` (R348). -/
def exec_bit_3_iyd (d : Byte) (s : State) : Result := bitTest .b3 (.idx .iy d) s
/-- `BIT 3,(IY+d)` (R348). -/
def exec_bit_3_iyd_z7 (d : Byte) (s : State) : Result := bitTest .b3 (.idxCopy .iy d .a) s
/-- `BIT 4,(IY+d)` (R348). -/
def exec_bit_4_iyd_z0 (d : Byte) (s : State) : Result := bitTest .b4 (.idxCopy .iy d .b) s
/-- `BIT 4,(IY+d)` (R348). -/
def exec_bit_4_iyd_z1 (d : Byte) (s : State) : Result := bitTest .b4 (.idxCopy .iy d .c) s
/-- `BIT 4,(IY+d)` (R348). -/
def exec_bit_4_iyd_z2 (d : Byte) (s : State) : Result := bitTest .b4 (.idxCopy .iy d .d) s
/-- `BIT 4,(IY+d)` (R348). -/
def exec_bit_4_iyd_z3 (d : Byte) (s : State) : Result := bitTest .b4 (.idxCopy .iy d .e) s
/-- `BIT 4,(IY+d)` (R348). -/
def exec_bit_4_iyd_z4 (d : Byte) (s : State) : Result := bitTest .b4 (.idxCopy .iy d .h) s
/-- `BIT 4,(IY+d)` (R348). -/
def exec_bit_4_iyd_z5 (d : Byte) (s : State) : Result := bitTest .b4 (.idxCopy .iy d .l) s
/-- `BIT 4,(IY+d)` (R348). -/
def exec_bit_4_iyd (d : Byte) (s : State) : Result := bitTest .b4 (.idx .iy d) s
/-- `BIT 4,(IY+d)` (R348). -/
def exec_bit_4_iyd_z7 (d : Byte) (s : State) : Result := bitTest .b4 (.idxCopy .iy d .a) s
/-- `BIT 5,(IY+d)` (R348). -/
def exec_bit_5_iyd_z0 (d : Byte) (s : State) : Result := bitTest .b5 (.idxCopy .iy d .b) s
/-- `BIT 5,(IY+d)` (R348). -/
def exec_bit_5_iyd_z1 (d : Byte) (s : State) : Result := bitTest .b5 (.idxCopy .iy d .c) s
/-- `BIT 5,(IY+d)` (R348). -/
def exec_bit_5_iyd_z2 (d : Byte) (s : State) : Result := bitTest .b5 (.idxCopy .iy d .d) s
/-- `BIT 5,(IY+d)` (R348). -/
def exec_bit_5_iyd_z3 (d : Byte) (s : State) : Result := bitTest .b5 (.idxCopy .iy d .e) s
/-- `BIT 5,(IY+d)` (R348). -/
def exec_bit_5_iyd_z4 (d : Byte) (s : State) : Result := bitTest .b5 (.idxCopy .iy d .h) s
/-- `BIT 5,(IY+d)` (R348). -/
def exec_bit_5_iyd_z5 (d : Byte) (s : State) : Result := bitTest .b5 (.idxCopy .iy d .l) s
/-- `BIT 5,(IY+d)` (R348). -/
def exec_bit_5_iyd (d : Byte) (s : State) : Result := bitTest .b5 (.idx .iy d) s
/-- `BIT 5,(IY+d)` (R348). -/
def exec_bit_5_iyd_z7 (d : Byte) (s : State) : Result := bitTest .b5 (.idxCopy .iy d .a) s
/-- `BIT 6,(IY+d)` (R348). -/
def exec_bit_6_iyd_z0 (d : Byte) (s : State) : Result := bitTest .b6 (.idxCopy .iy d .b) s
/-- `BIT 6,(IY+d)` (R348). -/
def exec_bit_6_iyd_z1 (d : Byte) (s : State) : Result := bitTest .b6 (.idxCopy .iy d .c) s
/-- `BIT 6,(IY+d)` (R348). -/
def exec_bit_6_iyd_z2 (d : Byte) (s : State) : Result := bitTest .b6 (.idxCopy .iy d .d) s
/-- `BIT 6,(IY+d)` (R348). -/
def exec_bit_6_iyd_z3 (d : Byte) (s : State) : Result := bitTest .b6 (.idxCopy .iy d .e) s
/-- `BIT 6,(IY+d)` (R348). -/
def exec_bit_6_iyd_z4 (d : Byte) (s : State) : Result := bitTest .b6 (.idxCopy .iy d .h) s
/-- `BIT 6,(IY+d)` (R348). -/
def exec_bit_6_iyd_z5 (d : Byte) (s : State) : Result := bitTest .b6 (.idxCopy .iy d .l) s
/-- `BIT 6,(IY+d)` (R348). -/
def exec_bit_6_iyd (d : Byte) (s : State) : Result := bitTest .b6 (.idx .iy d) s
/-- `BIT 6,(IY+d)` (R348). -/
def exec_bit_6_iyd_z7 (d : Byte) (s : State) : Result := bitTest .b6 (.idxCopy .iy d .a) s
/-- `BIT 7,(IY+d)` (R348). -/
def exec_bit_7_iyd_z0 (d : Byte) (s : State) : Result := bitTest .b7 (.idxCopy .iy d .b) s
/-- `BIT 7,(IY+d)` (R348). -/
def exec_bit_7_iyd_z1 (d : Byte) (s : State) : Result := bitTest .b7 (.idxCopy .iy d .c) s
/-- `BIT 7,(IY+d)` (R348). -/
def exec_bit_7_iyd_z2 (d : Byte) (s : State) : Result := bitTest .b7 (.idxCopy .iy d .d) s
/-- `BIT 7,(IY+d)` (R348). -/
def exec_bit_7_iyd_z3 (d : Byte) (s : State) : Result := bitTest .b7 (.idxCopy .iy d .e) s
/-- `BIT 7,(IY+d)` (R348). -/
def exec_bit_7_iyd_z4 (d : Byte) (s : State) : Result := bitTest .b7 (.idxCopy .iy d .h) s
/-- `BIT 7,(IY+d)` (R348). -/
def exec_bit_7_iyd_z5 (d : Byte) (s : State) : Result := bitTest .b7 (.idxCopy .iy d .l) s
/-- `BIT 7,(IY+d)` (R348). -/
def exec_bit_7_iyd (d : Byte) (s : State) : Result := bitTest .b7 (.idx .iy d) s
/-- `BIT 7,(IY+d)` (R348). -/
def exec_bit_7_iyd_z7 (d : Byte) (s : State) : Result := bitTest .b7 (.idxCopy .iy d .a) s
/-- `RES 0,(IY+d),B` (R351). -/
def exec_res_0_iyd_b (d : Byte) (s : State) : Result := bitReset .b0 (.idxCopy .iy d .b) s
/-- `RES 0,(IY+d),C` (R351). -/
def exec_res_0_iyd_c (d : Byte) (s : State) : Result := bitReset .b0 (.idxCopy .iy d .c) s
/-- `RES 0,(IY+d),D` (R351). -/
def exec_res_0_iyd_d (d : Byte) (s : State) : Result := bitReset .b0 (.idxCopy .iy d .d) s
/-- `RES 0,(IY+d),E` (R351). -/
def exec_res_0_iyd_e (d : Byte) (s : State) : Result := bitReset .b0 (.idxCopy .iy d .e) s
/-- `RES 0,(IY+d),H` (R351). -/
def exec_res_0_iyd_h (d : Byte) (s : State) : Result := bitReset .b0 (.idxCopy .iy d .h) s
/-- `RES 0,(IY+d),L` (R351). -/
def exec_res_0_iyd_l (d : Byte) (s : State) : Result := bitReset .b0 (.idxCopy .iy d .l) s
/-- `RES 0,(IY+d)` (R349). -/
def exec_res_0_iyd (d : Byte) (s : State) : Result := bitReset .b0 (.idx .iy d) s
/-- `RES 0,(IY+d),A` (R351). -/
def exec_res_0_iyd_a (d : Byte) (s : State) : Result := bitReset .b0 (.idxCopy .iy d .a) s
/-- `RES 1,(IY+d),B` (R351). -/
def exec_res_1_iyd_b (d : Byte) (s : State) : Result := bitReset .b1 (.idxCopy .iy d .b) s
/-- `RES 1,(IY+d),C` (R351). -/
def exec_res_1_iyd_c (d : Byte) (s : State) : Result := bitReset .b1 (.idxCopy .iy d .c) s
/-- `RES 1,(IY+d),D` (R351). -/
def exec_res_1_iyd_d (d : Byte) (s : State) : Result := bitReset .b1 (.idxCopy .iy d .d) s
/-- `RES 1,(IY+d),E` (R351). -/
def exec_res_1_iyd_e (d : Byte) (s : State) : Result := bitReset .b1 (.idxCopy .iy d .e) s
/-- `RES 1,(IY+d),H` (R351). -/
def exec_res_1_iyd_h (d : Byte) (s : State) : Result := bitReset .b1 (.idxCopy .iy d .h) s
/-- `RES 1,(IY+d),L` (R351). -/
def exec_res_1_iyd_l (d : Byte) (s : State) : Result := bitReset .b1 (.idxCopy .iy d .l) s
/-- `RES 1,(IY+d)` (R349). -/
def exec_res_1_iyd (d : Byte) (s : State) : Result := bitReset .b1 (.idx .iy d) s
/-- `RES 1,(IY+d),A` (R351). -/
def exec_res_1_iyd_a (d : Byte) (s : State) : Result := bitReset .b1 (.idxCopy .iy d .a) s
/-- `RES 2,(IY+d),B` (R351). -/
def exec_res_2_iyd_b (d : Byte) (s : State) : Result := bitReset .b2 (.idxCopy .iy d .b) s
/-- `RES 2,(IY+d),C` (R351). -/
def exec_res_2_iyd_c (d : Byte) (s : State) : Result := bitReset .b2 (.idxCopy .iy d .c) s
/-- `RES 2,(IY+d),D` (R351). -/
def exec_res_2_iyd_d (d : Byte) (s : State) : Result := bitReset .b2 (.idxCopy .iy d .d) s
/-- `RES 2,(IY+d),E` (R351). -/
def exec_res_2_iyd_e (d : Byte) (s : State) : Result := bitReset .b2 (.idxCopy .iy d .e) s
/-- `RES 2,(IY+d),H` (R351). -/
def exec_res_2_iyd_h (d : Byte) (s : State) : Result := bitReset .b2 (.idxCopy .iy d .h) s
/-- `RES 2,(IY+d),L` (R351). -/
def exec_res_2_iyd_l (d : Byte) (s : State) : Result := bitReset .b2 (.idxCopy .iy d .l) s
/-- `RES 2,(IY+d)` (R349). -/
def exec_res_2_iyd (d : Byte) (s : State) : Result := bitReset .b2 (.idx .iy d) s
/-- `RES 2,(IY+d),A` (R351). -/
def exec_res_2_iyd_a (d : Byte) (s : State) : Result := bitReset .b2 (.idxCopy .iy d .a) s
/-- `RES 3,(IY+d),B` (R351). -/
def exec_res_3_iyd_b (d : Byte) (s : State) : Result := bitReset .b3 (.idxCopy .iy d .b) s
/-- `RES 3,(IY+d),C` (R351). -/
def exec_res_3_iyd_c (d : Byte) (s : State) : Result := bitReset .b3 (.idxCopy .iy d .c) s
/-- `RES 3,(IY+d),D` (R351). -/
def exec_res_3_iyd_d (d : Byte) (s : State) : Result := bitReset .b3 (.idxCopy .iy d .d) s
/-- `RES 3,(IY+d),E` (R351). -/
def exec_res_3_iyd_e (d : Byte) (s : State) : Result := bitReset .b3 (.idxCopy .iy d .e) s
/-- `RES 3,(IY+d),H` (R351). -/
def exec_res_3_iyd_h (d : Byte) (s : State) : Result := bitReset .b3 (.idxCopy .iy d .h) s
/-- `RES 3,(IY+d),L` (R351). -/
def exec_res_3_iyd_l (d : Byte) (s : State) : Result := bitReset .b3 (.idxCopy .iy d .l) s
/-- `RES 3,(IY+d)` (R349). -/
def exec_res_3_iyd (d : Byte) (s : State) : Result := bitReset .b3 (.idx .iy d) s
/-- `RES 3,(IY+d),A` (R351). -/
def exec_res_3_iyd_a (d : Byte) (s : State) : Result := bitReset .b3 (.idxCopy .iy d .a) s
/-- `RES 4,(IY+d),B` (R351). -/
def exec_res_4_iyd_b (d : Byte) (s : State) : Result := bitReset .b4 (.idxCopy .iy d .b) s
/-- `RES 4,(IY+d),C` (R351). -/
def exec_res_4_iyd_c (d : Byte) (s : State) : Result := bitReset .b4 (.idxCopy .iy d .c) s
/-- `RES 4,(IY+d),D` (R351). -/
def exec_res_4_iyd_d (d : Byte) (s : State) : Result := bitReset .b4 (.idxCopy .iy d .d) s
/-- `RES 4,(IY+d),E` (R351). -/
def exec_res_4_iyd_e (d : Byte) (s : State) : Result := bitReset .b4 (.idxCopy .iy d .e) s
/-- `RES 4,(IY+d),H` (R351). -/
def exec_res_4_iyd_h (d : Byte) (s : State) : Result := bitReset .b4 (.idxCopy .iy d .h) s
/-- `RES 4,(IY+d),L` (R351). -/
def exec_res_4_iyd_l (d : Byte) (s : State) : Result := bitReset .b4 (.idxCopy .iy d .l) s
/-- `RES 4,(IY+d)` (R349). -/
def exec_res_4_iyd (d : Byte) (s : State) : Result := bitReset .b4 (.idx .iy d) s
/-- `RES 4,(IY+d),A` (R351). -/
def exec_res_4_iyd_a (d : Byte) (s : State) : Result := bitReset .b4 (.idxCopy .iy d .a) s
/-- `RES 5,(IY+d),B` (R351). -/
def exec_res_5_iyd_b (d : Byte) (s : State) : Result := bitReset .b5 (.idxCopy .iy d .b) s
/-- `RES 5,(IY+d),C` (R351). -/
def exec_res_5_iyd_c (d : Byte) (s : State) : Result := bitReset .b5 (.idxCopy .iy d .c) s
/-- `RES 5,(IY+d),D` (R351). -/
def exec_res_5_iyd_d (d : Byte) (s : State) : Result := bitReset .b5 (.idxCopy .iy d .d) s
/-- `RES 5,(IY+d),E` (R351). -/
def exec_res_5_iyd_e (d : Byte) (s : State) : Result := bitReset .b5 (.idxCopy .iy d .e) s
/-- `RES 5,(IY+d),H` (R351). -/
def exec_res_5_iyd_h (d : Byte) (s : State) : Result := bitReset .b5 (.idxCopy .iy d .h) s
/-- `RES 5,(IY+d),L` (R351). -/
def exec_res_5_iyd_l (d : Byte) (s : State) : Result := bitReset .b5 (.idxCopy .iy d .l) s
/-- `RES 5,(IY+d)` (R349). -/
def exec_res_5_iyd (d : Byte) (s : State) : Result := bitReset .b5 (.idx .iy d) s
/-- `RES 5,(IY+d),A` (R351). -/
def exec_res_5_iyd_a (d : Byte) (s : State) : Result := bitReset .b5 (.idxCopy .iy d .a) s
/-- `RES 6,(IY+d),B` (R351). -/
def exec_res_6_iyd_b (d : Byte) (s : State) : Result := bitReset .b6 (.idxCopy .iy d .b) s
/-- `RES 6,(IY+d),C` (R351). -/
def exec_res_6_iyd_c (d : Byte) (s : State) : Result := bitReset .b6 (.idxCopy .iy d .c) s
/-- `RES 6,(IY+d),D` (R351). -/
def exec_res_6_iyd_d (d : Byte) (s : State) : Result := bitReset .b6 (.idxCopy .iy d .d) s
/-- `RES 6,(IY+d),E` (R351). -/
def exec_res_6_iyd_e (d : Byte) (s : State) : Result := bitReset .b6 (.idxCopy .iy d .e) s
/-- `RES 6,(IY+d),H` (R351). -/
def exec_res_6_iyd_h (d : Byte) (s : State) : Result := bitReset .b6 (.idxCopy .iy d .h) s
/-- `RES 6,(IY+d),L` (R351). -/
def exec_res_6_iyd_l (d : Byte) (s : State) : Result := bitReset .b6 (.idxCopy .iy d .l) s
/-- `RES 6,(IY+d)` (R349). -/
def exec_res_6_iyd (d : Byte) (s : State) : Result := bitReset .b6 (.idx .iy d) s
/-- `RES 6,(IY+d),A` (R351). -/
def exec_res_6_iyd_a (d : Byte) (s : State) : Result := bitReset .b6 (.idxCopy .iy d .a) s
/-- `RES 7,(IY+d),B` (R351). -/
def exec_res_7_iyd_b (d : Byte) (s : State) : Result := bitReset .b7 (.idxCopy .iy d .b) s
/-- `RES 7,(IY+d),C` (R351). -/
def exec_res_7_iyd_c (d : Byte) (s : State) : Result := bitReset .b7 (.idxCopy .iy d .c) s
/-- `RES 7,(IY+d),D` (R351). -/
def exec_res_7_iyd_d (d : Byte) (s : State) : Result := bitReset .b7 (.idxCopy .iy d .d) s
/-- `RES 7,(IY+d),E` (R351). -/
def exec_res_7_iyd_e (d : Byte) (s : State) : Result := bitReset .b7 (.idxCopy .iy d .e) s
/-- `RES 7,(IY+d),H` (R351). -/
def exec_res_7_iyd_h (d : Byte) (s : State) : Result := bitReset .b7 (.idxCopy .iy d .h) s
/-- `RES 7,(IY+d),L` (R351). -/
def exec_res_7_iyd_l (d : Byte) (s : State) : Result := bitReset .b7 (.idxCopy .iy d .l) s
/-- `RES 7,(IY+d)` (R349). -/
def exec_res_7_iyd (d : Byte) (s : State) : Result := bitReset .b7 (.idx .iy d) s
/-- `RES 7,(IY+d),A` (R351). -/
def exec_res_7_iyd_a (d : Byte) (s : State) : Result := bitReset .b7 (.idxCopy .iy d .a) s
/-- `SET 0,(IY+d),B` (R351). -/
def exec_set_0_iyd_b (d : Byte) (s : State) : Result := bitSet .b0 (.idxCopy .iy d .b) s
/-- `SET 0,(IY+d),C` (R351). -/
def exec_set_0_iyd_c (d : Byte) (s : State) : Result := bitSet .b0 (.idxCopy .iy d .c) s
/-- `SET 0,(IY+d),D` (R351). -/
def exec_set_0_iyd_d (d : Byte) (s : State) : Result := bitSet .b0 (.idxCopy .iy d .d) s
/-- `SET 0,(IY+d),E` (R351). -/
def exec_set_0_iyd_e (d : Byte) (s : State) : Result := bitSet .b0 (.idxCopy .iy d .e) s
/-- `SET 0,(IY+d),H` (R351). -/
def exec_set_0_iyd_h (d : Byte) (s : State) : Result := bitSet .b0 (.idxCopy .iy d .h) s
/-- `SET 0,(IY+d),L` (R351). -/
def exec_set_0_iyd_l (d : Byte) (s : State) : Result := bitSet .b0 (.idxCopy .iy d .l) s
/-- `SET 0,(IY+d)` (R350). -/
def exec_set_0_iyd (d : Byte) (s : State) : Result := bitSet .b0 (.idx .iy d) s
/-- `SET 0,(IY+d),A` (R351). -/
def exec_set_0_iyd_a (d : Byte) (s : State) : Result := bitSet .b0 (.idxCopy .iy d .a) s
/-- `SET 1,(IY+d),B` (R351). -/
def exec_set_1_iyd_b (d : Byte) (s : State) : Result := bitSet .b1 (.idxCopy .iy d .b) s
/-- `SET 1,(IY+d),C` (R351). -/
def exec_set_1_iyd_c (d : Byte) (s : State) : Result := bitSet .b1 (.idxCopy .iy d .c) s
/-- `SET 1,(IY+d),D` (R351). -/
def exec_set_1_iyd_d (d : Byte) (s : State) : Result := bitSet .b1 (.idxCopy .iy d .d) s
/-- `SET 1,(IY+d),E` (R351). -/
def exec_set_1_iyd_e (d : Byte) (s : State) : Result := bitSet .b1 (.idxCopy .iy d .e) s
/-- `SET 1,(IY+d),H` (R351). -/
def exec_set_1_iyd_h (d : Byte) (s : State) : Result := bitSet .b1 (.idxCopy .iy d .h) s
/-- `SET 1,(IY+d),L` (R351). -/
def exec_set_1_iyd_l (d : Byte) (s : State) : Result := bitSet .b1 (.idxCopy .iy d .l) s
/-- `SET 1,(IY+d)` (R350). -/
def exec_set_1_iyd (d : Byte) (s : State) : Result := bitSet .b1 (.idx .iy d) s
/-- `SET 1,(IY+d),A` (R351). -/
def exec_set_1_iyd_a (d : Byte) (s : State) : Result := bitSet .b1 (.idxCopy .iy d .a) s
/-- `SET 2,(IY+d),B` (R351). -/
def exec_set_2_iyd_b (d : Byte) (s : State) : Result := bitSet .b2 (.idxCopy .iy d .b) s
/-- `SET 2,(IY+d),C` (R351). -/
def exec_set_2_iyd_c (d : Byte) (s : State) : Result := bitSet .b2 (.idxCopy .iy d .c) s
/-- `SET 2,(IY+d),D` (R351). -/
def exec_set_2_iyd_d (d : Byte) (s : State) : Result := bitSet .b2 (.idxCopy .iy d .d) s
/-- `SET 2,(IY+d),E` (R351). -/
def exec_set_2_iyd_e (d : Byte) (s : State) : Result := bitSet .b2 (.idxCopy .iy d .e) s
/-- `SET 2,(IY+d),H` (R351). -/
def exec_set_2_iyd_h (d : Byte) (s : State) : Result := bitSet .b2 (.idxCopy .iy d .h) s
/-- `SET 2,(IY+d),L` (R351). -/
def exec_set_2_iyd_l (d : Byte) (s : State) : Result := bitSet .b2 (.idxCopy .iy d .l) s
/-- `SET 2,(IY+d)` (R350). -/
def exec_set_2_iyd (d : Byte) (s : State) : Result := bitSet .b2 (.idx .iy d) s
/-- `SET 2,(IY+d),A` (R351). -/
def exec_set_2_iyd_a (d : Byte) (s : State) : Result := bitSet .b2 (.idxCopy .iy d .a) s
/-- `SET 3,(IY+d),B` (R351). -/
def exec_set_3_iyd_b (d : Byte) (s : State) : Result := bitSet .b3 (.idxCopy .iy d .b) s
/-- `SET 3,(IY+d),C` (R351). -/
def exec_set_3_iyd_c (d : Byte) (s : State) : Result := bitSet .b3 (.idxCopy .iy d .c) s
/-- `SET 3,(IY+d),D` (R351). -/
def exec_set_3_iyd_d (d : Byte) (s : State) : Result := bitSet .b3 (.idxCopy .iy d .d) s
/-- `SET 3,(IY+d),E` (R351). -/
def exec_set_3_iyd_e (d : Byte) (s : State) : Result := bitSet .b3 (.idxCopy .iy d .e) s
/-- `SET 3,(IY+d),H` (R351). -/
def exec_set_3_iyd_h (d : Byte) (s : State) : Result := bitSet .b3 (.idxCopy .iy d .h) s
/-- `SET 3,(IY+d),L` (R351). -/
def exec_set_3_iyd_l (d : Byte) (s : State) : Result := bitSet .b3 (.idxCopy .iy d .l) s
/-- `SET 3,(IY+d)` (R350). -/
def exec_set_3_iyd (d : Byte) (s : State) : Result := bitSet .b3 (.idx .iy d) s
/-- `SET 3,(IY+d),A` (R351). -/
def exec_set_3_iyd_a (d : Byte) (s : State) : Result := bitSet .b3 (.idxCopy .iy d .a) s
/-- `SET 4,(IY+d),B` (R351). -/
def exec_set_4_iyd_b (d : Byte) (s : State) : Result := bitSet .b4 (.idxCopy .iy d .b) s
/-- `SET 4,(IY+d),C` (R351). -/
def exec_set_4_iyd_c (d : Byte) (s : State) : Result := bitSet .b4 (.idxCopy .iy d .c) s
/-- `SET 4,(IY+d),D` (R351). -/
def exec_set_4_iyd_d (d : Byte) (s : State) : Result := bitSet .b4 (.idxCopy .iy d .d) s
/-- `SET 4,(IY+d),E` (R351). -/
def exec_set_4_iyd_e (d : Byte) (s : State) : Result := bitSet .b4 (.idxCopy .iy d .e) s
/-- `SET 4,(IY+d),H` (R351). -/
def exec_set_4_iyd_h (d : Byte) (s : State) : Result := bitSet .b4 (.idxCopy .iy d .h) s
/-- `SET 4,(IY+d),L` (R351). -/
def exec_set_4_iyd_l (d : Byte) (s : State) : Result := bitSet .b4 (.idxCopy .iy d .l) s
/-- `SET 4,(IY+d)` (R350). -/
def exec_set_4_iyd (d : Byte) (s : State) : Result := bitSet .b4 (.idx .iy d) s
/-- `SET 4,(IY+d),A` (R351). -/
def exec_set_4_iyd_a (d : Byte) (s : State) : Result := bitSet .b4 (.idxCopy .iy d .a) s
/-- `SET 5,(IY+d),B` (R351). -/
def exec_set_5_iyd_b (d : Byte) (s : State) : Result := bitSet .b5 (.idxCopy .iy d .b) s
/-- `SET 5,(IY+d),C` (R351). -/
def exec_set_5_iyd_c (d : Byte) (s : State) : Result := bitSet .b5 (.idxCopy .iy d .c) s
/-- `SET 5,(IY+d),D` (R351). -/
def exec_set_5_iyd_d (d : Byte) (s : State) : Result := bitSet .b5 (.idxCopy .iy d .d) s
/-- `SET 5,(IY+d),E` (R351). -/
def exec_set_5_iyd_e (d : Byte) (s : State) : Result := bitSet .b5 (.idxCopy .iy d .e) s
/-- `SET 5,(IY+d),H` (R351). -/
def exec_set_5_iyd_h (d : Byte) (s : State) : Result := bitSet .b5 (.idxCopy .iy d .h) s
/-- `SET 5,(IY+d),L` (R351). -/
def exec_set_5_iyd_l (d : Byte) (s : State) : Result := bitSet .b5 (.idxCopy .iy d .l) s
/-- `SET 5,(IY+d)` (R350). -/
def exec_set_5_iyd (d : Byte) (s : State) : Result := bitSet .b5 (.idx .iy d) s
/-- `SET 5,(IY+d),A` (R351). -/
def exec_set_5_iyd_a (d : Byte) (s : State) : Result := bitSet .b5 (.idxCopy .iy d .a) s
/-- `SET 6,(IY+d),B` (R351). -/
def exec_set_6_iyd_b (d : Byte) (s : State) : Result := bitSet .b6 (.idxCopy .iy d .b) s
/-- `SET 6,(IY+d),C` (R351). -/
def exec_set_6_iyd_c (d : Byte) (s : State) : Result := bitSet .b6 (.idxCopy .iy d .c) s
/-- `SET 6,(IY+d),D` (R351). -/
def exec_set_6_iyd_d (d : Byte) (s : State) : Result := bitSet .b6 (.idxCopy .iy d .d) s
/-- `SET 6,(IY+d),E` (R351). -/
def exec_set_6_iyd_e (d : Byte) (s : State) : Result := bitSet .b6 (.idxCopy .iy d .e) s
/-- `SET 6,(IY+d),H` (R351). -/
def exec_set_6_iyd_h (d : Byte) (s : State) : Result := bitSet .b6 (.idxCopy .iy d .h) s
/-- `SET 6,(IY+d),L` (R351). -/
def exec_set_6_iyd_l (d : Byte) (s : State) : Result := bitSet .b6 (.idxCopy .iy d .l) s
/-- `SET 6,(IY+d)` (R350). -/
def exec_set_6_iyd (d : Byte) (s : State) : Result := bitSet .b6 (.idx .iy d) s
/-- `SET 6,(IY+d),A` (R351). -/
def exec_set_6_iyd_a (d : Byte) (s : State) : Result := bitSet .b6 (.idxCopy .iy d .a) s
/-- `SET 7,(IY+d),B` (R351). -/
def exec_set_7_iyd_b (d : Byte) (s : State) : Result := bitSet .b7 (.idxCopy .iy d .b) s
/-- `SET 7,(IY+d),C` (R351). -/
def exec_set_7_iyd_c (d : Byte) (s : State) : Result := bitSet .b7 (.idxCopy .iy d .c) s
/-- `SET 7,(IY+d),D` (R351). -/
def exec_set_7_iyd_d (d : Byte) (s : State) : Result := bitSet .b7 (.idxCopy .iy d .d) s
/-- `SET 7,(IY+d),E` (R351). -/
def exec_set_7_iyd_e (d : Byte) (s : State) : Result := bitSet .b7 (.idxCopy .iy d .e) s
/-- `SET 7,(IY+d),H` (R351). -/
def exec_set_7_iyd_h (d : Byte) (s : State) : Result := bitSet .b7 (.idxCopy .iy d .h) s
/-- `SET 7,(IY+d),L` (R351). -/
def exec_set_7_iyd_l (d : Byte) (s : State) : Result := bitSet .b7 (.idxCopy .iy d .l) s
/-- `SET 7,(IY+d)` (R350). -/
def exec_set_7_iyd (d : Byte) (s : State) : Result := bitSet .b7 (.idx .iy d) s
/-- `SET 7,(IY+d),A` (R351). -/
def exec_set_7_iyd_a (d : Byte) (s : State) : Result := bitSet .b7 (.idxCopy .iy d .a) s

end Sys2Proof.Machine
end

