-- ==== Sys2Proof/Machine/Block.lean ====
section
/-! DEFINITION. Block transfer, block search, RLD and RRD (spec/45_block_transfer_search.md R380 to R391): the
shared operations, then one meaning per row. During an action PC is the address of the final opcode
byte, R380's `PCop`. -/

namespace Sys2Proof.Machine

/-- One LDI or LDD without its flags and PC (R381, R382). -/
def blockLoadMove (dir : Dir) (s : State) : State :=
  (((s.memWrite s.de (s.memRead s.hl)).setHl (s.hl + dirStep dir)).setDe (s.de + dirStep dir)).setBc
    (s.bc - 1)

/-- The flags of one LDI or LDD (R381). -/
def blockLoadF (s : State) : Byte := blockLoadFlags (s.memRead s.hl) s.a (s.bc - 1) s.f

/-- `LDI`, `LDD` (R381, R382). -/
def blockLoadOnce (dir : Dir) (s : State) : Result :=
  (blockLoadMove dir s).doneFlags (blockLoadF s) 1

/-- `LDIR`, `LDDR`: one iteration, then the repeat test (R380, R383, R384). -/
def blockLoadRepeat (dir : Dir) (s : State) : Result :=
  if s.bc - 1 ≠ 0 then
    ((blockLoadMove dir s).setMemptr s.pc).gotoFlags (blockLoadF s) (s.pc - 1)
  else blockLoadOnce dir s

/-- One CPI or CPD without its flags and PC (R385, R386). -/
def blockCompareMove (dir : Dir) (s : State) : State :=
  ((s.setHl (s.hl + dirStep dir)).setBc (s.bc - 1)).setMemptr (s.memptr + dirStep dir)

/-- The flags of one CPI or CPD (R385). -/
def blockCompareF (s : State) : Byte := blockCompareFlags s.a (s.memRead s.hl) (s.bc - 1) s.f

/-- `CPI`, `CPD` (R385, R386). -/
def blockCompareOnce (dir : Dir) (s : State) : Result :=
  (blockCompareMove dir s).doneFlags (blockCompareF s) 1

/-- `CPIR`, `CPDR`: one iteration, then the repeat test (R380, R387, R388). -/
def blockCompareRepeat (dir : Dir) (s : State) : Result :=
  if s.bc - 1 ≠ 0 ∧ (sub8 s.a (s.memRead s.hl) false).r ≠ 0 then
    ((blockCompareMove dir s).setMemptr s.pc).gotoFlags (blockCompareF s) (s.pc - 1)
  else blockCompareOnce dir s

/-- `RLD` (R390). -/
def rotateDigitLeft (s : State) : Result :=
  let m := s.memRead s.hl
  let a1 : Byte := hiNibble s.a ++ hiNibble m
  (({ s.memWrite s.hl (loNibble m ++ loNibble s.a) with a := a1 }).setMemptr (s.hl + 1)).doneFlags
    (logicKeepCarry a1 s.f) 1

/-- `RRD` (R391). -/
def rotateDigitRight (s : State) : Result :=
  let m := s.memRead s.hl
  let a1 : Byte := hiNibble s.a ++ loNibble m
  (({ s.memWrite s.hl (loNibble s.a ++ hiNibble m) with a := a1 }).setMemptr (s.hl + 1)).doneFlags
    (logicKeepCarry a1 s.f) 1

/-! ### The rows -/

/-- `RRD` (R391). -/
def exec_rrd (s : State) : Result := rotateDigitRight s
/-- `RLD` (R390). -/
def exec_rld (s : State) : Result := rotateDigitLeft s
/-- `LDI` (R381). -/
def exec_ldi (s : State) : Result := blockLoadOnce .inc s
/-- `CPI` (R385). -/
def exec_cpi (s : State) : Result := blockCompareOnce .inc s
/-- `LDD` (R382). -/
def exec_ldd (s : State) : Result := blockLoadOnce .dec s
/-- `CPD` (R386). -/
def exec_cpd (s : State) : Result := blockCompareOnce .dec s
/-- `LDIR` (R383). -/
def exec_ldir (s : State) : Result := blockLoadRepeat .inc s
/-- `CPIR` (R387). -/
def exec_cpir (s : State) : Result := blockCompareRepeat .inc s
/-- `LDDR` (R384). -/
def exec_lddr (s : State) : Result := blockLoadRepeat .dec s
/-- `CPDR` (R388). -/
def exec_cpdr (s : State) : Result := blockCompareRepeat .dec s

end Sys2Proof.Machine
end

