-- ==== Sys2Proof/Machine/Control.lean ====
section
/-! DEFINITION. Jumps, calls, returns, restarts, PUSH and POP (spec/46_control_transfer_stack.md R410 to R428):
the shared operations, then one meaning per row. -/

namespace Sys2Proof.Machine

/-- `JP nn` (R411). -/
def jumpTo (nn : Word) (s : State) : Result := (s.setMemptr nn).goto nn

/-- `JP cc,nn`: MEMPTR is written whether or not the jump is taken (R412). -/
def jumpIf (cc : Cond) (nn : Word) (s : State) : Result :=
  if condHolds cc s.f then (s.setMemptr nn).goto nn else (s.setMemptr nn).done 3

/-- `JR e` (R413). -/
def jumpRelative (e : Byte) (s : State) : Result :=
  (s.setMemptr (s.relTarget e)).goto (s.relTarget e)

/-- `JR cc,e`: MEMPTR is written only if the jump is taken (R414). -/
def jumpRelativeIf (cc : JrCond) (e : Byte) (s : State) : Result :=
  if condHolds (jrCondition cc) s.f then (s.setMemptr (s.relTarget e)).goto (s.relTarget e)
  else s.done 2

/-- `DJNZ e` (R415). -/
def decrementJump (e : Byte) (s : State) : Result :=
  let s1 := { s with b := s.b - 1 }
  if s1.b ≠ 0 then (s1.setMemptr (s.relTarget e)).goto (s.relTarget e) else s1.done 2

/-- `JP (HL)`: the register is the target, memory is not read (R416). -/
def jumpHl (s : State) : Result := s.goto s.hl

/-- `JP (IX)`, `JP (IY)` (R417). -/
def jumpXy (xy : Xy) (s : State) : Result := s.goto (s.xy xy)

/-- `CALL nn`: the address pushed is that of the next instruction (R418). -/
def callTo (nn : Word) (s : State) : Result := ((s.setMemptr nn).push16 (s.pc + 3)).goto nn

/-- `CALL cc,nn` (R419). -/
def callIf (cc : Cond) (nn : Word) (s : State) : Result :=
  if condHolds cc s.f then ((s.setMemptr nn).push16 (s.pc + 3)).goto nn else (s.setMemptr nn).done 3

/-- `RET` (R420). -/
def returnAlways (s : State) : Result := (s.popped.setMemptr s.popValue).goto s.popValue

/-- `RET cc` (R421). -/
def returnIf (cc : Cond) (s : State) : Result :=
  if condHolds cc s.f then (s.popped.setMemptr s.popValue).goto s.popValue else s.done 1

/-- `RETN` (`y = 0`), its mirrors, and `RETI` (`y = 1`): one effect (R422, R423). -/
def returnFromHandler (_y : BitNo) (s : State) : Result := s.returnFromInterrupt

/-- The target of `RST p`: `opcode & 0x38` (R424). -/
def rstTarget : Rst → Word
  | .p00 => 0x00 | .p08 => 0x08 | .p10 => 0x10 | .p18 => 0x18
  | .p20 => 0x20 | .p28 => 0x28 | .p30 => 0x30 | .p38 => 0x38

/-- `RST p` (R424). -/
def restart (p : Rst) (s : State) : Result :=
  ((s.push16 (s.pc + 1)).setMemptr (rstTarget p)).goto (rstTarget p)

/-- `PUSH qq` (R425). -/
def pushPair (q : Pair2) (s : State) : Result := (s.push16 (s.pair2 q)).done 1

/-- `PUSH XY` (R426). -/
def pushXyReg (xy : Xy) (s : State) : Result := (s.push16 (s.xy xy)).done 1

/-- `POP qq`: `POP AF` replaces F as data, so `Q <- 0` for it too (R427). -/
def popPair (q : Pair2) (s : State) : Result := (s.popped.setPair2 q s.popValue).done 1

/-- `POP XY` (R428). -/
def popXyReg (xy : Xy) (s : State) : Result := (s.popped.setXy xy s.popValue).done 1

/-! ### The rows -/

/-- `DJNZ e` (R415). -/
def exec_djnz_e (e : Byte) (s : State) : Result := decrementJump e s
/-- `JR e` (R413). -/
def exec_jr_e (e : Byte) (s : State) : Result := jumpRelative e s
/-- `JR NZ,e` (R414). -/
def exec_jr_nz_e (e : Byte) (s : State) : Result := jumpRelativeIf .nz e s
/-- `JR Z,e` (R414). -/
def exec_jr_z_e (e : Byte) (s : State) : Result := jumpRelativeIf .z e s
/-- `JR NC,e` (R414). -/
def exec_jr_nc_e (e : Byte) (s : State) : Result := jumpRelativeIf .nc e s
/-- `JR C,e` (R414). -/
def exec_jr_c_e (e : Byte) (s : State) : Result := jumpRelativeIf .c e s
/-- `RET NZ` (R421). -/
def exec_ret_nz (s : State) : Result := returnIf .nz s
/-- `POP BC` (R427). -/
def exec_pop_bc (s : State) : Result := popPair .bc s
/-- `JP NZ,nn` (R412). -/
def exec_jp_nz_nn (nn : Word) (s : State) : Result := jumpIf .nz nn s
/-- `JP nn` (R411). -/
def exec_jp_nn (nn : Word) (s : State) : Result := jumpTo nn s
/-- `CALL NZ,nn` (R419). -/
def exec_call_nz_nn (nn : Word) (s : State) : Result := callIf .nz nn s
/-- `PUSH BC` (R425). -/
def exec_push_bc (s : State) : Result := pushPair .bc s
/-- `RST 0x00` (R424). -/
def exec_rst_00 (s : State) : Result := restart .p00 s
/-- `RET Z` (R421). -/
def exec_ret_z (s : State) : Result := returnIf .z s
/-- `RET` (R420). -/
def exec_ret (s : State) : Result := returnAlways s
/-- `JP Z,nn` (R412). -/
def exec_jp_z_nn (nn : Word) (s : State) : Result := jumpIf .z nn s
/-- `CALL Z,nn` (R419). -/
def exec_call_z_nn (nn : Word) (s : State) : Result := callIf .z nn s
/-- `CALL nn` (R418). -/
def exec_call_nn (nn : Word) (s : State) : Result := callTo nn s
/-- `RST 0x08` (R424). -/
def exec_rst_08 (s : State) : Result := restart .p08 s
/-- `RET NC` (R421). -/
def exec_ret_nc (s : State) : Result := returnIf .nc s
/-- `POP DE` (R427). -/
def exec_pop_de (s : State) : Result := popPair .de s
/-- `JP NC,nn` (R412). -/
def exec_jp_nc_nn (nn : Word) (s : State) : Result := jumpIf .nc nn s
/-- `CALL NC,nn` (R419). -/
def exec_call_nc_nn (nn : Word) (s : State) : Result := callIf .nc nn s
/-- `PUSH DE` (R425). -/
def exec_push_de (s : State) : Result := pushPair .de s
/-- `RST 0x10` (R424). -/
def exec_rst_10 (s : State) : Result := restart .p10 s
/-- `RET C` (R421). -/
def exec_ret_c (s : State) : Result := returnIf .c s
/-- `JP C,nn` (R412). -/
def exec_jp_c_nn (nn : Word) (s : State) : Result := jumpIf .c nn s
/-- `CALL C,nn` (R419). -/
def exec_call_c_nn (nn : Word) (s : State) : Result := callIf .c nn s
/-- `RST 0x18` (R424). -/
def exec_rst_18 (s : State) : Result := restart .p18 s
/-- `RET PO` (R421). -/
def exec_ret_po (s : State) : Result := returnIf .po s
/-- `POP HL` (R427). -/
def exec_pop_hl (s : State) : Result := popPair .hl s
/-- `JP PO,nn` (R412). -/
def exec_jp_po_nn (nn : Word) (s : State) : Result := jumpIf .po nn s
/-- `CALL PO,nn` (R419). -/
def exec_call_po_nn (nn : Word) (s : State) : Result := callIf .po nn s
/-- `PUSH HL` (R425). -/
def exec_push_hl (s : State) : Result := pushPair .hl s
/-- `RST 0x20` (R424). -/
def exec_rst_20 (s : State) : Result := restart .p20 s
/-- `RET PE` (R421). -/
def exec_ret_pe (s : State) : Result := returnIf .pe s
/-- `JP (HL)` (R416). -/
def exec_jp_hl (s : State) : Result := jumpHl s
/-- `JP PE,nn` (R412). -/
def exec_jp_pe_nn (nn : Word) (s : State) : Result := jumpIf .pe nn s
/-- `CALL PE,nn` (R419). -/
def exec_call_pe_nn (nn : Word) (s : State) : Result := callIf .pe nn s
/-- `RST 0x28` (R424). -/
def exec_rst_28 (s : State) : Result := restart .p28 s
/-- `RET P` (R421). -/
def exec_ret_p (s : State) : Result := returnIf .p s
/-- `POP AF` (R427). -/
def exec_pop_af (s : State) : Result := popPair .af s
/-- `JP P,nn` (R412). -/
def exec_jp_p_nn (nn : Word) (s : State) : Result := jumpIf .p nn s
/-- `CALL P,nn` (R419). -/
def exec_call_p_nn (nn : Word) (s : State) : Result := callIf .p nn s
/-- `PUSH AF` (R425). -/
def exec_push_af (s : State) : Result := pushPair .af s
/-- `RST 0x30` (R424). -/
def exec_rst_30 (s : State) : Result := restart .p30 s
/-- `RET M` (R421). -/
def exec_ret_m (s : State) : Result := returnIf .m s
/-- `JP M,nn` (R412). -/
def exec_jp_m_nn (nn : Word) (s : State) : Result := jumpIf .m nn s
/-- `CALL M,nn` (R419). -/
def exec_call_m_nn (nn : Word) (s : State) : Result := callIf .m nn s
/-- `RST 0x38` (R424). -/
def exec_rst_38 (s : State) : Result := restart .p38 s
/-- `RETN` (R423). -/
def exec_retn (s : State) : Result := returnFromHandler .b0 s
/-- `RETI` (R422). -/
def exec_reti (s : State) : Result := returnFromHandler .b1 s
/-- `RETN` (R423). -/
def exec_retn_ED55 (s : State) : Result := returnFromHandler .b2 s
/-- `RETN` (R423). -/
def exec_retn_ED5D (s : State) : Result := returnFromHandler .b3 s
/-- `RETN` (R423). -/
def exec_retn_ED65 (s : State) : Result := returnFromHandler .b4 s
/-- `RETN` (R423). -/
def exec_retn_ED6D (s : State) : Result := returnFromHandler .b5 s
/-- `RETN` (R423). -/
def exec_retn_ED75 (s : State) : Result := returnFromHandler .b6 s
/-- `RETN` (R423). -/
def exec_retn_ED7D (s : State) : Result := returnFromHandler .b7 s
/-- `POP IX` (R428). -/
def exec_pop_ix (s : State) : Result := popXyReg .ix s
/-- `PUSH IX` (R426). -/
def exec_push_ix (s : State) : Result := pushXyReg .ix s
/-- `JP (IX)` (R417). -/
def exec_jp_ix (s : State) : Result := jumpXy .ix s
/-- `POP IY` (R428). -/
def exec_pop_iy (s : State) : Result := popXyReg .iy s
/-- `PUSH IY` (R426). -/
def exec_push_iy (s : State) : Result := pushXyReg .iy s
/-- `JP (IY)` (R417). -/
def exec_jp_iy (s : State) : Result := jumpXy .iy s

end Sys2Proof.Machine
end

