-- ==== Sys2Proof/Machine/Exchange.lean ====
section
/-! DEFINITION. Exchanges (spec/41_load_exchange.md R238 to R242): the shared operations, then one meaning per
row. -/

namespace Sys2Proof.Machine

/-- `EX DE,HL` (R238). -/
def exchangeDeHl (s : State) : Result := ({ s with d := s.h, e := s.l, h := s.d, l := s.e }).done 1

/-- `EX AF,AF'`: F is replaced as data, so `Q <- 0` (R239). -/
def exchangeAf (s : State) : Result :=
  ({ s with a := s.a', f := s.f', a' := s.a, f' := s.f }).done 1

/-- `EXX` (R240). -/
def exchangeBanks (s : State) : Result :=
  ({ s with
    b := s.b', c := s.c', d := s.d', e := s.e', h := s.h', l := s.l'
    b' := s.b, c' := s.c, d' := s.d, e' := s.e, h' := s.h, l' := s.l }).done 1

/-- The word at SP exchanged with `v`: the two bytes at SP are read, then `v`'s high byte is written at
SP + 1 and its low byte at SP; SP is unchanged (R241). The word read is `s.memRead2 s.sp`. -/
def exchangeAtSp (v : Word) (s : State) : State :=
  (s.memWrite (s.sp + 1) (hiByte v)).memWrite s.sp (loByte v)

/-- `EX (SP),HL` (R241). -/
def exchangeStackHl (s : State) : Result :=
  (((exchangeAtSp s.hl s).setHl (s.memRead2 s.sp)).setMemptr (s.memRead2 s.sp)).done 1

/-- `EX (SP),XY` (R242). -/
def exchangeStackXy (xy : Xy) (s : State) : Result :=
  (((exchangeAtSp (s.xy xy) s).setXy xy (s.memRead2 s.sp)).setMemptr (s.memRead2 s.sp)).done 1

/-! ### The rows -/

/-- `EX AF,AF'` (R239). -/
def exec_ex_af_afAlt (s : State) : Result := exchangeAf s
/-- `EXX` (R240). -/
def exec_exx (s : State) : Result := exchangeBanks s
/-- `EX (SP),HL` (R241). -/
def exec_ex_msp_hl (s : State) : Result := exchangeStackHl s
/-- `EX DE,HL` (R238). -/
def exec_ex_de_hl (s : State) : Result := exchangeDeHl s
/-- `EX (SP),IX` (R242). -/
def exec_ex_msp_ix (s : State) : Result := exchangeStackXy .ix s
/-- `EX (SP),IY` (R242). -/
def exec_ex_msp_iy (s : State) : Result := exchangeStackXy .iy s

end Sys2Proof.Machine
end

