-- ==== Sys2Proof/Machine/Io.lean ====
section
/-! DEFINITION. Port input and output, block I/O (spec/47_io.md R450 to R466): the shared operations, then one
meaning per row. -/

namespace Sys2Proof.Machine

/-- `IN A,(n)`: the port address is `{A, n}` with A before the read (R450, R452; log entry 17). -/
def inAPort (n : Byte) (s : State) : Result :=
  let pa := mkWord s.a n
  (({ s.afterPortRead pa with a := s.portValue pa }).setMemptr (pa + 1)).done 2

/-- `IN r,(C)`: MEMPTR is `BC + 1` with BC before `r` is written (R453). -/
def inRegC (r : R8) (s : State) : Result :=
  let v := s.portValue s.bc
  (((s.afterPortRead s.bc).setR8 r v).setMemptr (s.bc + 1)).doneFlags (logicKeepCarry v s.f) 1

/-- `IN (C)`: only the flags see the value (R454). -/
def inFlagsC (s : State) : Result :=
  let v := s.portValue s.bc
  ((s.afterPortRead s.bc).setMemptr (s.bc + 1)).doneFlags (logicKeepCarry v s.f) 1

/-- `OUT (n),A` (R455). -/
def outPortA (n : Byte) (s : State) : Result :=
  ((s.portWrite (mkWord s.a n) s.a).setMemptr (mkWord s.a (n + 1))).done 2

/-- `PortWrite(BC, v); MEMPTR <- BC + 1`: the shared body of R456 and R457. -/
def outC (v : Byte) (s : State) : Result := ((s.portWrite s.bc v).setMemptr (s.bc + 1)).done 1

/-- `OUT (C),r` (R456). -/
def outCReg (r : R8) (s : State) : Result := outC (s.r8 r) s
/-- `OUT (C),0` (R457). -/
def outCZero (s : State) : Result := outC 0x00 s

/-! ### Block I/O -/

/-- One INI or IND without its flags and PC: the port address is BC before B is decremented (R458,
R459). -/
def blockInMove (dir : Dir) (s : State) : State :=
  let s1 := (s.afterPortRead s.bc).memWrite s.hl (s.portValue s.bc)
  ({ s1.setHl (s.hl + dirStep dir) with b := s.b - 1 }).setMemptr (s.bc + dirStep dir)

/-- The flags of one INI or IND (R458, R459, R466). -/
def blockInF (dir : Dir) (s : State) : Byte :=
  blockIoFlags (s.portValue s.bc) (s.b - 1) (s.c + dirStep8 dir)

/-- `INI`, `IND` (R458, R459). -/
def blockInOnce (dir : Dir) (s : State) : Result :=
  (blockInMove dir s).doneFlags (blockInF dir s) 1

/-- `INIR`, `INDR` (R460, R461). -/
def blockInRepeat (dir : Dir) (s : State) : Result :=
  if s.b - 1 ≠ 0 then (blockInMove dir s).gotoFlags (blockInF dir s) (s.pc - 1)
  else blockInOnce dir s

/-- The port address of OUTI and its like: BC after B is decremented (R450, R462). -/
def outBc (s : State) : Word := mkWord (s.b - 1) s.c

/-- One OUTI or OUTD without its flags and PC (R462, R463). -/
def blockOutMove (dir : Dir) (s : State) : State :=
  let s1 := ({ s with b := s.b - 1 }).portWrite (outBc s) (s.memRead s.hl)
  (s1.setHl (s.hl + dirStep dir)).setMemptr (outBc s + dirStep dir)

/-- The flags of one OUTI or OUTD: the addend is L after the update (R462, R463, R466). -/
def blockOutF (dir : Dir) (s : State) : Byte :=
  blockIoFlags (s.memRead s.hl) (s.b - 1) (loByte (s.hl + dirStep dir))

/-- `OUTI`, `OUTD` (R462, R463). -/
def blockOutOnce (dir : Dir) (s : State) : Result :=
  (blockOutMove dir s).doneFlags (blockOutF dir s) 1

/-- `OTIR`, `OTDR` (R464, R465). -/
def blockOutRepeat (dir : Dir) (s : State) : Result :=
  if s.b - 1 ≠ 0 then (blockOutMove dir s).gotoFlags (blockOutF dir s) (s.pc - 1)
  else blockOutOnce dir s

/-! ### The rows -/

/-- `OUT (n),A` (R455). -/
def exec_out_portN_a (n : Byte) (s : State) : Result := outPortA n s
/-- `IN A,(n)` (R452). -/
def exec_in_a_portN (n : Byte) (s : State) : Result := inAPort n s
/-- `IN B,(C)` (R453). -/
def exec_in_b_portC (s : State) : Result := inRegC .b s
/-- `OUT (C),B` (R456). -/
def exec_out_portC_b (s : State) : Result := outCReg .b s
/-- `IN C,(C)` (R453). -/
def exec_in_c_portC (s : State) : Result := inRegC .c s
/-- `OUT (C),C` (R456). -/
def exec_out_portC_c (s : State) : Result := outCReg .c s
/-- `IN D,(C)` (R453). -/
def exec_in_d_portC (s : State) : Result := inRegC .d s
/-- `OUT (C),D` (R456). -/
def exec_out_portC_d (s : State) : Result := outCReg .d s
/-- `IN E,(C)` (R453). -/
def exec_in_e_portC (s : State) : Result := inRegC .e s
/-- `OUT (C),E` (R456). -/
def exec_out_portC_e (s : State) : Result := outCReg .e s
/-- `IN H,(C)` (R453). -/
def exec_in_h_portC (s : State) : Result := inRegC .h s
/-- `OUT (C),H` (R456). -/
def exec_out_portC_h (s : State) : Result := outCReg .h s
/-- `IN L,(C)` (R453). -/
def exec_in_l_portC (s : State) : Result := inRegC .l s
/-- `OUT (C),L` (R456). -/
def exec_out_portC_l (s : State) : Result := outCReg .l s
/-- `IN (C)` (R454). -/
def exec_in_portC (s : State) : Result := inFlagsC s
/-- `OUT (C),0` (R457). -/
def exec_out_portC_0 (s : State) : Result := outCZero s
/-- `IN A,(C)` (R453). -/
def exec_in_a_portC (s : State) : Result := inRegC .a s
/-- `OUT (C),A` (R456). -/
def exec_out_portC_a (s : State) : Result := outCReg .a s
/-- `INI` (R458). -/
def exec_ini (s : State) : Result := blockInOnce .inc s
/-- `OUTI` (R462). -/
def exec_outi (s : State) : Result := blockOutOnce .inc s
/-- `IND` (R459). -/
def exec_ind (s : State) : Result := blockInOnce .dec s
/-- `OUTD` (R463). -/
def exec_outd (s : State) : Result := blockOutOnce .dec s
/-- `INIR` (R460). -/
def exec_inir (s : State) : Result := blockInRepeat .inc s
/-- `OTIR` (R464). -/
def exec_otir (s : State) : Result := blockOutRepeat .inc s
/-- `INDR` (R461). -/
def exec_indr (s : State) : Result := blockInRepeat .dec s
/-- `OTDR` (R465). -/
def exec_otdr (s : State) : Result := blockOutRepeat .dec s

end Sys2Proof.Machine
end

