-- ==== Sys2Proof/Machine/Latch.lean ====
section
/-! DEFINITION. The control latches (spec/48_control_latches.md R480 to R487) and the bare-prefix entries
(spec/40_engine.md R153): the shared operations, then one meaning per row. -/

namespace Sys2Proof.Machine

/-- `NOP` (R480). -/
def noOperation (s : State) : Result := s.done 1

/-- `HALT` (R481). -/
def haltCore (s : State) : Result := ({ s with halted := true }).done 1

/-- `DI` (R482). -/
def disableInterrupts (s : State) : Result := ({ s with iff1 := false, iff2 := false }).done 1

/-- `EI` (R483). -/
def enableInterrupts (s : State) : Result :=
  ({ s with iff1 := true, iff2 := true, skipInt := true }).done 1

/-- The mode that the field `y` of an IM selects (R485, R121). -/
def imMode : BitNo → IntMode
  | .b0 => .im0 | .b1 => .im0 | .b2 => .im1 | .b3 => .im2
  | .b4 => .im0 | .b5 => .im0 | .b6 => .im1 | .b7 => .im2

/-- `IM 0`, `IM 1`, `IM 2` and their mirrors (R485). -/
def interruptMode (y : BitNo) (s : State) : Result := ({ s with im := imMode y }).done 1

/-- `SCF` (R486). -/
def setCarry (s : State) : Result := s.doneFlags (scfFlags s.q s.f s.a) 1

/-- `CCF` (R487). -/
def complementCarry (s : State) : Result := s.doneFlags (ccfFlags s.q s.f s.a) 1

/-- A bare prefix: the latch is set, PC advances by one, Q and the rest are unchanged (R153). -/
def latchPrefix (p : Pfx) (s : State) : Result := .next { s with pfx := some p, pc := s.pc + 1 }

/-! ### The rows -/

/-- `NOP` (R480). -/
def exec_nop (s : State) : Result := noOperation s
/-- `SCF` (R486). -/
def exec_scf (s : State) : Result := setCarry s
/-- `CCF` (R487). -/
def exec_ccf (s : State) : Result := complementCarry s
/-- `HALT` (R481). -/
def exec_halt (s : State) : Result := haltCore s
/-- `PREFIX CB` (R153). -/
def exec_prefix_cb (s : State) : Result := latchPrefix .cb s
/-- `PREFIX DD` (R153). -/
def exec_prefix_dd (s : State) : Result := latchPrefix .dd s
/-- `PREFIX ED` (R153). -/
def exec_prefix_ed (s : State) : Result := latchPrefix .ed s
/-- `DI` (R482). -/
def exec_di (s : State) : Result := disableInterrupts s
/-- `EI` (R483). -/
def exec_ei (s : State) : Result := enableInterrupts s
/-- `PREFIX FD` (R153). -/
def exec_prefix_fd (s : State) : Result := latchPrefix .fd s
/-- `IM 0` (R485). -/
def exec_im_0 (s : State) : Result := interruptMode .b0 s
/-- `IM 0` (R485). -/
def exec_im_0_ED4E (s : State) : Result := interruptMode .b1 s
/-- `IM 1` (R485). -/
def exec_im_1 (s : State) : Result := interruptMode .b2 s
/-- `IM 2` (R485). -/
def exec_im_2 (s : State) : Result := interruptMode .b3 s
/-- `IM 0` (R485). -/
def exec_im_0_ED66 (s : State) : Result := interruptMode .b4 s
/-- `IM 0` (R485). -/
def exec_im_0_ED6E (s : State) : Result := interruptMode .b5 s
/-- `IM 1` (R485). -/
def exec_im_1_ED76 (s : State) : Result := interruptMode .b6 s
/-- `IM 2` (R485). -/
def exec_im_2_ED7E (s : State) : Result := interruptMode .b7 s

end Sys2Proof.Machine
end

