-- ==== Sys2Proof/Machine/Load.lean ====
section
/-! DEFINITION. 8-bit and 16-bit loads (spec/41_load_exchange.md R200 to R234): the shared operations, then one
meaning per row. -/

namespace Sys2Proof.Machine

/-! ### 8-bit loads -/

/-- `LD r,r'` (R200). -/
def loadRegReg (dst src : R8) (s : State) : Result := (s.setR8 dst (s.r8 src)).done 1

/-- `LD r,n` (R201). -/
def loadRegImm (r : R8) (n : Byte) (s : State) : Result := (s.setR8 r n).done 2

/-- `LD r,(HL)` (R202). -/
def loadRegHl (r : R8) (s : State) : Result := (s.setR8 r (s.memRead s.hl)).done 1

/-- `LD r,(XY+d)`: H and L are the plain registers (R203). -/
def loadRegIdx (r : R8) (xy : Xy) (d : Byte) (s : State) : Result :=
  ((s.setR8 r (s.memRead (s.ea xy d))).setMemptr (s.ea xy d)).done 2

/-- `LD (HL),r` (R204). -/
def storeHlReg (r : R8) (s : State) : Result := (s.memWrite s.hl (s.r8 r)).done 1

/-- `LD (XY+d),r` (R205). -/
def storeIdxReg (xy : Xy) (d : Byte) (r : R8) (s : State) : Result :=
  ((s.memWrite (s.ea xy d) (s.r8 r)).setMemptr (s.ea xy d)).done 2

/-- `LD (HL),n` (R206). -/
def storeHlImm (n : Byte) (s : State) : Result := (s.memWrite s.hl n).done 2

/-- `LD (XY+d),n` (R207). -/
def storeIdxImm (xy : Xy) (d n : Byte) (s : State) : Result :=
  ((s.memWrite (s.ea xy d) n).setMemptr (s.ea xy d)).done 3

/-- `A <- MemRead(addr, 1); MEMPTR <- addr + 1`: the shared body of R208 to R210. -/
def loadAFrom (addr : Word) (len : Word) (s : State) : Result :=
  ({ s with a := s.memRead addr }.setMemptr (addr + 1)).done len

/-- `LD A,(BC)` (R208). -/
def loadABc (s : State) : Result := loadAFrom s.bc 1 s
/-- `LD A,(DE)` (R209). -/
def loadADe (s : State) : Result := loadAFrom s.de 1 s
/-- `LD A,(nn)` (R210). -/
def loadADirect (nn : Word) (s : State) : Result := loadAFrom nn 3 s

/-- `MemWrite(addr, 1, A); MEMPTR <- {A, (addr + 1)[7:0]}`: the shared body of R211 to R213. -/
def storeATo (addr : Word) (len : Word) (s : State) : Result :=
  ((s.memWrite addr s.a).setMemptr (mkWord s.a (loByte addr + 1))).done len

/-- `LD (BC),A` (R211). -/
def storeABc (s : State) : Result := storeATo s.bc 1 s
/-- `LD (DE),A` (R212). -/
def storeADe (s : State) : Result := storeATo s.de 1 s
/-- `LD (nn),A` (R213). -/
def storeADirect (nn : Word) (s : State) : Result := storeATo nn 3 s

/-- `LD r,XYH` and `LD r,XYL` (R214). -/
def loadPlainHalf (r : Plain) (xy : Xy) (h : Half) (s : State) : Result :=
  (s.setR8 (plainR8 r) (s.half xy h)).done 1

/-- `LD XYH,r` and `LD XYL,r` (R214). -/
def loadHalfPlain (xy : Xy) (h : Half) (r : Plain) (s : State) : Result :=
  (s.setHalf xy h (s.r8 (plainR8 r))).done 1

/-- `LD XYH,XYL` and its like: both codes are mapped (R214). -/
def loadHalfHalf (xy : Xy) (h k : Half) (s : State) : Result :=
  (s.setHalf xy h (s.half xy k)).done 1

/-- `LD XYH,n` and `LD XYL,n` (R215). -/
def loadHalfImm (xy : Xy) (h : Half) (n : Byte) (s : State) : Result := (s.setHalf xy h n).done 2

/-! ### I and R -/

/-- `LD I,A` (R221). -/
def loadIA (s : State) : Result := ({ s with i := s.a }).done 1

/-- `LD R,A`: all eight bits; the step's increment of R came before (R222). -/
def loadRA (s : State) : Result := ({ s with r := s.a }).done 1

/-- `LD A,I` (R223). -/
def loadAI (s : State) : Result := ({ s with a := s.i }).doneFlags (loadIrFlags s.i s.iff2 s.f) 1

/-- `LD A,R`: R is already incremented for this instruction (R224). -/
def loadAR (s : State) : Result := ({ s with a := s.r }).doneFlags (loadIrFlags s.r s.iff2 s.f) 1

/-! ### 16-bit loads -/

/-- `LD dd,nn` (R225). -/
def loadPairImm (p : Pair) (nn : Word) (s : State) : Result := (s.setPair p nn).done 3

/-- `LD XY,nn` (R226). -/
def loadXyImm (xy : Xy) (nn : Word) (s : State) : Result := (s.setXy xy nn).done 3

/-- `LD HL,(nn)` (R227). -/
def loadHlDirect (nn : Word) (s : State) : Result :=
  ((s.setHl (s.memRead2 nn)).setMemptr (nn + 1)).done 3

/-- `LD dd,(nn)` (R228). -/
def loadPairDirect (p : Pair) (nn : Word) (s : State) : Result :=
  ((s.setPair p (s.memRead2 nn)).setMemptr (nn + 1)).done 3

/-- `LD XY,(nn)` (R229). -/
def loadXyDirect (xy : Xy) (nn : Word) (s : State) : Result :=
  ((s.setXy xy (s.memRead2 nn)).setMemptr (nn + 1)).done 3

/-- `MemWrite(nn, 2, v); MEMPTR <- nn + 1`: the shared body of R230 to R232. -/
def storeWordAt (nn v : Word) (s : State) : Result := ((s.memWrite2 nn v).setMemptr (nn + 1)).done 3

/-- `LD (nn),HL` (R230). -/
def storeHlDirect (nn : Word) (s : State) : Result := storeWordAt nn s.hl s
/-- `LD (nn),dd` (R231). -/
def storePairDirect (nn : Word) (p : Pair) (s : State) : Result := storeWordAt nn (s.pair p) s
/-- `LD (nn),XY` (R232). -/
def storeXyDirect (nn : Word) (xy : Xy) (s : State) : Result := storeWordAt nn (s.xy xy) s

/-- `LD SP,HL` (R233). -/
def loadSpHl (s : State) : Result := ({ s with sp := s.hl }).done 1
/-- `LD SP,XY` (R234). -/
def loadSpXy (xy : Xy) (s : State) : Result := ({ s with sp := s.xy xy }).done 1

/-! ### The rows -/

/-- `LD BC,nn` (R225). -/
def exec_ld_bc_nn (nn : Word) (s : State) : Result := loadPairImm .bc nn s
/-- `LD (BC),A` (R211). -/
def exec_ld_mbc_a (s : State) : Result := storeABc s
/-- `LD B,n` (R201). -/
def exec_ld_b_n (n : Byte) (s : State) : Result := loadRegImm .b n s
/-- `LD A,(BC)` (R208). -/
def exec_ld_a_mbc (s : State) : Result := loadABc s
/-- `LD C,n` (R201). -/
def exec_ld_c_n (n : Byte) (s : State) : Result := loadRegImm .c n s
/-- `LD DE,nn` (R225). -/
def exec_ld_de_nn (nn : Word) (s : State) : Result := loadPairImm .de nn s
/-- `LD (DE),A` (R212). -/
def exec_ld_mde_a (s : State) : Result := storeADe s
/-- `LD D,n` (R201). -/
def exec_ld_d_n (n : Byte) (s : State) : Result := loadRegImm .d n s
/-- `LD A,(DE)` (R209). -/
def exec_ld_a_mde (s : State) : Result := loadADe s
/-- `LD E,n` (R201). -/
def exec_ld_e_n (n : Byte) (s : State) : Result := loadRegImm .e n s
/-- `LD HL,nn` (R225). -/
def exec_ld_hl_nn (nn : Word) (s : State) : Result := loadPairImm .hl nn s
/-- `LD (nn),HL` (R230). -/
def exec_ld_mnn_hl (nn : Word) (s : State) : Result := storeHlDirect nn s
/-- `LD H,n` (R201). -/
def exec_ld_h_n (n : Byte) (s : State) : Result := loadRegImm .h n s
/-- `LD HL,(nn)` (R227). -/
def exec_ld_hl_mnn (nn : Word) (s : State) : Result := loadHlDirect nn s
/-- `LD L,n` (R201). -/
def exec_ld_l_n (n : Byte) (s : State) : Result := loadRegImm .l n s
/-- `LD SP,nn` (R225). -/
def exec_ld_sp_nn (nn : Word) (s : State) : Result := loadPairImm .sp nn s
/-- `LD (nn),A` (R213). -/
def exec_ld_mnn_a (nn : Word) (s : State) : Result := storeADirect nn s
/-- `LD (HL),n` (R206). -/
def exec_ld_mhl_n (n : Byte) (s : State) : Result := storeHlImm n s
/-- `LD A,(nn)` (R210). -/
def exec_ld_a_mnn (nn : Word) (s : State) : Result := loadADirect nn s
/-- `LD A,n` (R201). -/
def exec_ld_a_n (n : Byte) (s : State) : Result := loadRegImm .a n s
/-- `LD B,B` (R200). -/
def exec_ld_b_b (s : State) : Result := loadRegReg .b .b s
/-- `LD B,C` (R200). -/
def exec_ld_b_c (s : State) : Result := loadRegReg .b .c s
/-- `LD B,D` (R200). -/
def exec_ld_b_d (s : State) : Result := loadRegReg .b .d s
/-- `LD B,E` (R200). -/
def exec_ld_b_e (s : State) : Result := loadRegReg .b .e s
/-- `LD B,H` (R200). -/
def exec_ld_b_h (s : State) : Result := loadRegReg .b .h s
/-- `LD B,L` (R200). -/
def exec_ld_b_l (s : State) : Result := loadRegReg .b .l s
/-- `LD B,(HL)` (R202). -/
def exec_ld_b_mhl (s : State) : Result := loadRegHl .b s
/-- `LD B,A` (R200). -/
def exec_ld_b_a (s : State) : Result := loadRegReg .b .a s
/-- `LD C,B` (R200). -/
def exec_ld_c_b (s : State) : Result := loadRegReg .c .b s
/-- `LD C,C` (R200). -/
def exec_ld_c_c (s : State) : Result := loadRegReg .c .c s
/-- `LD C,D` (R200). -/
def exec_ld_c_d (s : State) : Result := loadRegReg .c .d s
/-- `LD C,E` (R200). -/
def exec_ld_c_e (s : State) : Result := loadRegReg .c .e s
/-- `LD C,H` (R200). -/
def exec_ld_c_h (s : State) : Result := loadRegReg .c .h s
/-- `LD C,L` (R200). -/
def exec_ld_c_l (s : State) : Result := loadRegReg .c .l s
/-- `LD C,(HL)` (R202). -/
def exec_ld_c_mhl (s : State) : Result := loadRegHl .c s
/-- `LD C,A` (R200). -/
def exec_ld_c_a (s : State) : Result := loadRegReg .c .a s
/-- `LD D,B` (R200). -/
def exec_ld_d_b (s : State) : Result := loadRegReg .d .b s
/-- `LD D,C` (R200). -/
def exec_ld_d_c (s : State) : Result := loadRegReg .d .c s
/-- `LD D,D` (R200). -/
def exec_ld_d_d (s : State) : Result := loadRegReg .d .d s
/-- `LD D,E` (R200). -/
def exec_ld_d_e (s : State) : Result := loadRegReg .d .e s
/-- `LD D,H` (R200). -/
def exec_ld_d_h (s : State) : Result := loadRegReg .d .h s
/-- `LD D,L` (R200). -/
def exec_ld_d_l (s : State) : Result := loadRegReg .d .l s
/-- `LD D,(HL)` (R202). -/
def exec_ld_d_mhl (s : State) : Result := loadRegHl .d s
/-- `LD D,A` (R200). -/
def exec_ld_d_a (s : State) : Result := loadRegReg .d .a s
/-- `LD E,B` (R200). -/
def exec_ld_e_b (s : State) : Result := loadRegReg .e .b s
/-- `LD E,C` (R200). -/
def exec_ld_e_c (s : State) : Result := loadRegReg .e .c s
/-- `LD E,D` (R200). -/
def exec_ld_e_d (s : State) : Result := loadRegReg .e .d s
/-- `LD E,E` (R200). -/
def exec_ld_e_e (s : State) : Result := loadRegReg .e .e s
/-- `LD E,H` (R200). -/
def exec_ld_e_h (s : State) : Result := loadRegReg .e .h s
/-- `LD E,L` (R200). -/
def exec_ld_e_l (s : State) : Result := loadRegReg .e .l s
/-- `LD E,(HL)` (R202). -/
def exec_ld_e_mhl (s : State) : Result := loadRegHl .e s
/-- `LD E,A` (R200). -/
def exec_ld_e_a (s : State) : Result := loadRegReg .e .a s
/-- `LD H,B` (R200). -/
def exec_ld_h_b (s : State) : Result := loadRegReg .h .b s
/-- `LD H,C` (R200). -/
def exec_ld_h_c (s : State) : Result := loadRegReg .h .c s
/-- `LD H,D` (R200). -/
def exec_ld_h_d (s : State) : Result := loadRegReg .h .d s
/-- `LD H,E` (R200). -/
def exec_ld_h_e (s : State) : Result := loadRegReg .h .e s
/-- `LD H,H` (R200). -/
def exec_ld_h_h (s : State) : Result := loadRegReg .h .h s
/-- `LD H,L` (R200). -/
def exec_ld_h_l (s : State) : Result := loadRegReg .h .l s
/-- `LD H,(HL)` (R202). -/
def exec_ld_h_mhl (s : State) : Result := loadRegHl .h s
/-- `LD H,A` (R200). -/
def exec_ld_h_a (s : State) : Result := loadRegReg .h .a s
/-- `LD L,B` (R200). -/
def exec_ld_l_b (s : State) : Result := loadRegReg .l .b s
/-- `LD L,C` (R200). -/
def exec_ld_l_c (s : State) : Result := loadRegReg .l .c s
/-- `LD L,D` (R200). -/
def exec_ld_l_d (s : State) : Result := loadRegReg .l .d s
/-- `LD L,E` (R200). -/
def exec_ld_l_e (s : State) : Result := loadRegReg .l .e s
/-- `LD L,H` (R200). -/
def exec_ld_l_h (s : State) : Result := loadRegReg .l .h s
/-- `LD L,L` (R200). -/
def exec_ld_l_l (s : State) : Result := loadRegReg .l .l s
/-- `LD L,(HL)` (R202). -/
def exec_ld_l_mhl (s : State) : Result := loadRegHl .l s
/-- `LD L,A` (R200). -/
def exec_ld_l_a (s : State) : Result := loadRegReg .l .a s
/-- `LD (HL),B` (R204). -/
def exec_ld_mhl_b (s : State) : Result := storeHlReg .b s
/-- `LD (HL),C` (R204). -/
def exec_ld_mhl_c (s : State) : Result := storeHlReg .c s
/-- `LD (HL),D` (R204). -/
def exec_ld_mhl_d (s : State) : Result := storeHlReg .d s
/-- `LD (HL),E` (R204). -/
def exec_ld_mhl_e (s : State) : Result := storeHlReg .e s
/-- `LD (HL),H` (R204). -/
def exec_ld_mhl_h (s : State) : Result := storeHlReg .h s
/-- `LD (HL),L` (R204). -/
def exec_ld_mhl_l (s : State) : Result := storeHlReg .l s
/-- `LD (HL),A` (R204). -/
def exec_ld_mhl_a (s : State) : Result := storeHlReg .a s
/-- `LD A,B` (R200). -/
def exec_ld_a_b (s : State) : Result := loadRegReg .a .b s
/-- `LD A,C` (R200). -/
def exec_ld_a_c (s : State) : Result := loadRegReg .a .c s
/-- `LD A,D` (R200). -/
def exec_ld_a_d (s : State) : Result := loadRegReg .a .d s
/-- `LD A,E` (R200). -/
def exec_ld_a_e (s : State) : Result := loadRegReg .a .e s
/-- `LD A,H` (R200). -/
def exec_ld_a_h (s : State) : Result := loadRegReg .a .h s
/-- `LD A,L` (R200). -/
def exec_ld_a_l (s : State) : Result := loadRegReg .a .l s
/-- `LD A,(HL)` (R202). -/
def exec_ld_a_mhl (s : State) : Result := loadRegHl .a s
/-- `LD A,A` (R200). -/
def exec_ld_a_a (s : State) : Result := loadRegReg .a .a s
/-- `LD SP,HL` (R233). -/
def exec_ld_sp_hl (s : State) : Result := loadSpHl s
/-- `LD (nn),BC` (R231). -/
def exec_ld_mnn_bc (nn : Word) (s : State) : Result := storePairDirect nn .bc s
/-- `LD I,A` (R221). -/
def exec_ld_i_a (s : State) : Result := loadIA s
/-- `LD BC,(nn)` (R228). -/
def exec_ld_bc_mnn (nn : Word) (s : State) : Result := loadPairDirect .bc nn s
/-- `LD R,A` (R222). -/
def exec_ld_r_a (s : State) : Result := loadRA s
/-- `LD (nn),DE` (R231). -/
def exec_ld_mnn_de (nn : Word) (s : State) : Result := storePairDirect nn .de s
/-- `LD A,I` (R223). -/
def exec_ld_a_i (s : State) : Result := loadAI s
/-- `LD DE,(nn)` (R228). -/
def exec_ld_de_mnn (nn : Word) (s : State) : Result := loadPairDirect .de nn s
/-- `LD A,R` (R224). -/
def exec_ld_a_r (s : State) : Result := loadAR s
/-- `LD (nn),HL` (R231). -/
def exec_ld_mnn_hl_ED63 (nn : Word) (s : State) : Result := storePairDirect nn .hl s
/-- `LD HL,(nn)` (R228). -/
def exec_ld_hl_mnn_ED6B (nn : Word) (s : State) : Result := loadPairDirect .hl nn s
/-- `LD (nn),SP` (R231). -/
def exec_ld_mnn_sp (nn : Word) (s : State) : Result := storePairDirect nn .sp s
/-- `LD SP,(nn)` (R228). -/
def exec_ld_sp_mnn (nn : Word) (s : State) : Result := loadPairDirect .sp nn s
/-- `LD IX,nn` (R226). -/
def exec_ld_ix_nn (nn : Word) (s : State) : Result := loadXyImm .ix nn s
/-- `LD (nn),IX` (R232). -/
def exec_ld_mnn_ix (nn : Word) (s : State) : Result := storeXyDirect nn .ix s
/-- `LD IXH,n` (R215). -/
def exec_ld_ixh_n (n : Byte) (s : State) : Result := loadHalfImm .ix .hi n s
/-- `LD IX,(nn)` (R229). -/
def exec_ld_ix_mnn (nn : Word) (s : State) : Result := loadXyDirect .ix nn s
/-- `LD IXL,n` (R215). -/
def exec_ld_ixl_n (n : Byte) (s : State) : Result := loadHalfImm .ix .lo n s
/-- `LD (IX+d),n` (R207). -/
def exec_ld_ixd_n (d : Byte) (n : Byte) (s : State) : Result := storeIdxImm .ix d n s
/-- `LD B,IXH` (R214). -/
def exec_ld_b_ixh (s : State) : Result := loadPlainHalf .b .ix .hi s
/-- `LD B,IXL` (R214). -/
def exec_ld_b_ixl (s : State) : Result := loadPlainHalf .b .ix .lo s
/-- `LD B,(IX+d)` (R203). -/
def exec_ld_b_ixd (d : Byte) (s : State) : Result := loadRegIdx .b .ix d s
/-- `LD C,IXH` (R214). -/
def exec_ld_c_ixh (s : State) : Result := loadPlainHalf .c .ix .hi s
/-- `LD C,IXL` (R214). -/
def exec_ld_c_ixl (s : State) : Result := loadPlainHalf .c .ix .lo s
/-- `LD C,(IX+d)` (R203). -/
def exec_ld_c_ixd (d : Byte) (s : State) : Result := loadRegIdx .c .ix d s
/-- `LD D,IXH` (R214). -/
def exec_ld_d_ixh (s : State) : Result := loadPlainHalf .d .ix .hi s
/-- `LD D,IXL` (R214). -/
def exec_ld_d_ixl (s : State) : Result := loadPlainHalf .d .ix .lo s
/-- `LD D,(IX+d)` (R203). -/
def exec_ld_d_ixd (d : Byte) (s : State) : Result := loadRegIdx .d .ix d s
/-- `LD E,IXH` (R214). -/
def exec_ld_e_ixh (s : State) : Result := loadPlainHalf .e .ix .hi s
/-- `LD E,IXL` (R214). -/
def exec_ld_e_ixl (s : State) : Result := loadPlainHalf .e .ix .lo s
/-- `LD E,(IX+d)` (R203). -/
def exec_ld_e_ixd (d : Byte) (s : State) : Result := loadRegIdx .e .ix d s
/-- `LD IXH,B` (R214). -/
def exec_ld_ixh_b (s : State) : Result := loadHalfPlain .ix .hi .b s
/-- `LD IXH,C` (R214). -/
def exec_ld_ixh_c (s : State) : Result := loadHalfPlain .ix .hi .c s
/-- `LD IXH,D` (R214). -/
def exec_ld_ixh_d (s : State) : Result := loadHalfPlain .ix .hi .d s
/-- `LD IXH,E` (R214). -/
def exec_ld_ixh_e (s : State) : Result := loadHalfPlain .ix .hi .e s
/-- `LD IXH,IXH` (R214). -/
def exec_ld_ixh_ixh (s : State) : Result := loadHalfHalf .ix .hi .hi s
/-- `LD IXH,IXL` (R214). -/
def exec_ld_ixh_ixl (s : State) : Result := loadHalfHalf .ix .hi .lo s
/-- `LD H,(IX+d)` (R203). -/
def exec_ld_h_ixd (d : Byte) (s : State) : Result := loadRegIdx .h .ix d s
/-- `LD IXH,A` (R214). -/
def exec_ld_ixh_a (s : State) : Result := loadHalfPlain .ix .hi .a s
/-- `LD IXL,B` (R214). -/
def exec_ld_ixl_b (s : State) : Result := loadHalfPlain .ix .lo .b s
/-- `LD IXL,C` (R214). -/
def exec_ld_ixl_c (s : State) : Result := loadHalfPlain .ix .lo .c s
/-- `LD IXL,D` (R214). -/
def exec_ld_ixl_d (s : State) : Result := loadHalfPlain .ix .lo .d s
/-- `LD IXL,E` (R214). -/
def exec_ld_ixl_e (s : State) : Result := loadHalfPlain .ix .lo .e s
/-- `LD IXL,IXH` (R214). -/
def exec_ld_ixl_ixh (s : State) : Result := loadHalfHalf .ix .lo .hi s
/-- `LD IXL,IXL` (R214). -/
def exec_ld_ixl_ixl (s : State) : Result := loadHalfHalf .ix .lo .lo s
/-- `LD L,(IX+d)` (R203). -/
def exec_ld_l_ixd (d : Byte) (s : State) : Result := loadRegIdx .l .ix d s
/-- `LD IXL,A` (R214). -/
def exec_ld_ixl_a (s : State) : Result := loadHalfPlain .ix .lo .a s
/-- `LD (IX+d),B` (R205). -/
def exec_ld_ixd_b (d : Byte) (s : State) : Result := storeIdxReg .ix d .b s
/-- `LD (IX+d),C` (R205). -/
def exec_ld_ixd_c (d : Byte) (s : State) : Result := storeIdxReg .ix d .c s
/-- `LD (IX+d),D` (R205). -/
def exec_ld_ixd_d (d : Byte) (s : State) : Result := storeIdxReg .ix d .d s
/-- `LD (IX+d),E` (R205). -/
def exec_ld_ixd_e (d : Byte) (s : State) : Result := storeIdxReg .ix d .e s
/-- `LD (IX+d),H` (R205). -/
def exec_ld_ixd_h (d : Byte) (s : State) : Result := storeIdxReg .ix d .h s
/-- `LD (IX+d),L` (R205). -/
def exec_ld_ixd_l (d : Byte) (s : State) : Result := storeIdxReg .ix d .l s
/-- `LD (IX+d),A` (R205). -/
def exec_ld_ixd_a (d : Byte) (s : State) : Result := storeIdxReg .ix d .a s
/-- `LD A,IXH` (R214). -/
def exec_ld_a_ixh (s : State) : Result := loadPlainHalf .a .ix .hi s
/-- `LD A,IXL` (R214). -/
def exec_ld_a_ixl (s : State) : Result := loadPlainHalf .a .ix .lo s
/-- `LD A,(IX+d)` (R203). -/
def exec_ld_a_ixd (d : Byte) (s : State) : Result := loadRegIdx .a .ix d s
/-- `LD SP,IX` (R234). -/
def exec_ld_sp_ix (s : State) : Result := loadSpXy .ix s
/-- `LD IY,nn` (R226). -/
def exec_ld_iy_nn (nn : Word) (s : State) : Result := loadXyImm .iy nn s
/-- `LD (nn),IY` (R232). -/
def exec_ld_mnn_iy (nn : Word) (s : State) : Result := storeXyDirect nn .iy s
/-- `LD IYH,n` (R215). -/
def exec_ld_iyh_n (n : Byte) (s : State) : Result := loadHalfImm .iy .hi n s
/-- `LD IY,(nn)` (R229). -/
def exec_ld_iy_mnn (nn : Word) (s : State) : Result := loadXyDirect .iy nn s
/-- `LD IYL,n` (R215). -/
def exec_ld_iyl_n (n : Byte) (s : State) : Result := loadHalfImm .iy .lo n s
/-- `LD (IY+d),n` (R207). -/
def exec_ld_iyd_n (d : Byte) (n : Byte) (s : State) : Result := storeIdxImm .iy d n s
/-- `LD B,IYH` (R214). -/
def exec_ld_b_iyh (s : State) : Result := loadPlainHalf .b .iy .hi s
/-- `LD B,IYL` (R214). -/
def exec_ld_b_iyl (s : State) : Result := loadPlainHalf .b .iy .lo s
/-- `LD B,(IY+d)` (R203). -/
def exec_ld_b_iyd (d : Byte) (s : State) : Result := loadRegIdx .b .iy d s
/-- `LD C,IYH` (R214). -/
def exec_ld_c_iyh (s : State) : Result := loadPlainHalf .c .iy .hi s
/-- `LD C,IYL` (R214). -/
def exec_ld_c_iyl (s : State) : Result := loadPlainHalf .c .iy .lo s
/-- `LD C,(IY+d)` (R203). -/
def exec_ld_c_iyd (d : Byte) (s : State) : Result := loadRegIdx .c .iy d s
/-- `LD D,IYH` (R214). -/
def exec_ld_d_iyh (s : State) : Result := loadPlainHalf .d .iy .hi s
/-- `LD D,IYL` (R214). -/
def exec_ld_d_iyl (s : State) : Result := loadPlainHalf .d .iy .lo s
/-- `LD D,(IY+d)` (R203). -/
def exec_ld_d_iyd (d : Byte) (s : State) : Result := loadRegIdx .d .iy d s
/-- `LD E,IYH` (R214). -/
def exec_ld_e_iyh (s : State) : Result := loadPlainHalf .e .iy .hi s
/-- `LD E,IYL` (R214). -/
def exec_ld_e_iyl (s : State) : Result := loadPlainHalf .e .iy .lo s
/-- `LD E,(IY+d)` (R203). -/
def exec_ld_e_iyd (d : Byte) (s : State) : Result := loadRegIdx .e .iy d s
/-- `LD IYH,B` (R214). -/
def exec_ld_iyh_b (s : State) : Result := loadHalfPlain .iy .hi .b s
/-- `LD IYH,C` (R214). -/
def exec_ld_iyh_c (s : State) : Result := loadHalfPlain .iy .hi .c s
/-- `LD IYH,D` (R214). -/
def exec_ld_iyh_d (s : State) : Result := loadHalfPlain .iy .hi .d s
/-- `LD IYH,E` (R214). -/
def exec_ld_iyh_e (s : State) : Result := loadHalfPlain .iy .hi .e s
/-- `LD IYH,IYH` (R214). -/
def exec_ld_iyh_iyh (s : State) : Result := loadHalfHalf .iy .hi .hi s
/-- `LD IYH,IYL` (R214). -/
def exec_ld_iyh_iyl (s : State) : Result := loadHalfHalf .iy .hi .lo s
/-- `LD H,(IY+d)` (R203). -/
def exec_ld_h_iyd (d : Byte) (s : State) : Result := loadRegIdx .h .iy d s
/-- `LD IYH,A` (R214). -/
def exec_ld_iyh_a (s : State) : Result := loadHalfPlain .iy .hi .a s
/-- `LD IYL,B` (R214). -/
def exec_ld_iyl_b (s : State) : Result := loadHalfPlain .iy .lo .b s
/-- `LD IYL,C` (R214). -/
def exec_ld_iyl_c (s : State) : Result := loadHalfPlain .iy .lo .c s
/-- `LD IYL,D` (R214). -/
def exec_ld_iyl_d (s : State) : Result := loadHalfPlain .iy .lo .d s
/-- `LD IYL,E` (R214). -/
def exec_ld_iyl_e (s : State) : Result := loadHalfPlain .iy .lo .e s
/-- `LD IYL,IYH` (R214). -/
def exec_ld_iyl_iyh (s : State) : Result := loadHalfHalf .iy .lo .hi s
/-- `LD IYL,IYL` (R214). -/
def exec_ld_iyl_iyl (s : State) : Result := loadHalfHalf .iy .lo .lo s
/-- `LD L,(IY+d)` (R203). -/
def exec_ld_l_iyd (d : Byte) (s : State) : Result := loadRegIdx .l .iy d s
/-- `LD IYL,A` (R214). -/
def exec_ld_iyl_a (s : State) : Result := loadHalfPlain .iy .lo .a s
/-- `LD (IY+d),B` (R205). -/
def exec_ld_iyd_b (d : Byte) (s : State) : Result := storeIdxReg .iy d .b s
/-- `LD (IY+d),C` (R205). -/
def exec_ld_iyd_c (d : Byte) (s : State) : Result := storeIdxReg .iy d .c s
/-- `LD (IY+d),D` (R205). -/
def exec_ld_iyd_d (d : Byte) (s : State) : Result := storeIdxReg .iy d .d s
/-- `LD (IY+d),E` (R205). -/
def exec_ld_iyd_e (d : Byte) (s : State) : Result := storeIdxReg .iy d .e s
/-- `LD (IY+d),H` (R205). -/
def exec_ld_iyd_h (d : Byte) (s : State) : Result := storeIdxReg .iy d .h s
/-- `LD (IY+d),L` (R205). -/
def exec_ld_iyd_l (d : Byte) (s : State) : Result := storeIdxReg .iy d .l s
/-- `LD (IY+d),A` (R205). -/
def exec_ld_iyd_a (d : Byte) (s : State) : Result := storeIdxReg .iy d .a s
/-- `LD A,IYH` (R214). -/
def exec_ld_a_iyh (s : State) : Result := loadPlainHalf .a .iy .hi s
/-- `LD A,IYL` (R214). -/
def exec_ld_a_iyl (s : State) : Result := loadPlainHalf .a .iy .lo s
/-- `LD A,(IY+d)` (R203). -/
def exec_ld_a_iyd (d : Byte) (s : State) : Result := loadRegIdx .a .iy d s
/-- `LD SP,IY` (R234). -/
def exec_ld_sp_iy (s : State) : Result := loadSpXy .iy s

end Sys2Proof.Machine
end

