-- ==== Sys2Proof/Machine/RotShift.lean ====
section
/-! DEFINITION. Rotates and shifts (spec/44_rotate_shift_bit.md R330 to R343, R351): the shared operations, then
one meaning per row. -/

namespace Sys2Proof.Machine

/-- An accumulator rotate (R330 to R333). -/
def rotateA (op : RotOp) (s : State) : Result :=
  let o := rotAOut op s.a s.f
  ({ s with a := o.r }).doneFlags o.f 1

/-- `RLCA` (R330). -/
def rotateALeft (s : State) : Result := rotateA .rlc s
/-- `RRCA` (R331). -/
def rotateARight (s : State) : Result := rotateA .rrc s
/-- `RLA` (R332). -/
def rotateALeftCarry (s : State) : Result := rotateA .rl s
/-- `RRA` (R333). -/
def rotateARightCarry (s : State) : Result := rotateA .rr s

/-- A CB-space or DDCB/FDCB-space rotate or shift (R334 to R343, R351). -/
def rotateShift (op : RotOp) (m : M8) (s : State) : Result :=
  let o := rotOut op (readM8 m s) s.f
  (writeM8 m o.r s).doneFlags o.f (lenM8 m)

/-! ### The rows -/

/-- `RLCA` (R330). -/
def exec_rlca (s : State) : Result := rotateALeft s
/-- `RRCA` (R331). -/
def exec_rrca (s : State) : Result := rotateARight s
/-- `RLA` (R332). -/
def exec_rla (s : State) : Result := rotateALeftCarry s
/-- `RRA` (R333). -/
def exec_rra (s : State) : Result := rotateARightCarry s
/-- `RLC B` (R335). -/
def exec_rlc_b (s : State) : Result := rotateShift .rlc (.r .b) s
/-- `RLC C` (R335). -/
def exec_rlc_c (s : State) : Result := rotateShift .rlc (.r .c) s
/-- `RLC D` (R335). -/
def exec_rlc_d (s : State) : Result := rotateShift .rlc (.r .d) s
/-- `RLC E` (R335). -/
def exec_rlc_e (s : State) : Result := rotateShift .rlc (.r .e) s
/-- `RLC H` (R335). -/
def exec_rlc_h (s : State) : Result := rotateShift .rlc (.r .h) s
/-- `RLC L` (R335). -/
def exec_rlc_l (s : State) : Result := rotateShift .rlc (.r .l) s
/-- `RLC (HL)` (R335). -/
def exec_rlc_mhl (s : State) : Result := rotateShift .rlc .hl s
/-- `RLC A` (R335). -/
def exec_rlc_a (s : State) : Result := rotateShift .rlc (.r .a) s
/-- `RRC B` (R336). -/
def exec_rrc_b (s : State) : Result := rotateShift .rrc (.r .b) s
/-- `RRC C` (R336). -/
def exec_rrc_c (s : State) : Result := rotateShift .rrc (.r .c) s
/-- `RRC D` (R336). -/
def exec_rrc_d (s : State) : Result := rotateShift .rrc (.r .d) s
/-- `RRC E` (R336). -/
def exec_rrc_e (s : State) : Result := rotateShift .rrc (.r .e) s
/-- `RRC H` (R336). -/
def exec_rrc_h (s : State) : Result := rotateShift .rrc (.r .h) s
/-- `RRC L` (R336). -/
def exec_rrc_l (s : State) : Result := rotateShift .rrc (.r .l) s
/-- `RRC (HL)` (R336). -/
def exec_rrc_mhl (s : State) : Result := rotateShift .rrc .hl s
/-- `RRC A` (R336). -/
def exec_rrc_a (s : State) : Result := rotateShift .rrc (.r .a) s
/-- `RL B` (R337). -/
def exec_rl_b (s : State) : Result := rotateShift .rl (.r .b) s
/-- `RL C` (R337). -/
def exec_rl_c (s : State) : Result := rotateShift .rl (.r .c) s
/-- `RL D` (R337). -/
def exec_rl_d (s : State) : Result := rotateShift .rl (.r .d) s
/-- `RL E` (R337). -/
def exec_rl_e (s : State) : Result := rotateShift .rl (.r .e) s
/-- `RL H` (R337). -/
def exec_rl_h (s : State) : Result := rotateShift .rl (.r .h) s
/-- `RL L` (R337). -/
def exec_rl_l (s : State) : Result := rotateShift .rl (.r .l) s
/-- `RL (HL)` (R337). -/
def exec_rl_mhl (s : State) : Result := rotateShift .rl .hl s
/-- `RL A` (R337). -/
def exec_rl_a (s : State) : Result := rotateShift .rl (.r .a) s
/-- `RR B` (R338). -/
def exec_rr_b (s : State) : Result := rotateShift .rr (.r .b) s
/-- `RR C` (R338). -/
def exec_rr_c (s : State) : Result := rotateShift .rr (.r .c) s
/-- `RR D` (R338). -/
def exec_rr_d (s : State) : Result := rotateShift .rr (.r .d) s
/-- `RR E` (R338). -/
def exec_rr_e (s : State) : Result := rotateShift .rr (.r .e) s
/-- `RR H` (R338). -/
def exec_rr_h (s : State) : Result := rotateShift .rr (.r .h) s
/-- `RR L` (R338). -/
def exec_rr_l (s : State) : Result := rotateShift .rr (.r .l) s
/-- `RR (HL)` (R338). -/
def exec_rr_mhl (s : State) : Result := rotateShift .rr .hl s
/-- `RR A` (R338). -/
def exec_rr_a (s : State) : Result := rotateShift .rr (.r .a) s
/-- `SLA B` (R339). -/
def exec_sla_b (s : State) : Result := rotateShift .sla (.r .b) s
/-- `SLA C` (R339). -/
def exec_sla_c (s : State) : Result := rotateShift .sla (.r .c) s
/-- `SLA D` (R339). -/
def exec_sla_d (s : State) : Result := rotateShift .sla (.r .d) s
/-- `SLA E` (R339). -/
def exec_sla_e (s : State) : Result := rotateShift .sla (.r .e) s
/-- `SLA H` (R339). -/
def exec_sla_h (s : State) : Result := rotateShift .sla (.r .h) s
/-- `SLA L` (R339). -/
def exec_sla_l (s : State) : Result := rotateShift .sla (.r .l) s
/-- `SLA (HL)` (R339). -/
def exec_sla_mhl (s : State) : Result := rotateShift .sla .hl s
/-- `SLA A` (R339). -/
def exec_sla_a (s : State) : Result := rotateShift .sla (.r .a) s
/-- `SRA B` (R340). -/
def exec_sra_b (s : State) : Result := rotateShift .sra (.r .b) s
/-- `SRA C` (R340). -/
def exec_sra_c (s : State) : Result := rotateShift .sra (.r .c) s
/-- `SRA D` (R340). -/
def exec_sra_d (s : State) : Result := rotateShift .sra (.r .d) s
/-- `SRA E` (R340). -/
def exec_sra_e (s : State) : Result := rotateShift .sra (.r .e) s
/-- `SRA H` (R340). -/
def exec_sra_h (s : State) : Result := rotateShift .sra (.r .h) s
/-- `SRA L` (R340). -/
def exec_sra_l (s : State) : Result := rotateShift .sra (.r .l) s
/-- `SRA (HL)` (R340). -/
def exec_sra_mhl (s : State) : Result := rotateShift .sra .hl s
/-- `SRA A` (R340). -/
def exec_sra_a (s : State) : Result := rotateShift .sra (.r .a) s
/-- `SLL B` (R341). -/
def exec_sll_b (s : State) : Result := rotateShift .sll (.r .b) s
/-- `SLL C` (R341). -/
def exec_sll_c (s : State) : Result := rotateShift .sll (.r .c) s
/-- `SLL D` (R341). -/
def exec_sll_d (s : State) : Result := rotateShift .sll (.r .d) s
/-- `SLL E` (R341). -/
def exec_sll_e (s : State) : Result := rotateShift .sll (.r .e) s
/-- `SLL H` (R341). -/
def exec_sll_h (s : State) : Result := rotateShift .sll (.r .h) s
/-- `SLL L` (R341). -/
def exec_sll_l (s : State) : Result := rotateShift .sll (.r .l) s
/-- `SLL (HL)` (R341). -/
def exec_sll_mhl (s : State) : Result := rotateShift .sll .hl s
/-- `SLL A` (R341). -/
def exec_sll_a (s : State) : Result := rotateShift .sll (.r .a) s
/-- `SRL B` (R342). -/
def exec_srl_b (s : State) : Result := rotateShift .srl (.r .b) s
/-- `SRL C` (R342). -/
def exec_srl_c (s : State) : Result := rotateShift .srl (.r .c) s
/-- `SRL D` (R342). -/
def exec_srl_d (s : State) : Result := rotateShift .srl (.r .d) s
/-- `SRL E` (R342). -/
def exec_srl_e (s : State) : Result := rotateShift .srl (.r .e) s
/-- `SRL H` (R342). -/
def exec_srl_h (s : State) : Result := rotateShift .srl (.r .h) s
/-- `SRL L` (R342). -/
def exec_srl_l (s : State) : Result := rotateShift .srl (.r .l) s
/-- `SRL (HL)` (R342). -/
def exec_srl_mhl (s : State) : Result := rotateShift .srl .hl s
/-- `SRL A` (R342). -/
def exec_srl_a (s : State) : Result := rotateShift .srl (.r .a) s
/-- `RLC (IX+d),B` (R351). -/
def exec_rlc_ixd_b (d : Byte) (s : State) : Result := rotateShift .rlc (.idxCopy .ix d .b) s
/-- `RLC (IX+d),C` (R351). -/
def exec_rlc_ixd_c (d : Byte) (s : State) : Result := rotateShift .rlc (.idxCopy .ix d .c) s
/-- `RLC (IX+d),D` (R351). -/
def exec_rlc_ixd_d (d : Byte) (s : State) : Result := rotateShift .rlc (.idxCopy .ix d .d) s
/-- `RLC (IX+d),E` (R351). -/
def exec_rlc_ixd_e (d : Byte) (s : State) : Result := rotateShift .rlc (.idxCopy .ix d .e) s
/-- `RLC (IX+d),H` (R351). -/
def exec_rlc_ixd_h (d : Byte) (s : State) : Result := rotateShift .rlc (.idxCopy .ix d .h) s
/-- `RLC (IX+d),L` (R351). -/
def exec_rlc_ixd_l (d : Byte) (s : State) : Result := rotateShift .rlc (.idxCopy .ix d .l) s
/-- `RLC (IX+d)` (R335). -/
def exec_rlc_ixd (d : Byte) (s : State) : Result := rotateShift .rlc (.idx .ix d) s
/-- `RLC (IX+d),A` (R351). -/
def exec_rlc_ixd_a (d : Byte) (s : State) : Result := rotateShift .rlc (.idxCopy .ix d .a) s
/-- `RRC (IX+d),B` (R351). -/
def exec_rrc_ixd_b (d : Byte) (s : State) : Result := rotateShift .rrc (.idxCopy .ix d .b) s
/-- `RRC (IX+d),C` (R351). -/
def exec_rrc_ixd_c (d : Byte) (s : State) : Result := rotateShift .rrc (.idxCopy .ix d .c) s
/-- `RRC (IX+d),D` (R351). -/
def exec_rrc_ixd_d (d : Byte) (s : State) : Result := rotateShift .rrc (.idxCopy .ix d .d) s
/-- `RRC (IX+d),E` (R351). -/
def exec_rrc_ixd_e (d : Byte) (s : State) : Result := rotateShift .rrc (.idxCopy .ix d .e) s
/-- `RRC (IX+d),H` (R351). -/
def exec_rrc_ixd_h (d : Byte) (s : State) : Result := rotateShift .rrc (.idxCopy .ix d .h) s
/-- `RRC (IX+d),L` (R351). -/
def exec_rrc_ixd_l (d : Byte) (s : State) : Result := rotateShift .rrc (.idxCopy .ix d .l) s
/-- `RRC (IX+d)` (R336). -/
def exec_rrc_ixd (d : Byte) (s : State) : Result := rotateShift .rrc (.idx .ix d) s
/-- `RRC (IX+d),A` (R351). -/
def exec_rrc_ixd_a (d : Byte) (s : State) : Result := rotateShift .rrc (.idxCopy .ix d .a) s
/-- `RL (IX+d),B` (R351). -/
def exec_rl_ixd_b (d : Byte) (s : State) : Result := rotateShift .rl (.idxCopy .ix d .b) s
/-- `RL (IX+d),C` (R351). -/
def exec_rl_ixd_c (d : Byte) (s : State) : Result := rotateShift .rl (.idxCopy .ix d .c) s
/-- `RL (IX+d),D` (R351). -/
def exec_rl_ixd_d (d : Byte) (s : State) : Result := rotateShift .rl (.idxCopy .ix d .d) s
/-- `RL (IX+d),E` (R351). -/
def exec_rl_ixd_e (d : Byte) (s : State) : Result := rotateShift .rl (.idxCopy .ix d .e) s
/-- `RL (IX+d),H` (R351). -/
def exec_rl_ixd_h (d : Byte) (s : State) : Result := rotateShift .rl (.idxCopy .ix d .h) s
/-- `RL (IX+d),L` (R351). -/
def exec_rl_ixd_l (d : Byte) (s : State) : Result := rotateShift .rl (.idxCopy .ix d .l) s
/-- `RL (IX+d)` (R337). -/
def exec_rl_ixd (d : Byte) (s : State) : Result := rotateShift .rl (.idx .ix d) s
/-- `RL (IX+d),A` (R351). -/
def exec_rl_ixd_a (d : Byte) (s : State) : Result := rotateShift .rl (.idxCopy .ix d .a) s
/-- `RR (IX+d),B` (R351). -/
def exec_rr_ixd_b (d : Byte) (s : State) : Result := rotateShift .rr (.idxCopy .ix d .b) s
/-- `RR (IX+d),C` (R351). -/
def exec_rr_ixd_c (d : Byte) (s : State) : Result := rotateShift .rr (.idxCopy .ix d .c) s
/-- `RR (IX+d),D` (R351). -/
def exec_rr_ixd_d (d : Byte) (s : State) : Result := rotateShift .rr (.idxCopy .ix d .d) s
/-- `RR (IX+d),E` (R351). -/
def exec_rr_ixd_e (d : Byte) (s : State) : Result := rotateShift .rr (.idxCopy .ix d .e) s
/-- `RR (IX+d),H` (R351). -/
def exec_rr_ixd_h (d : Byte) (s : State) : Result := rotateShift .rr (.idxCopy .ix d .h) s
/-- `RR (IX+d),L` (R351). -/
def exec_rr_ixd_l (d : Byte) (s : State) : Result := rotateShift .rr (.idxCopy .ix d .l) s
/-- `RR (IX+d)` (R338). -/
def exec_rr_ixd (d : Byte) (s : State) : Result := rotateShift .rr (.idx .ix d) s
/-- `RR (IX+d),A` (R351). -/
def exec_rr_ixd_a (d : Byte) (s : State) : Result := rotateShift .rr (.idxCopy .ix d .a) s
/-- `SLA (IX+d),B` (R351). -/
def exec_sla_ixd_b (d : Byte) (s : State) : Result := rotateShift .sla (.idxCopy .ix d .b) s
/-- `SLA (IX+d),C` (R351). -/
def exec_sla_ixd_c (d : Byte) (s : State) : Result := rotateShift .sla (.idxCopy .ix d .c) s
/-- `SLA (IX+d),D` (R351). -/
def exec_sla_ixd_d (d : Byte) (s : State) : Result := rotateShift .sla (.idxCopy .ix d .d) s
/-- `SLA (IX+d),E` (R351). -/
def exec_sla_ixd_e (d : Byte) (s : State) : Result := rotateShift .sla (.idxCopy .ix d .e) s
/-- `SLA (IX+d),H` (R351). -/
def exec_sla_ixd_h (d : Byte) (s : State) : Result := rotateShift .sla (.idxCopy .ix d .h) s
/-- `SLA (IX+d),L` (R351). -/
def exec_sla_ixd_l (d : Byte) (s : State) : Result := rotateShift .sla (.idxCopy .ix d .l) s
/-- `SLA (IX+d)` (R339). -/
def exec_sla_ixd (d : Byte) (s : State) : Result := rotateShift .sla (.idx .ix d) s
/-- `SLA (IX+d),A` (R351). -/
def exec_sla_ixd_a (d : Byte) (s : State) : Result := rotateShift .sla (.idxCopy .ix d .a) s
/-- `SRA (IX+d),B` (R351). -/
def exec_sra_ixd_b (d : Byte) (s : State) : Result := rotateShift .sra (.idxCopy .ix d .b) s
/-- `SRA (IX+d),C` (R351). -/
def exec_sra_ixd_c (d : Byte) (s : State) : Result := rotateShift .sra (.idxCopy .ix d .c) s
/-- `SRA (IX+d),D` (R351). -/
def exec_sra_ixd_d (d : Byte) (s : State) : Result := rotateShift .sra (.idxCopy .ix d .d) s
/-- `SRA (IX+d),E` (R351). -/
def exec_sra_ixd_e (d : Byte) (s : State) : Result := rotateShift .sra (.idxCopy .ix d .e) s
/-- `SRA (IX+d),H` (R351). -/
def exec_sra_ixd_h (d : Byte) (s : State) : Result := rotateShift .sra (.idxCopy .ix d .h) s
/-- `SRA (IX+d),L` (R351). -/
def exec_sra_ixd_l (d : Byte) (s : State) : Result := rotateShift .sra (.idxCopy .ix d .l) s
/-- `SRA (IX+d)` (R340). -/
def exec_sra_ixd (d : Byte) (s : State) : Result := rotateShift .sra (.idx .ix d) s
/-- `SRA (IX+d),A` (R351). -/
def exec_sra_ixd_a (d : Byte) (s : State) : Result := rotateShift .sra (.idxCopy .ix d .a) s
/-- `SLL (IX+d),B` (R351). -/
def exec_sll_ixd_b (d : Byte) (s : State) : Result := rotateShift .sll (.idxCopy .ix d .b) s
/-- `SLL (IX+d),C` (R351). -/
def exec_sll_ixd_c (d : Byte) (s : State) : Result := rotateShift .sll (.idxCopy .ix d .c) s
/-- `SLL (IX+d),D` (R351). -/
def exec_sll_ixd_d (d : Byte) (s : State) : Result := rotateShift .sll (.idxCopy .ix d .d) s
/-- `SLL (IX+d),E` (R351). -/
def exec_sll_ixd_e (d : Byte) (s : State) : Result := rotateShift .sll (.idxCopy .ix d .e) s
/-- `SLL (IX+d),H` (R351). -/
def exec_sll_ixd_h (d : Byte) (s : State) : Result := rotateShift .sll (.idxCopy .ix d .h) s
/-- `SLL (IX+d),L` (R351). -/
def exec_sll_ixd_l (d : Byte) (s : State) : Result := rotateShift .sll (.idxCopy .ix d .l) s
/-- `SLL (IX+d)` (R341). -/
def exec_sll_ixd (d : Byte) (s : State) : Result := rotateShift .sll (.idx .ix d) s
/-- `SLL (IX+d),A` (R351). -/
def exec_sll_ixd_a (d : Byte) (s : State) : Result := rotateShift .sll (.idxCopy .ix d .a) s
/-- `SRL (IX+d),B` (R351). -/
def exec_srl_ixd_b (d : Byte) (s : State) : Result := rotateShift .srl (.idxCopy .ix d .b) s
/-- `SRL (IX+d),C` (R351). -/
def exec_srl_ixd_c (d : Byte) (s : State) : Result := rotateShift .srl (.idxCopy .ix d .c) s
/-- `SRL (IX+d),D` (R351). -/
def exec_srl_ixd_d (d : Byte) (s : State) : Result := rotateShift .srl (.idxCopy .ix d .d) s
/-- `SRL (IX+d),E` (R351). -/
def exec_srl_ixd_e (d : Byte) (s : State) : Result := rotateShift .srl (.idxCopy .ix d .e) s
/-- `SRL (IX+d),H` (R351). -/
def exec_srl_ixd_h (d : Byte) (s : State) : Result := rotateShift .srl (.idxCopy .ix d .h) s
/-- `SRL (IX+d),L` (R351). -/
def exec_srl_ixd_l (d : Byte) (s : State) : Result := rotateShift .srl (.idxCopy .ix d .l) s
/-- `SRL (IX+d)` (R342). -/
def exec_srl_ixd (d : Byte) (s : State) : Result := rotateShift .srl (.idx .ix d) s
/-- `SRL (IX+d),A` (R351). -/
def exec_srl_ixd_a (d : Byte) (s : State) : Result := rotateShift .srl (.idxCopy .ix d .a) s
/-- `RLC (IY+d),B` (R351). -/
def exec_rlc_iyd_b (d : Byte) (s : State) : Result := rotateShift .rlc (.idxCopy .iy d .b) s
/-- `RLC (IY+d),C` (R351). -/
def exec_rlc_iyd_c (d : Byte) (s : State) : Result := rotateShift .rlc (.idxCopy .iy d .c) s
/-- `RLC (IY+d),D` (R351). -/
def exec_rlc_iyd_d (d : Byte) (s : State) : Result := rotateShift .rlc (.idxCopy .iy d .d) s
/-- `RLC (IY+d),E` (R351). -/
def exec_rlc_iyd_e (d : Byte) (s : State) : Result := rotateShift .rlc (.idxCopy .iy d .e) s
/-- `RLC (IY+d),H` (R351). -/
def exec_rlc_iyd_h (d : Byte) (s : State) : Result := rotateShift .rlc (.idxCopy .iy d .h) s
/-- `RLC (IY+d),L` (R351). -/
def exec_rlc_iyd_l (d : Byte) (s : State) : Result := rotateShift .rlc (.idxCopy .iy d .l) s
/-- `RLC (IY+d)` (R335). -/
def exec_rlc_iyd (d : Byte) (s : State) : Result := rotateShift .rlc (.idx .iy d) s
/-- `RLC (IY+d),A` (R351). -/
def exec_rlc_iyd_a (d : Byte) (s : State) : Result := rotateShift .rlc (.idxCopy .iy d .a) s
/-- `RRC (IY+d),B` (R351). -/
def exec_rrc_iyd_b (d : Byte) (s : State) : Result := rotateShift .rrc (.idxCopy .iy d .b) s
/-- `RRC (IY+d),C` (R351). -/
def exec_rrc_iyd_c (d : Byte) (s : State) : Result := rotateShift .rrc (.idxCopy .iy d .c) s
/-- `RRC (IY+d),D` (R351). -/
def exec_rrc_iyd_d (d : Byte) (s : State) : Result := rotateShift .rrc (.idxCopy .iy d .d) s
/-- `RRC (IY+d),E` (R351). -/
def exec_rrc_iyd_e (d : Byte) (s : State) : Result := rotateShift .rrc (.idxCopy .iy d .e) s
/-- `RRC (IY+d),H` (R351). -/
def exec_rrc_iyd_h (d : Byte) (s : State) : Result := rotateShift .rrc (.idxCopy .iy d .h) s
/-- `RRC (IY+d),L` (R351). -/
def exec_rrc_iyd_l (d : Byte) (s : State) : Result := rotateShift .rrc (.idxCopy .iy d .l) s
/-- `RRC (IY+d)` (R336). -/
def exec_rrc_iyd (d : Byte) (s : State) : Result := rotateShift .rrc (.idx .iy d) s
/-- `RRC (IY+d),A` (R351). -/
def exec_rrc_iyd_a (d : Byte) (s : State) : Result := rotateShift .rrc (.idxCopy .iy d .a) s
/-- `RL (IY+d),B` (R351). -/
def exec_rl_iyd_b (d : Byte) (s : State) : Result := rotateShift .rl (.idxCopy .iy d .b) s
/-- `RL (IY+d),C` (R351). -/
def exec_rl_iyd_c (d : Byte) (s : State) : Result := rotateShift .rl (.idxCopy .iy d .c) s
/-- `RL (IY+d),D` (R351). -/
def exec_rl_iyd_d (d : Byte) (s : State) : Result := rotateShift .rl (.idxCopy .iy d .d) s
/-- `RL (IY+d),E` (R351). -/
def exec_rl_iyd_e (d : Byte) (s : State) : Result := rotateShift .rl (.idxCopy .iy d .e) s
/-- `RL (IY+d),H` (R351). -/
def exec_rl_iyd_h (d : Byte) (s : State) : Result := rotateShift .rl (.idxCopy .iy d .h) s
/-- `RL (IY+d),L` (R351). -/
def exec_rl_iyd_l (d : Byte) (s : State) : Result := rotateShift .rl (.idxCopy .iy d .l) s
/-- `RL (IY+d)` (R337). -/
def exec_rl_iyd (d : Byte) (s : State) : Result := rotateShift .rl (.idx .iy d) s
/-- `RL (IY+d),A` (R351). -/
def exec_rl_iyd_a (d : Byte) (s : State) : Result := rotateShift .rl (.idxCopy .iy d .a) s
/-- `RR (IY+d),B` (R351). -/
def exec_rr_iyd_b (d : Byte) (s : State) : Result := rotateShift .rr (.idxCopy .iy d .b) s
/-- `RR (IY+d),C` (R351). -/
def exec_rr_iyd_c (d : Byte) (s : State) : Result := rotateShift .rr (.idxCopy .iy d .c) s
/-- `RR (IY+d),D` (R351). -/
def exec_rr_iyd_d (d : Byte) (s : State) : Result := rotateShift .rr (.idxCopy .iy d .d) s
/-- `RR (IY+d),E` (R351). -/
def exec_rr_iyd_e (d : Byte) (s : State) : Result := rotateShift .rr (.idxCopy .iy d .e) s
/-- `RR (IY+d),H` (R351). -/
def exec_rr_iyd_h (d : Byte) (s : State) : Result := rotateShift .rr (.idxCopy .iy d .h) s
/-- `RR (IY+d),L` (R351). -/
def exec_rr_iyd_l (d : Byte) (s : State) : Result := rotateShift .rr (.idxCopy .iy d .l) s
/-- `RR (IY+d)` (R338). -/
def exec_rr_iyd (d : Byte) (s : State) : Result := rotateShift .rr (.idx .iy d) s
/-- `RR (IY+d),A` (R351). -/
def exec_rr_iyd_a (d : Byte) (s : State) : Result := rotateShift .rr (.idxCopy .iy d .a) s
/-- `SLA (IY+d),B` (R351). -/
def exec_sla_iyd_b (d : Byte) (s : State) : Result := rotateShift .sla (.idxCopy .iy d .b) s
/-- `SLA (IY+d),C` (R351). -/
def exec_sla_iyd_c (d : Byte) (s : State) : Result := rotateShift .sla (.idxCopy .iy d .c) s
/-- `SLA (IY+d),D` (R351). -/
def exec_sla_iyd_d (d : Byte) (s : State) : Result := rotateShift .sla (.idxCopy .iy d .d) s
/-- `SLA (IY+d),E` (R351). -/
def exec_sla_iyd_e (d : Byte) (s : State) : Result := rotateShift .sla (.idxCopy .iy d .e) s
/-- `SLA (IY+d),H` (R351). -/
def exec_sla_iyd_h (d : Byte) (s : State) : Result := rotateShift .sla (.idxCopy .iy d .h) s
/-- `SLA (IY+d),L` (R351). -/
def exec_sla_iyd_l (d : Byte) (s : State) : Result := rotateShift .sla (.idxCopy .iy d .l) s
/-- `SLA (IY+d)` (R339). -/
def exec_sla_iyd (d : Byte) (s : State) : Result := rotateShift .sla (.idx .iy d) s
/-- `SLA (IY+d),A` (R351). -/
def exec_sla_iyd_a (d : Byte) (s : State) : Result := rotateShift .sla (.idxCopy .iy d .a) s
/-- `SRA (IY+d),B` (R351). -/
def exec_sra_iyd_b (d : Byte) (s : State) : Result := rotateShift .sra (.idxCopy .iy d .b) s
/-- `SRA (IY+d),C` (R351). -/
def exec_sra_iyd_c (d : Byte) (s : State) : Result := rotateShift .sra (.idxCopy .iy d .c) s
/-- `SRA (IY+d),D` (R351). -/
def exec_sra_iyd_d (d : Byte) (s : State) : Result := rotateShift .sra (.idxCopy .iy d .d) s
/-- `SRA (IY+d),E` (R351). -/
def exec_sra_iyd_e (d : Byte) (s : State) : Result := rotateShift .sra (.idxCopy .iy d .e) s
/-- `SRA (IY+d),H` (R351). -/
def exec_sra_iyd_h (d : Byte) (s : State) : Result := rotateShift .sra (.idxCopy .iy d .h) s
/-- `SRA (IY+d),L` (R351). -/
def exec_sra_iyd_l (d : Byte) (s : State) : Result := rotateShift .sra (.idxCopy .iy d .l) s
/-- `SRA (IY+d)` (R340). -/
def exec_sra_iyd (d : Byte) (s : State) : Result := rotateShift .sra (.idx .iy d) s
/-- `SRA (IY+d),A` (R351). -/
def exec_sra_iyd_a (d : Byte) (s : State) : Result := rotateShift .sra (.idxCopy .iy d .a) s
/-- `SLL (IY+d),B` (R351). -/
def exec_sll_iyd_b (d : Byte) (s : State) : Result := rotateShift .sll (.idxCopy .iy d .b) s
/-- `SLL (IY+d),C` (R351). -/
def exec_sll_iyd_c (d : Byte) (s : State) : Result := rotateShift .sll (.idxCopy .iy d .c) s
/-- `SLL (IY+d),D` (R351). -/
def exec_sll_iyd_d (d : Byte) (s : State) : Result := rotateShift .sll (.idxCopy .iy d .d) s
/-- `SLL (IY+d),E` (R351). -/
def exec_sll_iyd_e (d : Byte) (s : State) : Result := rotateShift .sll (.idxCopy .iy d .e) s
/-- `SLL (IY+d),H` (R351). -/
def exec_sll_iyd_h (d : Byte) (s : State) : Result := rotateShift .sll (.idxCopy .iy d .h) s
/-- `SLL (IY+d),L` (R351). -/
def exec_sll_iyd_l (d : Byte) (s : State) : Result := rotateShift .sll (.idxCopy .iy d .l) s
/-- `SLL (IY+d)` (R341). -/
def exec_sll_iyd (d : Byte) (s : State) : Result := rotateShift .sll (.idx .iy d) s
/-- `SLL (IY+d),A` (R351). -/
def exec_sll_iyd_a (d : Byte) (s : State) : Result := rotateShift .sll (.idxCopy .iy d .a) s
/-- `SRL (IY+d),B` (R351). -/
def exec_srl_iyd_b (d : Byte) (s : State) : Result := rotateShift .srl (.idxCopy .iy d .b) s
/-- `SRL (IY+d),C` (R351). -/
def exec_srl_iyd_c (d : Byte) (s : State) : Result := rotateShift .srl (.idxCopy .iy d .c) s
/-- `SRL (IY+d),D` (R351). -/
def exec_srl_iyd_d (d : Byte) (s : State) : Result := rotateShift .srl (.idxCopy .iy d .d) s
/-- `SRL (IY+d),E` (R351). -/
def exec_srl_iyd_e (d : Byte) (s : State) : Result := rotateShift .srl (.idxCopy .iy d .e) s
/-- `SRL (IY+d),H` (R351). -/
def exec_srl_iyd_h (d : Byte) (s : State) : Result := rotateShift .srl (.idxCopy .iy d .h) s
/-- `SRL (IY+d),L` (R351). -/
def exec_srl_iyd_l (d : Byte) (s : State) : Result := rotateShift .srl (.idxCopy .iy d .l) s
/-- `SRL (IY+d)` (R342). -/
def exec_srl_iyd (d : Byte) (s : State) : Result := rotateShift .srl (.idx .iy d) s
/-- `SRL (IY+d),A` (R351). -/
def exec_srl_iyd_a (d : Byte) (s : State) : Result := rotateShift .srl (.idxCopy .iy d .a) s

end Sys2Proof.Machine
end

