-- ==== Sys2Proof/Machine/Dispatch.lean ====
section
/-! DEFINITION. One arm per constructor of Instr: the action of the instruction (spec/40_engine.md R157)
with the PC advance and the Q update it ends with. -/

namespace Sys2Proof.Machine

def exec (i : Instr) (s : State) : Host.Outcome State Fault Refusal :=
  match i with
  | .nop => Sys2Proof.Machine.exec_nop s
  | .ld_bc_nn nn => Sys2Proof.Machine.exec_ld_bc_nn nn s
  | .ld_mbc_a => Sys2Proof.Machine.exec_ld_mbc_a s
  | .inc_bc => Sys2Proof.Machine.exec_inc_bc s
  | .inc_b => Sys2Proof.Machine.exec_inc_b s
  | .dec_b => Sys2Proof.Machine.exec_dec_b s
  | .ld_b_n n => Sys2Proof.Machine.exec_ld_b_n n s
  | .rlca => Sys2Proof.Machine.exec_rlca s
  | .ex_af_afAlt => Sys2Proof.Machine.exec_ex_af_afAlt s
  | .add_hl_bc => Sys2Proof.Machine.exec_add_hl_bc s
  | .ld_a_mbc => Sys2Proof.Machine.exec_ld_a_mbc s
  | .dec_bc => Sys2Proof.Machine.exec_dec_bc s
  | .inc_c => Sys2Proof.Machine.exec_inc_c s
  | .dec_c => Sys2Proof.Machine.exec_dec_c s
  | .ld_c_n n => Sys2Proof.Machine.exec_ld_c_n n s
  | .rrca => Sys2Proof.Machine.exec_rrca s
  | .djnz_e e => Sys2Proof.Machine.exec_djnz_e e s
  | .ld_de_nn nn => Sys2Proof.Machine.exec_ld_de_nn nn s
  | .ld_mde_a => Sys2Proof.Machine.exec_ld_mde_a s
  | .inc_de => Sys2Proof.Machine.exec_inc_de s
  | .inc_d => Sys2Proof.Machine.exec_inc_d s
  | .dec_d => Sys2Proof.Machine.exec_dec_d s
  | .ld_d_n n => Sys2Proof.Machine.exec_ld_d_n n s
  | .rla => Sys2Proof.Machine.exec_rla s
  | .jr_e e => Sys2Proof.Machine.exec_jr_e e s
  | .add_hl_de => Sys2Proof.Machine.exec_add_hl_de s
  | .ld_a_mde => Sys2Proof.Machine.exec_ld_a_mde s
  | .dec_de => Sys2Proof.Machine.exec_dec_de s
  | .inc_e => Sys2Proof.Machine.exec_inc_e s
  | .dec_e => Sys2Proof.Machine.exec_dec_e s
  | .ld_e_n n => Sys2Proof.Machine.exec_ld_e_n n s
  | .rra => Sys2Proof.Machine.exec_rra s
  | .jr_nz_e e => Sys2Proof.Machine.exec_jr_nz_e e s
  | .ld_hl_nn nn => Sys2Proof.Machine.exec_ld_hl_nn nn s
  | .ld_mnn_hl nn => Sys2Proof.Machine.exec_ld_mnn_hl nn s
  | .inc_hl => Sys2Proof.Machine.exec_inc_hl s
  | .inc_h => Sys2Proof.Machine.exec_inc_h s
  | .dec_h => Sys2Proof.Machine.exec_dec_h s
  | .ld_h_n n => Sys2Proof.Machine.exec_ld_h_n n s
  | .daa => Sys2Proof.Machine.exec_daa s
  | .jr_z_e e => Sys2Proof.Machine.exec_jr_z_e e s
  | .add_hl_hl => Sys2Proof.Machine.exec_add_hl_hl s
  | .ld_hl_mnn nn => Sys2Proof.Machine.exec_ld_hl_mnn nn s
  | .dec_hl => Sys2Proof.Machine.exec_dec_hl s
  | .inc_l => Sys2Proof.Machine.exec_inc_l s
  | .dec_l => Sys2Proof.Machine.exec_dec_l s
  | .ld_l_n n => Sys2Proof.Machine.exec_ld_l_n n s
  | .cpl => Sys2Proof.Machine.exec_cpl s
  | .jr_nc_e e => Sys2Proof.Machine.exec_jr_nc_e e s
  | .ld_sp_nn nn => Sys2Proof.Machine.exec_ld_sp_nn nn s
  | .ld_mnn_a nn => Sys2Proof.Machine.exec_ld_mnn_a nn s
  | .inc_sp => Sys2Proof.Machine.exec_inc_sp s
  | .inc_mhl => Sys2Proof.Machine.exec_inc_mhl s
  | .dec_mhl => Sys2Proof.Machine.exec_dec_mhl s
  | .ld_mhl_n n => Sys2Proof.Machine.exec_ld_mhl_n n s
  | .scf => Sys2Proof.Machine.exec_scf s
  | .jr_c_e e => Sys2Proof.Machine.exec_jr_c_e e s
  | .add_hl_sp => Sys2Proof.Machine.exec_add_hl_sp s
  | .ld_a_mnn nn => Sys2Proof.Machine.exec_ld_a_mnn nn s
  | .dec_sp => Sys2Proof.Machine.exec_dec_sp s
  | .inc_a => Sys2Proof.Machine.exec_inc_a s
  | .dec_a => Sys2Proof.Machine.exec_dec_a s
  | .ld_a_n n => Sys2Proof.Machine.exec_ld_a_n n s
  | .ccf => Sys2Proof.Machine.exec_ccf s
  | .ld_b_b => Sys2Proof.Machine.exec_ld_b_b s
  | .ld_b_c => Sys2Proof.Machine.exec_ld_b_c s
  | .ld_b_d => Sys2Proof.Machine.exec_ld_b_d s
  | .ld_b_e => Sys2Proof.Machine.exec_ld_b_e s
  | .ld_b_h => Sys2Proof.Machine.exec_ld_b_h s
  | .ld_b_l => Sys2Proof.Machine.exec_ld_b_l s
  | .ld_b_mhl => Sys2Proof.Machine.exec_ld_b_mhl s
  | .ld_b_a => Sys2Proof.Machine.exec_ld_b_a s
  | .ld_c_b => Sys2Proof.Machine.exec_ld_c_b s
  | .ld_c_c => Sys2Proof.Machine.exec_ld_c_c s
  | .ld_c_d => Sys2Proof.Machine.exec_ld_c_d s
  | .ld_c_e => Sys2Proof.Machine.exec_ld_c_e s
  | .ld_c_h => Sys2Proof.Machine.exec_ld_c_h s
  | .ld_c_l => Sys2Proof.Machine.exec_ld_c_l s
  | .ld_c_mhl => Sys2Proof.Machine.exec_ld_c_mhl s
  | .ld_c_a => Sys2Proof.Machine.exec_ld_c_a s
  | .ld_d_b => Sys2Proof.Machine.exec_ld_d_b s
  | .ld_d_c => Sys2Proof.Machine.exec_ld_d_c s
  | .ld_d_d => Sys2Proof.Machine.exec_ld_d_d s
  | .ld_d_e => Sys2Proof.Machine.exec_ld_d_e s
  | .ld_d_h => Sys2Proof.Machine.exec_ld_d_h s
  | .ld_d_l => Sys2Proof.Machine.exec_ld_d_l s
  | .ld_d_mhl => Sys2Proof.Machine.exec_ld_d_mhl s
  | .ld_d_a => Sys2Proof.Machine.exec_ld_d_a s
  | .ld_e_b => Sys2Proof.Machine.exec_ld_e_b s
  | .ld_e_c => Sys2Proof.Machine.exec_ld_e_c s
  | .ld_e_d => Sys2Proof.Machine.exec_ld_e_d s
  | .ld_e_e => Sys2Proof.Machine.exec_ld_e_e s
  | .ld_e_h => Sys2Proof.Machine.exec_ld_e_h s
  | .ld_e_l => Sys2Proof.Machine.exec_ld_e_l s
  | .ld_e_mhl => Sys2Proof.Machine.exec_ld_e_mhl s
  | .ld_e_a => Sys2Proof.Machine.exec_ld_e_a s
  | .ld_h_b => Sys2Proof.Machine.exec_ld_h_b s
  | .ld_h_c => Sys2Proof.Machine.exec_ld_h_c s
  | .ld_h_d => Sys2Proof.Machine.exec_ld_h_d s
  | .ld_h_e => Sys2Proof.Machine.exec_ld_h_e s
  | .ld_h_h => Sys2Proof.Machine.exec_ld_h_h s
  | .ld_h_l => Sys2Proof.Machine.exec_ld_h_l s
  | .ld_h_mhl => Sys2Proof.Machine.exec_ld_h_mhl s
  | .ld_h_a => Sys2Proof.Machine.exec_ld_h_a s
  | .ld_l_b => Sys2Proof.Machine.exec_ld_l_b s
  | .ld_l_c => Sys2Proof.Machine.exec_ld_l_c s
  | .ld_l_d => Sys2Proof.Machine.exec_ld_l_d s
  | .ld_l_e => Sys2Proof.Machine.exec_ld_l_e s
  | .ld_l_h => Sys2Proof.Machine.exec_ld_l_h s
  | .ld_l_l => Sys2Proof.Machine.exec_ld_l_l s
  | .ld_l_mhl => Sys2Proof.Machine.exec_ld_l_mhl s
  | .ld_l_a => Sys2Proof.Machine.exec_ld_l_a s
  | .ld_mhl_b => Sys2Proof.Machine.exec_ld_mhl_b s
  | .ld_mhl_c => Sys2Proof.Machine.exec_ld_mhl_c s
  | .ld_mhl_d => Sys2Proof.Machine.exec_ld_mhl_d s
  | .ld_mhl_e => Sys2Proof.Machine.exec_ld_mhl_e s
  | .ld_mhl_h => Sys2Proof.Machine.exec_ld_mhl_h s
  | .ld_mhl_l => Sys2Proof.Machine.exec_ld_mhl_l s
  | .halt => Sys2Proof.Machine.exec_halt s
  | .ld_mhl_a => Sys2Proof.Machine.exec_ld_mhl_a s
  | .ld_a_b => Sys2Proof.Machine.exec_ld_a_b s
  | .ld_a_c => Sys2Proof.Machine.exec_ld_a_c s
  | .ld_a_d => Sys2Proof.Machine.exec_ld_a_d s
  | .ld_a_e => Sys2Proof.Machine.exec_ld_a_e s
  | .ld_a_h => Sys2Proof.Machine.exec_ld_a_h s
  | .ld_a_l => Sys2Proof.Machine.exec_ld_a_l s
  | .ld_a_mhl => Sys2Proof.Machine.exec_ld_a_mhl s
  | .ld_a_a => Sys2Proof.Machine.exec_ld_a_a s
  | .add_a_b => Sys2Proof.Machine.exec_add_a_b s
  | .add_a_c => Sys2Proof.Machine.exec_add_a_c s
  | .add_a_d => Sys2Proof.Machine.exec_add_a_d s
  | .add_a_e => Sys2Proof.Machine.exec_add_a_e s
  | .add_a_h => Sys2Proof.Machine.exec_add_a_h s
  | .add_a_l => Sys2Proof.Machine.exec_add_a_l s
  | .add_a_mhl => Sys2Proof.Machine.exec_add_a_mhl s
  | .add_a_a => Sys2Proof.Machine.exec_add_a_a s
  | .adc_a_b => Sys2Proof.Machine.exec_adc_a_b s
  | .adc_a_c => Sys2Proof.Machine.exec_adc_a_c s
  | .adc_a_d => Sys2Proof.Machine.exec_adc_a_d s
  | .adc_a_e => Sys2Proof.Machine.exec_adc_a_e s
  | .adc_a_h => Sys2Proof.Machine.exec_adc_a_h s
  | .adc_a_l => Sys2Proof.Machine.exec_adc_a_l s
  | .adc_a_mhl => Sys2Proof.Machine.exec_adc_a_mhl s
  | .adc_a_a => Sys2Proof.Machine.exec_adc_a_a s
  | .sub_b => Sys2Proof.Machine.exec_sub_b s
  | .sub_c => Sys2Proof.Machine.exec_sub_c s
  | .sub_d => Sys2Proof.Machine.exec_sub_d s
  | .sub_e => Sys2Proof.Machine.exec_sub_e s
  | .sub_h => Sys2Proof.Machine.exec_sub_h s
  | .sub_l => Sys2Proof.Machine.exec_sub_l s
  | .sub_mhl => Sys2Proof.Machine.exec_sub_mhl s
  | .sub_a => Sys2Proof.Machine.exec_sub_a s
  | .sbc_a_b => Sys2Proof.Machine.exec_sbc_a_b s
  | .sbc_a_c => Sys2Proof.Machine.exec_sbc_a_c s
  | .sbc_a_d => Sys2Proof.Machine.exec_sbc_a_d s
  | .sbc_a_e => Sys2Proof.Machine.exec_sbc_a_e s
  | .sbc_a_h => Sys2Proof.Machine.exec_sbc_a_h s
  | .sbc_a_l => Sys2Proof.Machine.exec_sbc_a_l s
  | .sbc_a_mhl => Sys2Proof.Machine.exec_sbc_a_mhl s
  | .sbc_a_a => Sys2Proof.Machine.exec_sbc_a_a s
  | .and_b => Sys2Proof.Machine.exec_and_b s
  | .and_c => Sys2Proof.Machine.exec_and_c s
  | .and_d => Sys2Proof.Machine.exec_and_d s
  | .and_e => Sys2Proof.Machine.exec_and_e s
  | .and_h => Sys2Proof.Machine.exec_and_h s
  | .and_l => Sys2Proof.Machine.exec_and_l s
  | .and_mhl => Sys2Proof.Machine.exec_and_mhl s
  | .and_a => Sys2Proof.Machine.exec_and_a s
  | .xor_b => Sys2Proof.Machine.exec_xor_b s
  | .xor_c => Sys2Proof.Machine.exec_xor_c s
  | .xor_d => Sys2Proof.Machine.exec_xor_d s
  | .xor_e => Sys2Proof.Machine.exec_xor_e s
  | .xor_h => Sys2Proof.Machine.exec_xor_h s
  | .xor_l => Sys2Proof.Machine.exec_xor_l s
  | .xor_mhl => Sys2Proof.Machine.exec_xor_mhl s
  | .xor_a => Sys2Proof.Machine.exec_xor_a s
  | .or_b => Sys2Proof.Machine.exec_or_b s
  | .or_c => Sys2Proof.Machine.exec_or_c s
  | .or_d => Sys2Proof.Machine.exec_or_d s
  | .or_e => Sys2Proof.Machine.exec_or_e s
  | .or_h => Sys2Proof.Machine.exec_or_h s
  | .or_l => Sys2Proof.Machine.exec_or_l s
  | .or_mhl => Sys2Proof.Machine.exec_or_mhl s
  | .or_a => Sys2Proof.Machine.exec_or_a s
  | .cp_b => Sys2Proof.Machine.exec_cp_b s
  | .cp_c => Sys2Proof.Machine.exec_cp_c s
  | .cp_d => Sys2Proof.Machine.exec_cp_d s
  | .cp_e => Sys2Proof.Machine.exec_cp_e s
  | .cp_h => Sys2Proof.Machine.exec_cp_h s
  | .cp_l => Sys2Proof.Machine.exec_cp_l s
  | .cp_mhl => Sys2Proof.Machine.exec_cp_mhl s
  | .cp_a => Sys2Proof.Machine.exec_cp_a s
  | .ret_nz => Sys2Proof.Machine.exec_ret_nz s
  | .pop_bc => Sys2Proof.Machine.exec_pop_bc s
  | .jp_nz_nn nn => Sys2Proof.Machine.exec_jp_nz_nn nn s
  | .jp_nn nn => Sys2Proof.Machine.exec_jp_nn nn s
  | .call_nz_nn nn => Sys2Proof.Machine.exec_call_nz_nn nn s
  | .push_bc => Sys2Proof.Machine.exec_push_bc s
  | .add_a_n n => Sys2Proof.Machine.exec_add_a_n n s
  | .rst_00 => Sys2Proof.Machine.exec_rst_00 s
  | .ret_z => Sys2Proof.Machine.exec_ret_z s
  | .ret => Sys2Proof.Machine.exec_ret s
  | .jp_z_nn nn => Sys2Proof.Machine.exec_jp_z_nn nn s
  | .prefix_cb => Sys2Proof.Machine.exec_prefix_cb s
  | .call_z_nn nn => Sys2Proof.Machine.exec_call_z_nn nn s
  | .call_nn nn => Sys2Proof.Machine.exec_call_nn nn s
  | .adc_a_n n => Sys2Proof.Machine.exec_adc_a_n n s
  | .rst_08 => Sys2Proof.Machine.exec_rst_08 s
  | .ret_nc => Sys2Proof.Machine.exec_ret_nc s
  | .pop_de => Sys2Proof.Machine.exec_pop_de s
  | .jp_nc_nn nn => Sys2Proof.Machine.exec_jp_nc_nn nn s
  | .out_portN_a n => Sys2Proof.Machine.exec_out_portN_a n s
  | .call_nc_nn nn => Sys2Proof.Machine.exec_call_nc_nn nn s
  | .push_de => Sys2Proof.Machine.exec_push_de s
  | .sub_n n => Sys2Proof.Machine.exec_sub_n n s
  | .rst_10 => Sys2Proof.Machine.exec_rst_10 s
  | .ret_c => Sys2Proof.Machine.exec_ret_c s
  | .exx => Sys2Proof.Machine.exec_exx s
  | .jp_c_nn nn => Sys2Proof.Machine.exec_jp_c_nn nn s
  | .in_a_portN n => Sys2Proof.Machine.exec_in_a_portN n s
  | .call_c_nn nn => Sys2Proof.Machine.exec_call_c_nn nn s
  | .prefix_dd => Sys2Proof.Machine.exec_prefix_dd s
  | .sbc_a_n n => Sys2Proof.Machine.exec_sbc_a_n n s
  | .rst_18 => Sys2Proof.Machine.exec_rst_18 s
  | .ret_po => Sys2Proof.Machine.exec_ret_po s
  | .pop_hl => Sys2Proof.Machine.exec_pop_hl s
  | .jp_po_nn nn => Sys2Proof.Machine.exec_jp_po_nn nn s
  | .ex_msp_hl => Sys2Proof.Machine.exec_ex_msp_hl s
  | .call_po_nn nn => Sys2Proof.Machine.exec_call_po_nn nn s
  | .push_hl => Sys2Proof.Machine.exec_push_hl s
  | .and_n n => Sys2Proof.Machine.exec_and_n n s
  | .rst_20 => Sys2Proof.Machine.exec_rst_20 s
  | .ret_pe => Sys2Proof.Machine.exec_ret_pe s
  | .jp_hl => Sys2Proof.Machine.exec_jp_hl s
  | .jp_pe_nn nn => Sys2Proof.Machine.exec_jp_pe_nn nn s
  | .ex_de_hl => Sys2Proof.Machine.exec_ex_de_hl s
  | .call_pe_nn nn => Sys2Proof.Machine.exec_call_pe_nn nn s
  | .prefix_ed => Sys2Proof.Machine.exec_prefix_ed s
  | .xor_n n => Sys2Proof.Machine.exec_xor_n n s
  | .rst_28 => Sys2Proof.Machine.exec_rst_28 s
  | .ret_p => Sys2Proof.Machine.exec_ret_p s
  | .pop_af => Sys2Proof.Machine.exec_pop_af s
  | .jp_p_nn nn => Sys2Proof.Machine.exec_jp_p_nn nn s
  | .di => Sys2Proof.Machine.exec_di s
  | .call_p_nn nn => Sys2Proof.Machine.exec_call_p_nn nn s
  | .push_af => Sys2Proof.Machine.exec_push_af s
  | .or_n n => Sys2Proof.Machine.exec_or_n n s
  | .rst_30 => Sys2Proof.Machine.exec_rst_30 s
  | .ret_m => Sys2Proof.Machine.exec_ret_m s
  | .ld_sp_hl => Sys2Proof.Machine.exec_ld_sp_hl s
  | .jp_m_nn nn => Sys2Proof.Machine.exec_jp_m_nn nn s
  | .ei => Sys2Proof.Machine.exec_ei s
  | .call_m_nn nn => Sys2Proof.Machine.exec_call_m_nn nn s
  | .prefix_fd => Sys2Proof.Machine.exec_prefix_fd s
  | .cp_n n => Sys2Proof.Machine.exec_cp_n n s
  | .rst_38 => Sys2Proof.Machine.exec_rst_38 s
  | .rlc_b => Sys2Proof.Machine.exec_rlc_b s
  | .rlc_c => Sys2Proof.Machine.exec_rlc_c s
  | .rlc_d => Sys2Proof.Machine.exec_rlc_d s
  | .rlc_e => Sys2Proof.Machine.exec_rlc_e s
  | .rlc_h => Sys2Proof.Machine.exec_rlc_h s
  | .rlc_l => Sys2Proof.Machine.exec_rlc_l s
  | .rlc_mhl => Sys2Proof.Machine.exec_rlc_mhl s
  | .rlc_a => Sys2Proof.Machine.exec_rlc_a s
  | .rrc_b => Sys2Proof.Machine.exec_rrc_b s
  | .rrc_c => Sys2Proof.Machine.exec_rrc_c s
  | .rrc_d => Sys2Proof.Machine.exec_rrc_d s
  | .rrc_e => Sys2Proof.Machine.exec_rrc_e s
  | .rrc_h => Sys2Proof.Machine.exec_rrc_h s
  | .rrc_l => Sys2Proof.Machine.exec_rrc_l s
  | .rrc_mhl => Sys2Proof.Machine.exec_rrc_mhl s
  | .rrc_a => Sys2Proof.Machine.exec_rrc_a s
  | .rl_b => Sys2Proof.Machine.exec_rl_b s
  | .rl_c => Sys2Proof.Machine.exec_rl_c s
  | .rl_d => Sys2Proof.Machine.exec_rl_d s
  | .rl_e => Sys2Proof.Machine.exec_rl_e s
  | .rl_h => Sys2Proof.Machine.exec_rl_h s
  | .rl_l => Sys2Proof.Machine.exec_rl_l s
  | .rl_mhl => Sys2Proof.Machine.exec_rl_mhl s
  | .rl_a => Sys2Proof.Machine.exec_rl_a s
  | .rr_b => Sys2Proof.Machine.exec_rr_b s
  | .rr_c => Sys2Proof.Machine.exec_rr_c s
  | .rr_d => Sys2Proof.Machine.exec_rr_d s
  | .rr_e => Sys2Proof.Machine.exec_rr_e s
  | .rr_h => Sys2Proof.Machine.exec_rr_h s
  | .rr_l => Sys2Proof.Machine.exec_rr_l s
  | .rr_mhl => Sys2Proof.Machine.exec_rr_mhl s
  | .rr_a => Sys2Proof.Machine.exec_rr_a s
  | .sla_b => Sys2Proof.Machine.exec_sla_b s
  | .sla_c => Sys2Proof.Machine.exec_sla_c s
  | .sla_d => Sys2Proof.Machine.exec_sla_d s
  | .sla_e => Sys2Proof.Machine.exec_sla_e s
  | .sla_h => Sys2Proof.Machine.exec_sla_h s
  | .sla_l => Sys2Proof.Machine.exec_sla_l s
  | .sla_mhl => Sys2Proof.Machine.exec_sla_mhl s
  | .sla_a => Sys2Proof.Machine.exec_sla_a s
  | .sra_b => Sys2Proof.Machine.exec_sra_b s
  | .sra_c => Sys2Proof.Machine.exec_sra_c s
  | .sra_d => Sys2Proof.Machine.exec_sra_d s
  | .sra_e => Sys2Proof.Machine.exec_sra_e s
  | .sra_h => Sys2Proof.Machine.exec_sra_h s
  | .sra_l => Sys2Proof.Machine.exec_sra_l s
  | .sra_mhl => Sys2Proof.Machine.exec_sra_mhl s
  | .sra_a => Sys2Proof.Machine.exec_sra_a s
  | .sll_b => Sys2Proof.Machine.exec_sll_b s
  | .sll_c => Sys2Proof.Machine.exec_sll_c s
  | .sll_d => Sys2Proof.Machine.exec_sll_d s
  | .sll_e => Sys2Proof.Machine.exec_sll_e s
  | .sll_h => Sys2Proof.Machine.exec_sll_h s
  | .sll_l => Sys2Proof.Machine.exec_sll_l s
  | .sll_mhl => Sys2Proof.Machine.exec_sll_mhl s
  | .sll_a => Sys2Proof.Machine.exec_sll_a s
  | .srl_b => Sys2Proof.Machine.exec_srl_b s
  | .srl_c => Sys2Proof.Machine.exec_srl_c s
  | .srl_d => Sys2Proof.Machine.exec_srl_d s
  | .srl_e => Sys2Proof.Machine.exec_srl_e s
  | .srl_h => Sys2Proof.Machine.exec_srl_h s
  | .srl_l => Sys2Proof.Machine.exec_srl_l s
  | .srl_mhl => Sys2Proof.Machine.exec_srl_mhl s
  | .srl_a => Sys2Proof.Machine.exec_srl_a s
  | .bit_0_b => Sys2Proof.Machine.exec_bit_0_b s
  | .bit_0_c => Sys2Proof.Machine.exec_bit_0_c s
  | .bit_0_d => Sys2Proof.Machine.exec_bit_0_d s
  | .bit_0_e => Sys2Proof.Machine.exec_bit_0_e s
  | .bit_0_h => Sys2Proof.Machine.exec_bit_0_h s
  | .bit_0_l => Sys2Proof.Machine.exec_bit_0_l s
  | .bit_0_mhl => Sys2Proof.Machine.exec_bit_0_mhl s
  | .bit_0_a => Sys2Proof.Machine.exec_bit_0_a s
  | .bit_1_b => Sys2Proof.Machine.exec_bit_1_b s
  | .bit_1_c => Sys2Proof.Machine.exec_bit_1_c s
  | .bit_1_d => Sys2Proof.Machine.exec_bit_1_d s
  | .bit_1_e => Sys2Proof.Machine.exec_bit_1_e s
  | .bit_1_h => Sys2Proof.Machine.exec_bit_1_h s
  | .bit_1_l => Sys2Proof.Machine.exec_bit_1_l s
  | .bit_1_mhl => Sys2Proof.Machine.exec_bit_1_mhl s
  | .bit_1_a => Sys2Proof.Machine.exec_bit_1_a s
  | .bit_2_b => Sys2Proof.Machine.exec_bit_2_b s
  | .bit_2_c => Sys2Proof.Machine.exec_bit_2_c s
  | .bit_2_d => Sys2Proof.Machine.exec_bit_2_d s
  | .bit_2_e => Sys2Proof.Machine.exec_bit_2_e s
  | .bit_2_h => Sys2Proof.Machine.exec_bit_2_h s
  | .bit_2_l => Sys2Proof.Machine.exec_bit_2_l s
  | .bit_2_mhl => Sys2Proof.Machine.exec_bit_2_mhl s
  | .bit_2_a => Sys2Proof.Machine.exec_bit_2_a s
  | .bit_3_b => Sys2Proof.Machine.exec_bit_3_b s
  | .bit_3_c => Sys2Proof.Machine.exec_bit_3_c s
  | .bit_3_d => Sys2Proof.Machine.exec_bit_3_d s
  | .bit_3_e => Sys2Proof.Machine.exec_bit_3_e s
  | .bit_3_h => Sys2Proof.Machine.exec_bit_3_h s
  | .bit_3_l => Sys2Proof.Machine.exec_bit_3_l s
  | .bit_3_mhl => Sys2Proof.Machine.exec_bit_3_mhl s
  | .bit_3_a => Sys2Proof.Machine.exec_bit_3_a s
  | .bit_4_b => Sys2Proof.Machine.exec_bit_4_b s
  | .bit_4_c => Sys2Proof.Machine.exec_bit_4_c s
  | .bit_4_d => Sys2Proof.Machine.exec_bit_4_d s
  | .bit_4_e => Sys2Proof.Machine.exec_bit_4_e s
  | .bit_4_h => Sys2Proof.Machine.exec_bit_4_h s
  | .bit_4_l => Sys2Proof.Machine.exec_bit_4_l s
  | .bit_4_mhl => Sys2Proof.Machine.exec_bit_4_mhl s
  | .bit_4_a => Sys2Proof.Machine.exec_bit_4_a s
  | .bit_5_b => Sys2Proof.Machine.exec_bit_5_b s
  | .bit_5_c => Sys2Proof.Machine.exec_bit_5_c s
  | .bit_5_d => Sys2Proof.Machine.exec_bit_5_d s
  | .bit_5_e => Sys2Proof.Machine.exec_bit_5_e s
  | .bit_5_h => Sys2Proof.Machine.exec_bit_5_h s
  | .bit_5_l => Sys2Proof.Machine.exec_bit_5_l s
  | .bit_5_mhl => Sys2Proof.Machine.exec_bit_5_mhl s
  | .bit_5_a => Sys2Proof.Machine.exec_bit_5_a s
  | .bit_6_b => Sys2Proof.Machine.exec_bit_6_b s
  | .bit_6_c => Sys2Proof.Machine.exec_bit_6_c s
  | .bit_6_d => Sys2Proof.Machine.exec_bit_6_d s
  | .bit_6_e => Sys2Proof.Machine.exec_bit_6_e s
  | .bit_6_h => Sys2Proof.Machine.exec_bit_6_h s
  | .bit_6_l => Sys2Proof.Machine.exec_bit_6_l s
  | .bit_6_mhl => Sys2Proof.Machine.exec_bit_6_mhl s
  | .bit_6_a => Sys2Proof.Machine.exec_bit_6_a s
  | .bit_7_b => Sys2Proof.Machine.exec_bit_7_b s
  | .bit_7_c => Sys2Proof.Machine.exec_bit_7_c s
  | .bit_7_d => Sys2Proof.Machine.exec_bit_7_d s
  | .bit_7_e => Sys2Proof.Machine.exec_bit_7_e s
  | .bit_7_h => Sys2Proof.Machine.exec_bit_7_h s
  | .bit_7_l => Sys2Proof.Machine.exec_bit_7_l s
  | .bit_7_mhl => Sys2Proof.Machine.exec_bit_7_mhl s
  | .bit_7_a => Sys2Proof.Machine.exec_bit_7_a s
  | .res_0_b => Sys2Proof.Machine.exec_res_0_b s
  | .res_0_c => Sys2Proof.Machine.exec_res_0_c s
  | .res_0_d => Sys2Proof.Machine.exec_res_0_d s
  | .res_0_e => Sys2Proof.Machine.exec_res_0_e s
  | .res_0_h => Sys2Proof.Machine.exec_res_0_h s
  | .res_0_l => Sys2Proof.Machine.exec_res_0_l s
  | .res_0_mhl => Sys2Proof.Machine.exec_res_0_mhl s
  | .res_0_a => Sys2Proof.Machine.exec_res_0_a s
  | .res_1_b => Sys2Proof.Machine.exec_res_1_b s
  | .res_1_c => Sys2Proof.Machine.exec_res_1_c s
  | .res_1_d => Sys2Proof.Machine.exec_res_1_d s
  | .res_1_e => Sys2Proof.Machine.exec_res_1_e s
  | .res_1_h => Sys2Proof.Machine.exec_res_1_h s
  | .res_1_l => Sys2Proof.Machine.exec_res_1_l s
  | .res_1_mhl => Sys2Proof.Machine.exec_res_1_mhl s
  | .res_1_a => Sys2Proof.Machine.exec_res_1_a s
  | .res_2_b => Sys2Proof.Machine.exec_res_2_b s
  | .res_2_c => Sys2Proof.Machine.exec_res_2_c s
  | .res_2_d => Sys2Proof.Machine.exec_res_2_d s
  | .res_2_e => Sys2Proof.Machine.exec_res_2_e s
  | .res_2_h => Sys2Proof.Machine.exec_res_2_h s
  | .res_2_l => Sys2Proof.Machine.exec_res_2_l s
  | .res_2_mhl => Sys2Proof.Machine.exec_res_2_mhl s
  | .res_2_a => Sys2Proof.Machine.exec_res_2_a s
  | .res_3_b => Sys2Proof.Machine.exec_res_3_b s
  | .res_3_c => Sys2Proof.Machine.exec_res_3_c s
  | .res_3_d => Sys2Proof.Machine.exec_res_3_d s
  | .res_3_e => Sys2Proof.Machine.exec_res_3_e s
  | .res_3_h => Sys2Proof.Machine.exec_res_3_h s
  | .res_3_l => Sys2Proof.Machine.exec_res_3_l s
  | .res_3_mhl => Sys2Proof.Machine.exec_res_3_mhl s
  | .res_3_a => Sys2Proof.Machine.exec_res_3_a s
  | .res_4_b => Sys2Proof.Machine.exec_res_4_b s
  | .res_4_c => Sys2Proof.Machine.exec_res_4_c s
  | .res_4_d => Sys2Proof.Machine.exec_res_4_d s
  | .res_4_e => Sys2Proof.Machine.exec_res_4_e s
  | .res_4_h => Sys2Proof.Machine.exec_res_4_h s
  | .res_4_l => Sys2Proof.Machine.exec_res_4_l s
  | .res_4_mhl => Sys2Proof.Machine.exec_res_4_mhl s
  | .res_4_a => Sys2Proof.Machine.exec_res_4_a s
  | .res_5_b => Sys2Proof.Machine.exec_res_5_b s
  | .res_5_c => Sys2Proof.Machine.exec_res_5_c s
  | .res_5_d => Sys2Proof.Machine.exec_res_5_d s
  | .res_5_e => Sys2Proof.Machine.exec_res_5_e s
  | .res_5_h => Sys2Proof.Machine.exec_res_5_h s
  | .res_5_l => Sys2Proof.Machine.exec_res_5_l s
  | .res_5_mhl => Sys2Proof.Machine.exec_res_5_mhl s
  | .res_5_a => Sys2Proof.Machine.exec_res_5_a s
  | .res_6_b => Sys2Proof.Machine.exec_res_6_b s
  | .res_6_c => Sys2Proof.Machine.exec_res_6_c s
  | .res_6_d => Sys2Proof.Machine.exec_res_6_d s
  | .res_6_e => Sys2Proof.Machine.exec_res_6_e s
  | .res_6_h => Sys2Proof.Machine.exec_res_6_h s
  | .res_6_l => Sys2Proof.Machine.exec_res_6_l s
  | .res_6_mhl => Sys2Proof.Machine.exec_res_6_mhl s
  | .res_6_a => Sys2Proof.Machine.exec_res_6_a s
  | .res_7_b => Sys2Proof.Machine.exec_res_7_b s
  | .res_7_c => Sys2Proof.Machine.exec_res_7_c s
  | .res_7_d => Sys2Proof.Machine.exec_res_7_d s
  | .res_7_e => Sys2Proof.Machine.exec_res_7_e s
  | .res_7_h => Sys2Proof.Machine.exec_res_7_h s
  | .res_7_l => Sys2Proof.Machine.exec_res_7_l s
  | .res_7_mhl => Sys2Proof.Machine.exec_res_7_mhl s
  | .res_7_a => Sys2Proof.Machine.exec_res_7_a s
  | .set_0_b => Sys2Proof.Machine.exec_set_0_b s
  | .set_0_c => Sys2Proof.Machine.exec_set_0_c s
  | .set_0_d => Sys2Proof.Machine.exec_set_0_d s
  | .set_0_e => Sys2Proof.Machine.exec_set_0_e s
  | .set_0_h => Sys2Proof.Machine.exec_set_0_h s
  | .set_0_l => Sys2Proof.Machine.exec_set_0_l s
  | .set_0_mhl => Sys2Proof.Machine.exec_set_0_mhl s
  | .set_0_a => Sys2Proof.Machine.exec_set_0_a s
  | .set_1_b => Sys2Proof.Machine.exec_set_1_b s
  | .set_1_c => Sys2Proof.Machine.exec_set_1_c s
  | .set_1_d => Sys2Proof.Machine.exec_set_1_d s
  | .set_1_e => Sys2Proof.Machine.exec_set_1_e s
  | .set_1_h => Sys2Proof.Machine.exec_set_1_h s
  | .set_1_l => Sys2Proof.Machine.exec_set_1_l s
  | .set_1_mhl => Sys2Proof.Machine.exec_set_1_mhl s
  | .set_1_a => Sys2Proof.Machine.exec_set_1_a s
  | .set_2_b => Sys2Proof.Machine.exec_set_2_b s
  | .set_2_c => Sys2Proof.Machine.exec_set_2_c s
  | .set_2_d => Sys2Proof.Machine.exec_set_2_d s
  | .set_2_e => Sys2Proof.Machine.exec_set_2_e s
  | .set_2_h => Sys2Proof.Machine.exec_set_2_h s
  | .set_2_l => Sys2Proof.Machine.exec_set_2_l s
  | .set_2_mhl => Sys2Proof.Machine.exec_set_2_mhl s
  | .set_2_a => Sys2Proof.Machine.exec_set_2_a s
  | .set_3_b => Sys2Proof.Machine.exec_set_3_b s
  | .set_3_c => Sys2Proof.Machine.exec_set_3_c s
  | .set_3_d => Sys2Proof.Machine.exec_set_3_d s
  | .set_3_e => Sys2Proof.Machine.exec_set_3_e s
  | .set_3_h => Sys2Proof.Machine.exec_set_3_h s
  | .set_3_l => Sys2Proof.Machine.exec_set_3_l s
  | .set_3_mhl => Sys2Proof.Machine.exec_set_3_mhl s
  | .set_3_a => Sys2Proof.Machine.exec_set_3_a s
  | .set_4_b => Sys2Proof.Machine.exec_set_4_b s
  | .set_4_c => Sys2Proof.Machine.exec_set_4_c s
  | .set_4_d => Sys2Proof.Machine.exec_set_4_d s
  | .set_4_e => Sys2Proof.Machine.exec_set_4_e s
  | .set_4_h => Sys2Proof.Machine.exec_set_4_h s
  | .set_4_l => Sys2Proof.Machine.exec_set_4_l s
  | .set_4_mhl => Sys2Proof.Machine.exec_set_4_mhl s
  | .set_4_a => Sys2Proof.Machine.exec_set_4_a s
  | .set_5_b => Sys2Proof.Machine.exec_set_5_b s
  | .set_5_c => Sys2Proof.Machine.exec_set_5_c s
  | .set_5_d => Sys2Proof.Machine.exec_set_5_d s
  | .set_5_e => Sys2Proof.Machine.exec_set_5_e s
  | .set_5_h => Sys2Proof.Machine.exec_set_5_h s
  | .set_5_l => Sys2Proof.Machine.exec_set_5_l s
  | .set_5_mhl => Sys2Proof.Machine.exec_set_5_mhl s
  | .set_5_a => Sys2Proof.Machine.exec_set_5_a s
  | .set_6_b => Sys2Proof.Machine.exec_set_6_b s
  | .set_6_c => Sys2Proof.Machine.exec_set_6_c s
  | .set_6_d => Sys2Proof.Machine.exec_set_6_d s
  | .set_6_e => Sys2Proof.Machine.exec_set_6_e s
  | .set_6_h => Sys2Proof.Machine.exec_set_6_h s
  | .set_6_l => Sys2Proof.Machine.exec_set_6_l s
  | .set_6_mhl => Sys2Proof.Machine.exec_set_6_mhl s
  | .set_6_a => Sys2Proof.Machine.exec_set_6_a s
  | .set_7_b => Sys2Proof.Machine.exec_set_7_b s
  | .set_7_c => Sys2Proof.Machine.exec_set_7_c s
  | .set_7_d => Sys2Proof.Machine.exec_set_7_d s
  | .set_7_e => Sys2Proof.Machine.exec_set_7_e s
  | .set_7_h => Sys2Proof.Machine.exec_set_7_h s
  | .set_7_l => Sys2Proof.Machine.exec_set_7_l s
  | .set_7_mhl => Sys2Proof.Machine.exec_set_7_mhl s
  | .set_7_a => Sys2Proof.Machine.exec_set_7_a s
  | .in_b_portC => Sys2Proof.Machine.exec_in_b_portC s
  | .out_portC_b => Sys2Proof.Machine.exec_out_portC_b s
  | .sbc_hl_bc => Sys2Proof.Machine.exec_sbc_hl_bc s
  | .ld_mnn_bc nn => Sys2Proof.Machine.exec_ld_mnn_bc nn s
  | .neg => Sys2Proof.Machine.exec_neg s
  | .retn => Sys2Proof.Machine.exec_retn s
  | .im_0 => Sys2Proof.Machine.exec_im_0 s
  | .ld_i_a => Sys2Proof.Machine.exec_ld_i_a s
  | .in_c_portC => Sys2Proof.Machine.exec_in_c_portC s
  | .out_portC_c => Sys2Proof.Machine.exec_out_portC_c s
  | .adc_hl_bc => Sys2Proof.Machine.exec_adc_hl_bc s
  | .ld_bc_mnn nn => Sys2Proof.Machine.exec_ld_bc_mnn nn s
  | .neg_ED4C => Sys2Proof.Machine.exec_neg_ED4C s
  | .reti => Sys2Proof.Machine.exec_reti s
  | .im_0_ED4E => Sys2Proof.Machine.exec_im_0_ED4E s
  | .ld_r_a => Sys2Proof.Machine.exec_ld_r_a s
  | .in_d_portC => Sys2Proof.Machine.exec_in_d_portC s
  | .out_portC_d => Sys2Proof.Machine.exec_out_portC_d s
  | .sbc_hl_de => Sys2Proof.Machine.exec_sbc_hl_de s
  | .ld_mnn_de nn => Sys2Proof.Machine.exec_ld_mnn_de nn s
  | .neg_ED54 => Sys2Proof.Machine.exec_neg_ED54 s
  | .retn_ED55 => Sys2Proof.Machine.exec_retn_ED55 s
  | .im_1 => Sys2Proof.Machine.exec_im_1 s
  | .ld_a_i => Sys2Proof.Machine.exec_ld_a_i s
  | .in_e_portC => Sys2Proof.Machine.exec_in_e_portC s
  | .out_portC_e => Sys2Proof.Machine.exec_out_portC_e s
  | .adc_hl_de => Sys2Proof.Machine.exec_adc_hl_de s
  | .ld_de_mnn nn => Sys2Proof.Machine.exec_ld_de_mnn nn s
  | .neg_ED5C => Sys2Proof.Machine.exec_neg_ED5C s
  | .retn_ED5D => Sys2Proof.Machine.exec_retn_ED5D s
  | .im_2 => Sys2Proof.Machine.exec_im_2 s
  | .ld_a_r => Sys2Proof.Machine.exec_ld_a_r s
  | .in_h_portC => Sys2Proof.Machine.exec_in_h_portC s
  | .out_portC_h => Sys2Proof.Machine.exec_out_portC_h s
  | .sbc_hl_hl => Sys2Proof.Machine.exec_sbc_hl_hl s
  | .ld_mnn_hl_ED63 nn => Sys2Proof.Machine.exec_ld_mnn_hl_ED63 nn s
  | .neg_ED64 => Sys2Proof.Machine.exec_neg_ED64 s
  | .retn_ED65 => Sys2Proof.Machine.exec_retn_ED65 s
  | .im_0_ED66 => Sys2Proof.Machine.exec_im_0_ED66 s
  | .rrd => Sys2Proof.Machine.exec_rrd s
  | .in_l_portC => Sys2Proof.Machine.exec_in_l_portC s
  | .out_portC_l => Sys2Proof.Machine.exec_out_portC_l s
  | .adc_hl_hl => Sys2Proof.Machine.exec_adc_hl_hl s
  | .ld_hl_mnn_ED6B nn => Sys2Proof.Machine.exec_ld_hl_mnn_ED6B nn s
  | .neg_ED6C => Sys2Proof.Machine.exec_neg_ED6C s
  | .retn_ED6D => Sys2Proof.Machine.exec_retn_ED6D s
  | .im_0_ED6E => Sys2Proof.Machine.exec_im_0_ED6E s
  | .rld => Sys2Proof.Machine.exec_rld s
  | .in_portC => Sys2Proof.Machine.exec_in_portC s
  | .out_portC_0 => Sys2Proof.Machine.exec_out_portC_0 s
  | .sbc_hl_sp => Sys2Proof.Machine.exec_sbc_hl_sp s
  | .ld_mnn_sp nn => Sys2Proof.Machine.exec_ld_mnn_sp nn s
  | .neg_ED74 => Sys2Proof.Machine.exec_neg_ED74 s
  | .retn_ED75 => Sys2Proof.Machine.exec_retn_ED75 s
  | .im_1_ED76 => Sys2Proof.Machine.exec_im_1_ED76 s
  | .in_a_portC => Sys2Proof.Machine.exec_in_a_portC s
  | .out_portC_a => Sys2Proof.Machine.exec_out_portC_a s
  | .adc_hl_sp => Sys2Proof.Machine.exec_adc_hl_sp s
  | .ld_sp_mnn nn => Sys2Proof.Machine.exec_ld_sp_mnn nn s
  | .neg_ED7C => Sys2Proof.Machine.exec_neg_ED7C s
  | .retn_ED7D => Sys2Proof.Machine.exec_retn_ED7D s
  | .im_2_ED7E => Sys2Proof.Machine.exec_im_2_ED7E s
  | .ldi => Sys2Proof.Machine.exec_ldi s
  | .cpi => Sys2Proof.Machine.exec_cpi s
  | .ini => Sys2Proof.Machine.exec_ini s
  | .outi => Sys2Proof.Machine.exec_outi s
  | .ldd => Sys2Proof.Machine.exec_ldd s
  | .cpd => Sys2Proof.Machine.exec_cpd s
  | .ind => Sys2Proof.Machine.exec_ind s
  | .outd => Sys2Proof.Machine.exec_outd s
  | .ldir => Sys2Proof.Machine.exec_ldir s
  | .cpir => Sys2Proof.Machine.exec_cpir s
  | .inir => Sys2Proof.Machine.exec_inir s
  | .otir => Sys2Proof.Machine.exec_otir s
  | .lddr => Sys2Proof.Machine.exec_lddr s
  | .cpdr => Sys2Proof.Machine.exec_cpdr s
  | .indr => Sys2Proof.Machine.exec_indr s
  | .otdr => Sys2Proof.Machine.exec_otdr s
  | .add_ix_bc => Sys2Proof.Machine.exec_add_ix_bc s
  | .add_ix_de => Sys2Proof.Machine.exec_add_ix_de s
  | .ld_ix_nn nn => Sys2Proof.Machine.exec_ld_ix_nn nn s
  | .ld_mnn_ix nn => Sys2Proof.Machine.exec_ld_mnn_ix nn s
  | .inc_ix => Sys2Proof.Machine.exec_inc_ix s
  | .inc_ixh => Sys2Proof.Machine.exec_inc_ixh s
  | .dec_ixh => Sys2Proof.Machine.exec_dec_ixh s
  | .ld_ixh_n n => Sys2Proof.Machine.exec_ld_ixh_n n s
  | .add_ix_ix => Sys2Proof.Machine.exec_add_ix_ix s
  | .ld_ix_mnn nn => Sys2Proof.Machine.exec_ld_ix_mnn nn s
  | .dec_ix => Sys2Proof.Machine.exec_dec_ix s
  | .inc_ixl => Sys2Proof.Machine.exec_inc_ixl s
  | .dec_ixl => Sys2Proof.Machine.exec_dec_ixl s
  | .ld_ixl_n n => Sys2Proof.Machine.exec_ld_ixl_n n s
  | .inc_ixd d => Sys2Proof.Machine.exec_inc_ixd d s
  | .dec_ixd d => Sys2Proof.Machine.exec_dec_ixd d s
  | .ld_ixd_n d n => Sys2Proof.Machine.exec_ld_ixd_n d n s
  | .add_ix_sp => Sys2Proof.Machine.exec_add_ix_sp s
  | .ld_b_ixh => Sys2Proof.Machine.exec_ld_b_ixh s
  | .ld_b_ixl => Sys2Proof.Machine.exec_ld_b_ixl s
  | .ld_b_ixd d => Sys2Proof.Machine.exec_ld_b_ixd d s
  | .ld_c_ixh => Sys2Proof.Machine.exec_ld_c_ixh s
  | .ld_c_ixl => Sys2Proof.Machine.exec_ld_c_ixl s
  | .ld_c_ixd d => Sys2Proof.Machine.exec_ld_c_ixd d s
  | .ld_d_ixh => Sys2Proof.Machine.exec_ld_d_ixh s
  | .ld_d_ixl => Sys2Proof.Machine.exec_ld_d_ixl s
  | .ld_d_ixd d => Sys2Proof.Machine.exec_ld_d_ixd d s
  | .ld_e_ixh => Sys2Proof.Machine.exec_ld_e_ixh s
  | .ld_e_ixl => Sys2Proof.Machine.exec_ld_e_ixl s
  | .ld_e_ixd d => Sys2Proof.Machine.exec_ld_e_ixd d s
  | .ld_ixh_b => Sys2Proof.Machine.exec_ld_ixh_b s
  | .ld_ixh_c => Sys2Proof.Machine.exec_ld_ixh_c s
  | .ld_ixh_d => Sys2Proof.Machine.exec_ld_ixh_d s
  | .ld_ixh_e => Sys2Proof.Machine.exec_ld_ixh_e s
  | .ld_ixh_ixh => Sys2Proof.Machine.exec_ld_ixh_ixh s
  | .ld_ixh_ixl => Sys2Proof.Machine.exec_ld_ixh_ixl s
  | .ld_h_ixd d => Sys2Proof.Machine.exec_ld_h_ixd d s
  | .ld_ixh_a => Sys2Proof.Machine.exec_ld_ixh_a s
  | .ld_ixl_b => Sys2Proof.Machine.exec_ld_ixl_b s
  | .ld_ixl_c => Sys2Proof.Machine.exec_ld_ixl_c s
  | .ld_ixl_d => Sys2Proof.Machine.exec_ld_ixl_d s
  | .ld_ixl_e => Sys2Proof.Machine.exec_ld_ixl_e s
  | .ld_ixl_ixh => Sys2Proof.Machine.exec_ld_ixl_ixh s
  | .ld_ixl_ixl => Sys2Proof.Machine.exec_ld_ixl_ixl s
  | .ld_l_ixd d => Sys2Proof.Machine.exec_ld_l_ixd d s
  | .ld_ixl_a => Sys2Proof.Machine.exec_ld_ixl_a s
  | .ld_ixd_b d => Sys2Proof.Machine.exec_ld_ixd_b d s
  | .ld_ixd_c d => Sys2Proof.Machine.exec_ld_ixd_c d s
  | .ld_ixd_d d => Sys2Proof.Machine.exec_ld_ixd_d d s
  | .ld_ixd_e d => Sys2Proof.Machine.exec_ld_ixd_e d s
  | .ld_ixd_h d => Sys2Proof.Machine.exec_ld_ixd_h d s
  | .ld_ixd_l d => Sys2Proof.Machine.exec_ld_ixd_l d s
  | .ld_ixd_a d => Sys2Proof.Machine.exec_ld_ixd_a d s
  | .ld_a_ixh => Sys2Proof.Machine.exec_ld_a_ixh s
  | .ld_a_ixl => Sys2Proof.Machine.exec_ld_a_ixl s
  | .ld_a_ixd d => Sys2Proof.Machine.exec_ld_a_ixd d s
  | .add_a_ixh => Sys2Proof.Machine.exec_add_a_ixh s
  | .add_a_ixl => Sys2Proof.Machine.exec_add_a_ixl s
  | .add_a_ixd d => Sys2Proof.Machine.exec_add_a_ixd d s
  | .adc_a_ixh => Sys2Proof.Machine.exec_adc_a_ixh s
  | .adc_a_ixl => Sys2Proof.Machine.exec_adc_a_ixl s
  | .adc_a_ixd d => Sys2Proof.Machine.exec_adc_a_ixd d s
  | .sub_ixh => Sys2Proof.Machine.exec_sub_ixh s
  | .sub_ixl => Sys2Proof.Machine.exec_sub_ixl s
  | .sub_ixd d => Sys2Proof.Machine.exec_sub_ixd d s
  | .sbc_a_ixh => Sys2Proof.Machine.exec_sbc_a_ixh s
  | .sbc_a_ixl => Sys2Proof.Machine.exec_sbc_a_ixl s
  | .sbc_a_ixd d => Sys2Proof.Machine.exec_sbc_a_ixd d s
  | .and_ixh => Sys2Proof.Machine.exec_and_ixh s
  | .and_ixl => Sys2Proof.Machine.exec_and_ixl s
  | .and_ixd d => Sys2Proof.Machine.exec_and_ixd d s
  | .xor_ixh => Sys2Proof.Machine.exec_xor_ixh s
  | .xor_ixl => Sys2Proof.Machine.exec_xor_ixl s
  | .xor_ixd d => Sys2Proof.Machine.exec_xor_ixd d s
  | .or_ixh => Sys2Proof.Machine.exec_or_ixh s
  | .or_ixl => Sys2Proof.Machine.exec_or_ixl s
  | .or_ixd d => Sys2Proof.Machine.exec_or_ixd d s
  | .cp_ixh => Sys2Proof.Machine.exec_cp_ixh s
  | .cp_ixl => Sys2Proof.Machine.exec_cp_ixl s
  | .cp_ixd d => Sys2Proof.Machine.exec_cp_ixd d s
  | .pop_ix => Sys2Proof.Machine.exec_pop_ix s
  | .ex_msp_ix => Sys2Proof.Machine.exec_ex_msp_ix s
  | .push_ix => Sys2Proof.Machine.exec_push_ix s
  | .jp_ix => Sys2Proof.Machine.exec_jp_ix s
  | .ld_sp_ix => Sys2Proof.Machine.exec_ld_sp_ix s
  | .rlc_ixd_b d => Sys2Proof.Machine.exec_rlc_ixd_b d s
  | .rlc_ixd_c d => Sys2Proof.Machine.exec_rlc_ixd_c d s
  | .rlc_ixd_d d => Sys2Proof.Machine.exec_rlc_ixd_d d s
  | .rlc_ixd_e d => Sys2Proof.Machine.exec_rlc_ixd_e d s
  | .rlc_ixd_h d => Sys2Proof.Machine.exec_rlc_ixd_h d s
  | .rlc_ixd_l d => Sys2Proof.Machine.exec_rlc_ixd_l d s
  | .rlc_ixd d => Sys2Proof.Machine.exec_rlc_ixd d s
  | .rlc_ixd_a d => Sys2Proof.Machine.exec_rlc_ixd_a d s
  | .rrc_ixd_b d => Sys2Proof.Machine.exec_rrc_ixd_b d s
  | .rrc_ixd_c d => Sys2Proof.Machine.exec_rrc_ixd_c d s
  | .rrc_ixd_d d => Sys2Proof.Machine.exec_rrc_ixd_d d s
  | .rrc_ixd_e d => Sys2Proof.Machine.exec_rrc_ixd_e d s
  | .rrc_ixd_h d => Sys2Proof.Machine.exec_rrc_ixd_h d s
  | .rrc_ixd_l d => Sys2Proof.Machine.exec_rrc_ixd_l d s
  | .rrc_ixd d => Sys2Proof.Machine.exec_rrc_ixd d s
  | .rrc_ixd_a d => Sys2Proof.Machine.exec_rrc_ixd_a d s
  | .rl_ixd_b d => Sys2Proof.Machine.exec_rl_ixd_b d s
  | .rl_ixd_c d => Sys2Proof.Machine.exec_rl_ixd_c d s
  | .rl_ixd_d d => Sys2Proof.Machine.exec_rl_ixd_d d s
  | .rl_ixd_e d => Sys2Proof.Machine.exec_rl_ixd_e d s
  | .rl_ixd_h d => Sys2Proof.Machine.exec_rl_ixd_h d s
  | .rl_ixd_l d => Sys2Proof.Machine.exec_rl_ixd_l d s
  | .rl_ixd d => Sys2Proof.Machine.exec_rl_ixd d s
  | .rl_ixd_a d => Sys2Proof.Machine.exec_rl_ixd_a d s
  | .rr_ixd_b d => Sys2Proof.Machine.exec_rr_ixd_b d s
  | .rr_ixd_c d => Sys2Proof.Machine.exec_rr_ixd_c d s
  | .rr_ixd_d d => Sys2Proof.Machine.exec_rr_ixd_d d s
  | .rr_ixd_e d => Sys2Proof.Machine.exec_rr_ixd_e d s
  | .rr_ixd_h d => Sys2Proof.Machine.exec_rr_ixd_h d s
  | .rr_ixd_l d => Sys2Proof.Machine.exec_rr_ixd_l d s
  | .rr_ixd d => Sys2Proof.Machine.exec_rr_ixd d s
  | .rr_ixd_a d => Sys2Proof.Machine.exec_rr_ixd_a d s
  | .sla_ixd_b d => Sys2Proof.Machine.exec_sla_ixd_b d s
  | .sla_ixd_c d => Sys2Proof.Machine.exec_sla_ixd_c d s
  | .sla_ixd_d d => Sys2Proof.Machine.exec_sla_ixd_d d s
  | .sla_ixd_e d => Sys2Proof.Machine.exec_sla_ixd_e d s
  | .sla_ixd_h d => Sys2Proof.Machine.exec_sla_ixd_h d s
  | .sla_ixd_l d => Sys2Proof.Machine.exec_sla_ixd_l d s
  | .sla_ixd d => Sys2Proof.Machine.exec_sla_ixd d s
  | .sla_ixd_a d => Sys2Proof.Machine.exec_sla_ixd_a d s
  | .sra_ixd_b d => Sys2Proof.Machine.exec_sra_ixd_b d s
  | .sra_ixd_c d => Sys2Proof.Machine.exec_sra_ixd_c d s
  | .sra_ixd_d d => Sys2Proof.Machine.exec_sra_ixd_d d s
  | .sra_ixd_e d => Sys2Proof.Machine.exec_sra_ixd_e d s
  | .sra_ixd_h d => Sys2Proof.Machine.exec_sra_ixd_h d s
  | .sra_ixd_l d => Sys2Proof.Machine.exec_sra_ixd_l d s
  | .sra_ixd d => Sys2Proof.Machine.exec_sra_ixd d s
  | .sra_ixd_a d => Sys2Proof.Machine.exec_sra_ixd_a d s
  | .sll_ixd_b d => Sys2Proof.Machine.exec_sll_ixd_b d s
  | .sll_ixd_c d => Sys2Proof.Machine.exec_sll_ixd_c d s
  | .sll_ixd_d d => Sys2Proof.Machine.exec_sll_ixd_d d s
  | .sll_ixd_e d => Sys2Proof.Machine.exec_sll_ixd_e d s
  | .sll_ixd_h d => Sys2Proof.Machine.exec_sll_ixd_h d s
  | .sll_ixd_l d => Sys2Proof.Machine.exec_sll_ixd_l d s
  | .sll_ixd d => Sys2Proof.Machine.exec_sll_ixd d s
  | .sll_ixd_a d => Sys2Proof.Machine.exec_sll_ixd_a d s
  | .srl_ixd_b d => Sys2Proof.Machine.exec_srl_ixd_b d s
  | .srl_ixd_c d => Sys2Proof.Machine.exec_srl_ixd_c d s
  | .srl_ixd_d d => Sys2Proof.Machine.exec_srl_ixd_d d s
  | .srl_ixd_e d => Sys2Proof.Machine.exec_srl_ixd_e d s
  | .srl_ixd_h d => Sys2Proof.Machine.exec_srl_ixd_h d s
  | .srl_ixd_l d => Sys2Proof.Machine.exec_srl_ixd_l d s
  | .srl_ixd d => Sys2Proof.Machine.exec_srl_ixd d s
  | .srl_ixd_a d => Sys2Proof.Machine.exec_srl_ixd_a d s
  | .bit_0_ixd_z0 d => Sys2Proof.Machine.exec_bit_0_ixd_z0 d s
  | .bit_0_ixd_z1 d => Sys2Proof.Machine.exec_bit_0_ixd_z1 d s
  | .bit_0_ixd_z2 d => Sys2Proof.Machine.exec_bit_0_ixd_z2 d s
  | .bit_0_ixd_z3 d => Sys2Proof.Machine.exec_bit_0_ixd_z3 d s
  | .bit_0_ixd_z4 d => Sys2Proof.Machine.exec_bit_0_ixd_z4 d s
  | .bit_0_ixd_z5 d => Sys2Proof.Machine.exec_bit_0_ixd_z5 d s
  | .bit_0_ixd d => Sys2Proof.Machine.exec_bit_0_ixd d s
  | .bit_0_ixd_z7 d => Sys2Proof.Machine.exec_bit_0_ixd_z7 d s
  | .bit_1_ixd_z0 d => Sys2Proof.Machine.exec_bit_1_ixd_z0 d s
  | .bit_1_ixd_z1 d => Sys2Proof.Machine.exec_bit_1_ixd_z1 d s
  | .bit_1_ixd_z2 d => Sys2Proof.Machine.exec_bit_1_ixd_z2 d s
  | .bit_1_ixd_z3 d => Sys2Proof.Machine.exec_bit_1_ixd_z3 d s
  | .bit_1_ixd_z4 d => Sys2Proof.Machine.exec_bit_1_ixd_z4 d s
  | .bit_1_ixd_z5 d => Sys2Proof.Machine.exec_bit_1_ixd_z5 d s
  | .bit_1_ixd d => Sys2Proof.Machine.exec_bit_1_ixd d s
  | .bit_1_ixd_z7 d => Sys2Proof.Machine.exec_bit_1_ixd_z7 d s
  | .bit_2_ixd_z0 d => Sys2Proof.Machine.exec_bit_2_ixd_z0 d s
  | .bit_2_ixd_z1 d => Sys2Proof.Machine.exec_bit_2_ixd_z1 d s
  | .bit_2_ixd_z2 d => Sys2Proof.Machine.exec_bit_2_ixd_z2 d s
  | .bit_2_ixd_z3 d => Sys2Proof.Machine.exec_bit_2_ixd_z3 d s
  | .bit_2_ixd_z4 d => Sys2Proof.Machine.exec_bit_2_ixd_z4 d s
  | .bit_2_ixd_z5 d => Sys2Proof.Machine.exec_bit_2_ixd_z5 d s
  | .bit_2_ixd d => Sys2Proof.Machine.exec_bit_2_ixd d s
  | .bit_2_ixd_z7 d => Sys2Proof.Machine.exec_bit_2_ixd_z7 d s
  | .bit_3_ixd_z0 d => Sys2Proof.Machine.exec_bit_3_ixd_z0 d s
  | .bit_3_ixd_z1 d => Sys2Proof.Machine.exec_bit_3_ixd_z1 d s
  | .bit_3_ixd_z2 d => Sys2Proof.Machine.exec_bit_3_ixd_z2 d s
  | .bit_3_ixd_z3 d => Sys2Proof.Machine.exec_bit_3_ixd_z3 d s
  | .bit_3_ixd_z4 d => Sys2Proof.Machine.exec_bit_3_ixd_z4 d s
  | .bit_3_ixd_z5 d => Sys2Proof.Machine.exec_bit_3_ixd_z5 d s
  | .bit_3_ixd d => Sys2Proof.Machine.exec_bit_3_ixd d s
  | .bit_3_ixd_z7 d => Sys2Proof.Machine.exec_bit_3_ixd_z7 d s
  | .bit_4_ixd_z0 d => Sys2Proof.Machine.exec_bit_4_ixd_z0 d s
  | .bit_4_ixd_z1 d => Sys2Proof.Machine.exec_bit_4_ixd_z1 d s
  | .bit_4_ixd_z2 d => Sys2Proof.Machine.exec_bit_4_ixd_z2 d s
  | .bit_4_ixd_z3 d => Sys2Proof.Machine.exec_bit_4_ixd_z3 d s
  | .bit_4_ixd_z4 d => Sys2Proof.Machine.exec_bit_4_ixd_z4 d s
  | .bit_4_ixd_z5 d => Sys2Proof.Machine.exec_bit_4_ixd_z5 d s
  | .bit_4_ixd d => Sys2Proof.Machine.exec_bit_4_ixd d s
  | .bit_4_ixd_z7 d => Sys2Proof.Machine.exec_bit_4_ixd_z7 d s
  | .bit_5_ixd_z0 d => Sys2Proof.Machine.exec_bit_5_ixd_z0 d s
  | .bit_5_ixd_z1 d => Sys2Proof.Machine.exec_bit_5_ixd_z1 d s
  | .bit_5_ixd_z2 d => Sys2Proof.Machine.exec_bit_5_ixd_z2 d s
  | .bit_5_ixd_z3 d => Sys2Proof.Machine.exec_bit_5_ixd_z3 d s
  | .bit_5_ixd_z4 d => Sys2Proof.Machine.exec_bit_5_ixd_z4 d s
  | .bit_5_ixd_z5 d => Sys2Proof.Machine.exec_bit_5_ixd_z5 d s
  | .bit_5_ixd d => Sys2Proof.Machine.exec_bit_5_ixd d s
  | .bit_5_ixd_z7 d => Sys2Proof.Machine.exec_bit_5_ixd_z7 d s
  | .bit_6_ixd_z0 d => Sys2Proof.Machine.exec_bit_6_ixd_z0 d s
  | .bit_6_ixd_z1 d => Sys2Proof.Machine.exec_bit_6_ixd_z1 d s
  | .bit_6_ixd_z2 d => Sys2Proof.Machine.exec_bit_6_ixd_z2 d s
  | .bit_6_ixd_z3 d => Sys2Proof.Machine.exec_bit_6_ixd_z3 d s
  | .bit_6_ixd_z4 d => Sys2Proof.Machine.exec_bit_6_ixd_z4 d s
  | .bit_6_ixd_z5 d => Sys2Proof.Machine.exec_bit_6_ixd_z5 d s
  | .bit_6_ixd d => Sys2Proof.Machine.exec_bit_6_ixd d s
  | .bit_6_ixd_z7 d => Sys2Proof.Machine.exec_bit_6_ixd_z7 d s
  | .bit_7_ixd_z0 d => Sys2Proof.Machine.exec_bit_7_ixd_z0 d s
  | .bit_7_ixd_z1 d => Sys2Proof.Machine.exec_bit_7_ixd_z1 d s
  | .bit_7_ixd_z2 d => Sys2Proof.Machine.exec_bit_7_ixd_z2 d s
  | .bit_7_ixd_z3 d => Sys2Proof.Machine.exec_bit_7_ixd_z3 d s
  | .bit_7_ixd_z4 d => Sys2Proof.Machine.exec_bit_7_ixd_z4 d s
  | .bit_7_ixd_z5 d => Sys2Proof.Machine.exec_bit_7_ixd_z5 d s
  | .bit_7_ixd d => Sys2Proof.Machine.exec_bit_7_ixd d s
  | .bit_7_ixd_z7 d => Sys2Proof.Machine.exec_bit_7_ixd_z7 d s
  | .res_0_ixd_b d => Sys2Proof.Machine.exec_res_0_ixd_b d s
  | .res_0_ixd_c d => Sys2Proof.Machine.exec_res_0_ixd_c d s
  | .res_0_ixd_d d => Sys2Proof.Machine.exec_res_0_ixd_d d s
  | .res_0_ixd_e d => Sys2Proof.Machine.exec_res_0_ixd_e d s
  | .res_0_ixd_h d => Sys2Proof.Machine.exec_res_0_ixd_h d s
  | .res_0_ixd_l d => Sys2Proof.Machine.exec_res_0_ixd_l d s
  | .res_0_ixd d => Sys2Proof.Machine.exec_res_0_ixd d s
  | .res_0_ixd_a d => Sys2Proof.Machine.exec_res_0_ixd_a d s
  | .res_1_ixd_b d => Sys2Proof.Machine.exec_res_1_ixd_b d s
  | .res_1_ixd_c d => Sys2Proof.Machine.exec_res_1_ixd_c d s
  | .res_1_ixd_d d => Sys2Proof.Machine.exec_res_1_ixd_d d s
  | .res_1_ixd_e d => Sys2Proof.Machine.exec_res_1_ixd_e d s
  | .res_1_ixd_h d => Sys2Proof.Machine.exec_res_1_ixd_h d s
  | .res_1_ixd_l d => Sys2Proof.Machine.exec_res_1_ixd_l d s
  | .res_1_ixd d => Sys2Proof.Machine.exec_res_1_ixd d s
  | .res_1_ixd_a d => Sys2Proof.Machine.exec_res_1_ixd_a d s
  | .res_2_ixd_b d => Sys2Proof.Machine.exec_res_2_ixd_b d s
  | .res_2_ixd_c d => Sys2Proof.Machine.exec_res_2_ixd_c d s
  | .res_2_ixd_d d => Sys2Proof.Machine.exec_res_2_ixd_d d s
  | .res_2_ixd_e d => Sys2Proof.Machine.exec_res_2_ixd_e d s
  | .res_2_ixd_h d => Sys2Proof.Machine.exec_res_2_ixd_h d s
  | .res_2_ixd_l d => Sys2Proof.Machine.exec_res_2_ixd_l d s
  | .res_2_ixd d => Sys2Proof.Machine.exec_res_2_ixd d s
  | .res_2_ixd_a d => Sys2Proof.Machine.exec_res_2_ixd_a d s
  | .res_3_ixd_b d => Sys2Proof.Machine.exec_res_3_ixd_b d s
  | .res_3_ixd_c d => Sys2Proof.Machine.exec_res_3_ixd_c d s
  | .res_3_ixd_d d => Sys2Proof.Machine.exec_res_3_ixd_d d s
  | .res_3_ixd_e d => Sys2Proof.Machine.exec_res_3_ixd_e d s
  | .res_3_ixd_h d => Sys2Proof.Machine.exec_res_3_ixd_h d s
  | .res_3_ixd_l d => Sys2Proof.Machine.exec_res_3_ixd_l d s
  | .res_3_ixd d => Sys2Proof.Machine.exec_res_3_ixd d s
  | .res_3_ixd_a d => Sys2Proof.Machine.exec_res_3_ixd_a d s
  | .res_4_ixd_b d => Sys2Proof.Machine.exec_res_4_ixd_b d s
  | .res_4_ixd_c d => Sys2Proof.Machine.exec_res_4_ixd_c d s
  | .res_4_ixd_d d => Sys2Proof.Machine.exec_res_4_ixd_d d s
  | .res_4_ixd_e d => Sys2Proof.Machine.exec_res_4_ixd_e d s
  | .res_4_ixd_h d => Sys2Proof.Machine.exec_res_4_ixd_h d s
  | .res_4_ixd_l d => Sys2Proof.Machine.exec_res_4_ixd_l d s
  | .res_4_ixd d => Sys2Proof.Machine.exec_res_4_ixd d s
  | .res_4_ixd_a d => Sys2Proof.Machine.exec_res_4_ixd_a d s
  | .res_5_ixd_b d => Sys2Proof.Machine.exec_res_5_ixd_b d s
  | .res_5_ixd_c d => Sys2Proof.Machine.exec_res_5_ixd_c d s
  | .res_5_ixd_d d => Sys2Proof.Machine.exec_res_5_ixd_d d s
  | .res_5_ixd_e d => Sys2Proof.Machine.exec_res_5_ixd_e d s
  | .res_5_ixd_h d => Sys2Proof.Machine.exec_res_5_ixd_h d s
  | .res_5_ixd_l d => Sys2Proof.Machine.exec_res_5_ixd_l d s
  | .res_5_ixd d => Sys2Proof.Machine.exec_res_5_ixd d s
  | .res_5_ixd_a d => Sys2Proof.Machine.exec_res_5_ixd_a d s
  | .res_6_ixd_b d => Sys2Proof.Machine.exec_res_6_ixd_b d s
  | .res_6_ixd_c d => Sys2Proof.Machine.exec_res_6_ixd_c d s
  | .res_6_ixd_d d => Sys2Proof.Machine.exec_res_6_ixd_d d s
  | .res_6_ixd_e d => Sys2Proof.Machine.exec_res_6_ixd_e d s
  | .res_6_ixd_h d => Sys2Proof.Machine.exec_res_6_ixd_h d s
  | .res_6_ixd_l d => Sys2Proof.Machine.exec_res_6_ixd_l d s
  | .res_6_ixd d => Sys2Proof.Machine.exec_res_6_ixd d s
  | .res_6_ixd_a d => Sys2Proof.Machine.exec_res_6_ixd_a d s
  | .res_7_ixd_b d => Sys2Proof.Machine.exec_res_7_ixd_b d s
  | .res_7_ixd_c d => Sys2Proof.Machine.exec_res_7_ixd_c d s
  | .res_7_ixd_d d => Sys2Proof.Machine.exec_res_7_ixd_d d s
  | .res_7_ixd_e d => Sys2Proof.Machine.exec_res_7_ixd_e d s
  | .res_7_ixd_h d => Sys2Proof.Machine.exec_res_7_ixd_h d s
  | .res_7_ixd_l d => Sys2Proof.Machine.exec_res_7_ixd_l d s
  | .res_7_ixd d => Sys2Proof.Machine.exec_res_7_ixd d s
  | .res_7_ixd_a d => Sys2Proof.Machine.exec_res_7_ixd_a d s
  | .set_0_ixd_b d => Sys2Proof.Machine.exec_set_0_ixd_b d s
  | .set_0_ixd_c d => Sys2Proof.Machine.exec_set_0_ixd_c d s
  | .set_0_ixd_d d => Sys2Proof.Machine.exec_set_0_ixd_d d s
  | .set_0_ixd_e d => Sys2Proof.Machine.exec_set_0_ixd_e d s
  | .set_0_ixd_h d => Sys2Proof.Machine.exec_set_0_ixd_h d s
  | .set_0_ixd_l d => Sys2Proof.Machine.exec_set_0_ixd_l d s
  | .set_0_ixd d => Sys2Proof.Machine.exec_set_0_ixd d s
  | .set_0_ixd_a d => Sys2Proof.Machine.exec_set_0_ixd_a d s
  | .set_1_ixd_b d => Sys2Proof.Machine.exec_set_1_ixd_b d s
  | .set_1_ixd_c d => Sys2Proof.Machine.exec_set_1_ixd_c d s
  | .set_1_ixd_d d => Sys2Proof.Machine.exec_set_1_ixd_d d s
  | .set_1_ixd_e d => Sys2Proof.Machine.exec_set_1_ixd_e d s
  | .set_1_ixd_h d => Sys2Proof.Machine.exec_set_1_ixd_h d s
  | .set_1_ixd_l d => Sys2Proof.Machine.exec_set_1_ixd_l d s
  | .set_1_ixd d => Sys2Proof.Machine.exec_set_1_ixd d s
  | .set_1_ixd_a d => Sys2Proof.Machine.exec_set_1_ixd_a d s
  | .set_2_ixd_b d => Sys2Proof.Machine.exec_set_2_ixd_b d s
  | .set_2_ixd_c d => Sys2Proof.Machine.exec_set_2_ixd_c d s
  | .set_2_ixd_d d => Sys2Proof.Machine.exec_set_2_ixd_d d s
  | .set_2_ixd_e d => Sys2Proof.Machine.exec_set_2_ixd_e d s
  | .set_2_ixd_h d => Sys2Proof.Machine.exec_set_2_ixd_h d s
  | .set_2_ixd_l d => Sys2Proof.Machine.exec_set_2_ixd_l d s
  | .set_2_ixd d => Sys2Proof.Machine.exec_set_2_ixd d s
  | .set_2_ixd_a d => Sys2Proof.Machine.exec_set_2_ixd_a d s
  | .set_3_ixd_b d => Sys2Proof.Machine.exec_set_3_ixd_b d s
  | .set_3_ixd_c d => Sys2Proof.Machine.exec_set_3_ixd_c d s
  | .set_3_ixd_d d => Sys2Proof.Machine.exec_set_3_ixd_d d s
  | .set_3_ixd_e d => Sys2Proof.Machine.exec_set_3_ixd_e d s
  | .set_3_ixd_h d => Sys2Proof.Machine.exec_set_3_ixd_h d s
  | .set_3_ixd_l d => Sys2Proof.Machine.exec_set_3_ixd_l d s
  | .set_3_ixd d => Sys2Proof.Machine.exec_set_3_ixd d s
  | .set_3_ixd_a d => Sys2Proof.Machine.exec_set_3_ixd_a d s
  | .set_4_ixd_b d => Sys2Proof.Machine.exec_set_4_ixd_b d s
  | .set_4_ixd_c d => Sys2Proof.Machine.exec_set_4_ixd_c d s
  | .set_4_ixd_d d => Sys2Proof.Machine.exec_set_4_ixd_d d s
  | .set_4_ixd_e d => Sys2Proof.Machine.exec_set_4_ixd_e d s
  | .set_4_ixd_h d => Sys2Proof.Machine.exec_set_4_ixd_h d s
  | .set_4_ixd_l d => Sys2Proof.Machine.exec_set_4_ixd_l d s
  | .set_4_ixd d => Sys2Proof.Machine.exec_set_4_ixd d s
  | .set_4_ixd_a d => Sys2Proof.Machine.exec_set_4_ixd_a d s
  | .set_5_ixd_b d => Sys2Proof.Machine.exec_set_5_ixd_b d s
  | .set_5_ixd_c d => Sys2Proof.Machine.exec_set_5_ixd_c d s
  | .set_5_ixd_d d => Sys2Proof.Machine.exec_set_5_ixd_d d s
  | .set_5_ixd_e d => Sys2Proof.Machine.exec_set_5_ixd_e d s
  | .set_5_ixd_h d => Sys2Proof.Machine.exec_set_5_ixd_h d s
  | .set_5_ixd_l d => Sys2Proof.Machine.exec_set_5_ixd_l d s
  | .set_5_ixd d => Sys2Proof.Machine.exec_set_5_ixd d s
  | .set_5_ixd_a d => Sys2Proof.Machine.exec_set_5_ixd_a d s
  | .set_6_ixd_b d => Sys2Proof.Machine.exec_set_6_ixd_b d s
  | .set_6_ixd_c d => Sys2Proof.Machine.exec_set_6_ixd_c d s
  | .set_6_ixd_d d => Sys2Proof.Machine.exec_set_6_ixd_d d s
  | .set_6_ixd_e d => Sys2Proof.Machine.exec_set_6_ixd_e d s
  | .set_6_ixd_h d => Sys2Proof.Machine.exec_set_6_ixd_h d s
  | .set_6_ixd_l d => Sys2Proof.Machine.exec_set_6_ixd_l d s
  | .set_6_ixd d => Sys2Proof.Machine.exec_set_6_ixd d s
  | .set_6_ixd_a d => Sys2Proof.Machine.exec_set_6_ixd_a d s
  | .set_7_ixd_b d => Sys2Proof.Machine.exec_set_7_ixd_b d s
  | .set_7_ixd_c d => Sys2Proof.Machine.exec_set_7_ixd_c d s
  | .set_7_ixd_d d => Sys2Proof.Machine.exec_set_7_ixd_d d s
  | .set_7_ixd_e d => Sys2Proof.Machine.exec_set_7_ixd_e d s
  | .set_7_ixd_h d => Sys2Proof.Machine.exec_set_7_ixd_h d s
  | .set_7_ixd_l d => Sys2Proof.Machine.exec_set_7_ixd_l d s
  | .set_7_ixd d => Sys2Proof.Machine.exec_set_7_ixd d s
  | .set_7_ixd_a d => Sys2Proof.Machine.exec_set_7_ixd_a d s
  | .add_iy_bc => Sys2Proof.Machine.exec_add_iy_bc s
  | .add_iy_de => Sys2Proof.Machine.exec_add_iy_de s
  | .ld_iy_nn nn => Sys2Proof.Machine.exec_ld_iy_nn nn s
  | .ld_mnn_iy nn => Sys2Proof.Machine.exec_ld_mnn_iy nn s
  | .inc_iy => Sys2Proof.Machine.exec_inc_iy s
  | .inc_iyh => Sys2Proof.Machine.exec_inc_iyh s
  | .dec_iyh => Sys2Proof.Machine.exec_dec_iyh s
  | .ld_iyh_n n => Sys2Proof.Machine.exec_ld_iyh_n n s
  | .add_iy_iy => Sys2Proof.Machine.exec_add_iy_iy s
  | .ld_iy_mnn nn => Sys2Proof.Machine.exec_ld_iy_mnn nn s
  | .dec_iy => Sys2Proof.Machine.exec_dec_iy s
  | .inc_iyl => Sys2Proof.Machine.exec_inc_iyl s
  | .dec_iyl => Sys2Proof.Machine.exec_dec_iyl s
  | .ld_iyl_n n => Sys2Proof.Machine.exec_ld_iyl_n n s
  | .inc_iyd d => Sys2Proof.Machine.exec_inc_iyd d s
  | .dec_iyd d => Sys2Proof.Machine.exec_dec_iyd d s
  | .ld_iyd_n d n => Sys2Proof.Machine.exec_ld_iyd_n d n s
  | .add_iy_sp => Sys2Proof.Machine.exec_add_iy_sp s
  | .ld_b_iyh => Sys2Proof.Machine.exec_ld_b_iyh s
  | .ld_b_iyl => Sys2Proof.Machine.exec_ld_b_iyl s
  | .ld_b_iyd d => Sys2Proof.Machine.exec_ld_b_iyd d s
  | .ld_c_iyh => Sys2Proof.Machine.exec_ld_c_iyh s
  | .ld_c_iyl => Sys2Proof.Machine.exec_ld_c_iyl s
  | .ld_c_iyd d => Sys2Proof.Machine.exec_ld_c_iyd d s
  | .ld_d_iyh => Sys2Proof.Machine.exec_ld_d_iyh s
  | .ld_d_iyl => Sys2Proof.Machine.exec_ld_d_iyl s
  | .ld_d_iyd d => Sys2Proof.Machine.exec_ld_d_iyd d s
  | .ld_e_iyh => Sys2Proof.Machine.exec_ld_e_iyh s
  | .ld_e_iyl => Sys2Proof.Machine.exec_ld_e_iyl s
  | .ld_e_iyd d => Sys2Proof.Machine.exec_ld_e_iyd d s
  | .ld_iyh_b => Sys2Proof.Machine.exec_ld_iyh_b s
  | .ld_iyh_c => Sys2Proof.Machine.exec_ld_iyh_c s
  | .ld_iyh_d => Sys2Proof.Machine.exec_ld_iyh_d s
  | .ld_iyh_e => Sys2Proof.Machine.exec_ld_iyh_e s
  | .ld_iyh_iyh => Sys2Proof.Machine.exec_ld_iyh_iyh s
  | .ld_iyh_iyl => Sys2Proof.Machine.exec_ld_iyh_iyl s
  | .ld_h_iyd d => Sys2Proof.Machine.exec_ld_h_iyd d s
  | .ld_iyh_a => Sys2Proof.Machine.exec_ld_iyh_a s
  | .ld_iyl_b => Sys2Proof.Machine.exec_ld_iyl_b s
  | .ld_iyl_c => Sys2Proof.Machine.exec_ld_iyl_c s
  | .ld_iyl_d => Sys2Proof.Machine.exec_ld_iyl_d s
  | .ld_iyl_e => Sys2Proof.Machine.exec_ld_iyl_e s
  | .ld_iyl_iyh => Sys2Proof.Machine.exec_ld_iyl_iyh s
  | .ld_iyl_iyl => Sys2Proof.Machine.exec_ld_iyl_iyl s
  | .ld_l_iyd d => Sys2Proof.Machine.exec_ld_l_iyd d s
  | .ld_iyl_a => Sys2Proof.Machine.exec_ld_iyl_a s
  | .ld_iyd_b d => Sys2Proof.Machine.exec_ld_iyd_b d s
  | .ld_iyd_c d => Sys2Proof.Machine.exec_ld_iyd_c d s
  | .ld_iyd_d d => Sys2Proof.Machine.exec_ld_iyd_d d s
  | .ld_iyd_e d => Sys2Proof.Machine.exec_ld_iyd_e d s
  | .ld_iyd_h d => Sys2Proof.Machine.exec_ld_iyd_h d s
  | .ld_iyd_l d => Sys2Proof.Machine.exec_ld_iyd_l d s
  | .ld_iyd_a d => Sys2Proof.Machine.exec_ld_iyd_a d s
  | .ld_a_iyh => Sys2Proof.Machine.exec_ld_a_iyh s
  | .ld_a_iyl => Sys2Proof.Machine.exec_ld_a_iyl s
  | .ld_a_iyd d => Sys2Proof.Machine.exec_ld_a_iyd d s
  | .add_a_iyh => Sys2Proof.Machine.exec_add_a_iyh s
  | .add_a_iyl => Sys2Proof.Machine.exec_add_a_iyl s
  | .add_a_iyd d => Sys2Proof.Machine.exec_add_a_iyd d s
  | .adc_a_iyh => Sys2Proof.Machine.exec_adc_a_iyh s
  | .adc_a_iyl => Sys2Proof.Machine.exec_adc_a_iyl s
  | .adc_a_iyd d => Sys2Proof.Machine.exec_adc_a_iyd d s
  | .sub_iyh => Sys2Proof.Machine.exec_sub_iyh s
  | .sub_iyl => Sys2Proof.Machine.exec_sub_iyl s
  | .sub_iyd d => Sys2Proof.Machine.exec_sub_iyd d s
  | .sbc_a_iyh => Sys2Proof.Machine.exec_sbc_a_iyh s
  | .sbc_a_iyl => Sys2Proof.Machine.exec_sbc_a_iyl s
  | .sbc_a_iyd d => Sys2Proof.Machine.exec_sbc_a_iyd d s
  | .and_iyh => Sys2Proof.Machine.exec_and_iyh s
  | .and_iyl => Sys2Proof.Machine.exec_and_iyl s
  | .and_iyd d => Sys2Proof.Machine.exec_and_iyd d s
  | .xor_iyh => Sys2Proof.Machine.exec_xor_iyh s
  | .xor_iyl => Sys2Proof.Machine.exec_xor_iyl s
  | .xor_iyd d => Sys2Proof.Machine.exec_xor_iyd d s
  | .or_iyh => Sys2Proof.Machine.exec_or_iyh s
  | .or_iyl => Sys2Proof.Machine.exec_or_iyl s
  | .or_iyd d => Sys2Proof.Machine.exec_or_iyd d s
  | .cp_iyh => Sys2Proof.Machine.exec_cp_iyh s
  | .cp_iyl => Sys2Proof.Machine.exec_cp_iyl s
  | .cp_iyd d => Sys2Proof.Machine.exec_cp_iyd d s
  | .pop_iy => Sys2Proof.Machine.exec_pop_iy s
  | .ex_msp_iy => Sys2Proof.Machine.exec_ex_msp_iy s
  | .push_iy => Sys2Proof.Machine.exec_push_iy s
  | .jp_iy => Sys2Proof.Machine.exec_jp_iy s
  | .ld_sp_iy => Sys2Proof.Machine.exec_ld_sp_iy s
  | .rlc_iyd_b d => Sys2Proof.Machine.exec_rlc_iyd_b d s
  | .rlc_iyd_c d => Sys2Proof.Machine.exec_rlc_iyd_c d s
  | .rlc_iyd_d d => Sys2Proof.Machine.exec_rlc_iyd_d d s
  | .rlc_iyd_e d => Sys2Proof.Machine.exec_rlc_iyd_e d s
  | .rlc_iyd_h d => Sys2Proof.Machine.exec_rlc_iyd_h d s
  | .rlc_iyd_l d => Sys2Proof.Machine.exec_rlc_iyd_l d s
  | .rlc_iyd d => Sys2Proof.Machine.exec_rlc_iyd d s
  | .rlc_iyd_a d => Sys2Proof.Machine.exec_rlc_iyd_a d s
  | .rrc_iyd_b d => Sys2Proof.Machine.exec_rrc_iyd_b d s
  | .rrc_iyd_c d => Sys2Proof.Machine.exec_rrc_iyd_c d s
  | .rrc_iyd_d d => Sys2Proof.Machine.exec_rrc_iyd_d d s
  | .rrc_iyd_e d => Sys2Proof.Machine.exec_rrc_iyd_e d s
  | .rrc_iyd_h d => Sys2Proof.Machine.exec_rrc_iyd_h d s
  | .rrc_iyd_l d => Sys2Proof.Machine.exec_rrc_iyd_l d s
  | .rrc_iyd d => Sys2Proof.Machine.exec_rrc_iyd d s
  | .rrc_iyd_a d => Sys2Proof.Machine.exec_rrc_iyd_a d s
  | .rl_iyd_b d => Sys2Proof.Machine.exec_rl_iyd_b d s
  | .rl_iyd_c d => Sys2Proof.Machine.exec_rl_iyd_c d s
  | .rl_iyd_d d => Sys2Proof.Machine.exec_rl_iyd_d d s
  | .rl_iyd_e d => Sys2Proof.Machine.exec_rl_iyd_e d s
  | .rl_iyd_h d => Sys2Proof.Machine.exec_rl_iyd_h d s
  | .rl_iyd_l d => Sys2Proof.Machine.exec_rl_iyd_l d s
  | .rl_iyd d => Sys2Proof.Machine.exec_rl_iyd d s
  | .rl_iyd_a d => Sys2Proof.Machine.exec_rl_iyd_a d s
  | .rr_iyd_b d => Sys2Proof.Machine.exec_rr_iyd_b d s
  | .rr_iyd_c d => Sys2Proof.Machine.exec_rr_iyd_c d s
  | .rr_iyd_d d => Sys2Proof.Machine.exec_rr_iyd_d d s
  | .rr_iyd_e d => Sys2Proof.Machine.exec_rr_iyd_e d s
  | .rr_iyd_h d => Sys2Proof.Machine.exec_rr_iyd_h d s
  | .rr_iyd_l d => Sys2Proof.Machine.exec_rr_iyd_l d s
  | .rr_iyd d => Sys2Proof.Machine.exec_rr_iyd d s
  | .rr_iyd_a d => Sys2Proof.Machine.exec_rr_iyd_a d s
  | .sla_iyd_b d => Sys2Proof.Machine.exec_sla_iyd_b d s
  | .sla_iyd_c d => Sys2Proof.Machine.exec_sla_iyd_c d s
  | .sla_iyd_d d => Sys2Proof.Machine.exec_sla_iyd_d d s
  | .sla_iyd_e d => Sys2Proof.Machine.exec_sla_iyd_e d s
  | .sla_iyd_h d => Sys2Proof.Machine.exec_sla_iyd_h d s
  | .sla_iyd_l d => Sys2Proof.Machine.exec_sla_iyd_l d s
  | .sla_iyd d => Sys2Proof.Machine.exec_sla_iyd d s
  | .sla_iyd_a d => Sys2Proof.Machine.exec_sla_iyd_a d s
  | .sra_iyd_b d => Sys2Proof.Machine.exec_sra_iyd_b d s
  | .sra_iyd_c d => Sys2Proof.Machine.exec_sra_iyd_c d s
  | .sra_iyd_d d => Sys2Proof.Machine.exec_sra_iyd_d d s
  | .sra_iyd_e d => Sys2Proof.Machine.exec_sra_iyd_e d s
  | .sra_iyd_h d => Sys2Proof.Machine.exec_sra_iyd_h d s
  | .sra_iyd_l d => Sys2Proof.Machine.exec_sra_iyd_l d s
  | .sra_iyd d => Sys2Proof.Machine.exec_sra_iyd d s
  | .sra_iyd_a d => Sys2Proof.Machine.exec_sra_iyd_a d s
  | .sll_iyd_b d => Sys2Proof.Machine.exec_sll_iyd_b d s
  | .sll_iyd_c d => Sys2Proof.Machine.exec_sll_iyd_c d s
  | .sll_iyd_d d => Sys2Proof.Machine.exec_sll_iyd_d d s
  | .sll_iyd_e d => Sys2Proof.Machine.exec_sll_iyd_e d s
  | .sll_iyd_h d => Sys2Proof.Machine.exec_sll_iyd_h d s
  | .sll_iyd_l d => Sys2Proof.Machine.exec_sll_iyd_l d s
  | .sll_iyd d => Sys2Proof.Machine.exec_sll_iyd d s
  | .sll_iyd_a d => Sys2Proof.Machine.exec_sll_iyd_a d s
  | .srl_iyd_b d => Sys2Proof.Machine.exec_srl_iyd_b d s
  | .srl_iyd_c d => Sys2Proof.Machine.exec_srl_iyd_c d s
  | .srl_iyd_d d => Sys2Proof.Machine.exec_srl_iyd_d d s
  | .srl_iyd_e d => Sys2Proof.Machine.exec_srl_iyd_e d s
  | .srl_iyd_h d => Sys2Proof.Machine.exec_srl_iyd_h d s
  | .srl_iyd_l d => Sys2Proof.Machine.exec_srl_iyd_l d s
  | .srl_iyd d => Sys2Proof.Machine.exec_srl_iyd d s
  | .srl_iyd_a d => Sys2Proof.Machine.exec_srl_iyd_a d s
  | .bit_0_iyd_z0 d => Sys2Proof.Machine.exec_bit_0_iyd_z0 d s
  | .bit_0_iyd_z1 d => Sys2Proof.Machine.exec_bit_0_iyd_z1 d s
  | .bit_0_iyd_z2 d => Sys2Proof.Machine.exec_bit_0_iyd_z2 d s
  | .bit_0_iyd_z3 d => Sys2Proof.Machine.exec_bit_0_iyd_z3 d s
  | .bit_0_iyd_z4 d => Sys2Proof.Machine.exec_bit_0_iyd_z4 d s
  | .bit_0_iyd_z5 d => Sys2Proof.Machine.exec_bit_0_iyd_z5 d s
  | .bit_0_iyd d => Sys2Proof.Machine.exec_bit_0_iyd d s
  | .bit_0_iyd_z7 d => Sys2Proof.Machine.exec_bit_0_iyd_z7 d s
  | .bit_1_iyd_z0 d => Sys2Proof.Machine.exec_bit_1_iyd_z0 d s
  | .bit_1_iyd_z1 d => Sys2Proof.Machine.exec_bit_1_iyd_z1 d s
  | .bit_1_iyd_z2 d => Sys2Proof.Machine.exec_bit_1_iyd_z2 d s
  | .bit_1_iyd_z3 d => Sys2Proof.Machine.exec_bit_1_iyd_z3 d s
  | .bit_1_iyd_z4 d => Sys2Proof.Machine.exec_bit_1_iyd_z4 d s
  | .bit_1_iyd_z5 d => Sys2Proof.Machine.exec_bit_1_iyd_z5 d s
  | .bit_1_iyd d => Sys2Proof.Machine.exec_bit_1_iyd d s
  | .bit_1_iyd_z7 d => Sys2Proof.Machine.exec_bit_1_iyd_z7 d s
  | .bit_2_iyd_z0 d => Sys2Proof.Machine.exec_bit_2_iyd_z0 d s
  | .bit_2_iyd_z1 d => Sys2Proof.Machine.exec_bit_2_iyd_z1 d s
  | .bit_2_iyd_z2 d => Sys2Proof.Machine.exec_bit_2_iyd_z2 d s
  | .bit_2_iyd_z3 d => Sys2Proof.Machine.exec_bit_2_iyd_z3 d s
  | .bit_2_iyd_z4 d => Sys2Proof.Machine.exec_bit_2_iyd_z4 d s
  | .bit_2_iyd_z5 d => Sys2Proof.Machine.exec_bit_2_iyd_z5 d s
  | .bit_2_iyd d => Sys2Proof.Machine.exec_bit_2_iyd d s
  | .bit_2_iyd_z7 d => Sys2Proof.Machine.exec_bit_2_iyd_z7 d s
  | .bit_3_iyd_z0 d => Sys2Proof.Machine.exec_bit_3_iyd_z0 d s
  | .bit_3_iyd_z1 d => Sys2Proof.Machine.exec_bit_3_iyd_z1 d s
  | .bit_3_iyd_z2 d => Sys2Proof.Machine.exec_bit_3_iyd_z2 d s
  | .bit_3_iyd_z3 d => Sys2Proof.Machine.exec_bit_3_iyd_z3 d s
  | .bit_3_iyd_z4 d => Sys2Proof.Machine.exec_bit_3_iyd_z4 d s
  | .bit_3_iyd_z5 d => Sys2Proof.Machine.exec_bit_3_iyd_z5 d s
  | .bit_3_iyd d => Sys2Proof.Machine.exec_bit_3_iyd d s
  | .bit_3_iyd_z7 d => Sys2Proof.Machine.exec_bit_3_iyd_z7 d s
  | .bit_4_iyd_z0 d => Sys2Proof.Machine.exec_bit_4_iyd_z0 d s
  | .bit_4_iyd_z1 d => Sys2Proof.Machine.exec_bit_4_iyd_z1 d s
  | .bit_4_iyd_z2 d => Sys2Proof.Machine.exec_bit_4_iyd_z2 d s
  | .bit_4_iyd_z3 d => Sys2Proof.Machine.exec_bit_4_iyd_z3 d s
  | .bit_4_iyd_z4 d => Sys2Proof.Machine.exec_bit_4_iyd_z4 d s
  | .bit_4_iyd_z5 d => Sys2Proof.Machine.exec_bit_4_iyd_z5 d s
  | .bit_4_iyd d => Sys2Proof.Machine.exec_bit_4_iyd d s
  | .bit_4_iyd_z7 d => Sys2Proof.Machine.exec_bit_4_iyd_z7 d s
  | .bit_5_iyd_z0 d => Sys2Proof.Machine.exec_bit_5_iyd_z0 d s
  | .bit_5_iyd_z1 d => Sys2Proof.Machine.exec_bit_5_iyd_z1 d s
  | .bit_5_iyd_z2 d => Sys2Proof.Machine.exec_bit_5_iyd_z2 d s
  | .bit_5_iyd_z3 d => Sys2Proof.Machine.exec_bit_5_iyd_z3 d s
  | .bit_5_iyd_z4 d => Sys2Proof.Machine.exec_bit_5_iyd_z4 d s
  | .bit_5_iyd_z5 d => Sys2Proof.Machine.exec_bit_5_iyd_z5 d s
  | .bit_5_iyd d => Sys2Proof.Machine.exec_bit_5_iyd d s
  | .bit_5_iyd_z7 d => Sys2Proof.Machine.exec_bit_5_iyd_z7 d s
  | .bit_6_iyd_z0 d => Sys2Proof.Machine.exec_bit_6_iyd_z0 d s
  | .bit_6_iyd_z1 d => Sys2Proof.Machine.exec_bit_6_iyd_z1 d s
  | .bit_6_iyd_z2 d => Sys2Proof.Machine.exec_bit_6_iyd_z2 d s
  | .bit_6_iyd_z3 d => Sys2Proof.Machine.exec_bit_6_iyd_z3 d s
  | .bit_6_iyd_z4 d => Sys2Proof.Machine.exec_bit_6_iyd_z4 d s
  | .bit_6_iyd_z5 d => Sys2Proof.Machine.exec_bit_6_iyd_z5 d s
  | .bit_6_iyd d => Sys2Proof.Machine.exec_bit_6_iyd d s
  | .bit_6_iyd_z7 d => Sys2Proof.Machine.exec_bit_6_iyd_z7 d s
  | .bit_7_iyd_z0 d => Sys2Proof.Machine.exec_bit_7_iyd_z0 d s
  | .bit_7_iyd_z1 d => Sys2Proof.Machine.exec_bit_7_iyd_z1 d s
  | .bit_7_iyd_z2 d => Sys2Proof.Machine.exec_bit_7_iyd_z2 d s
  | .bit_7_iyd_z3 d => Sys2Proof.Machine.exec_bit_7_iyd_z3 d s
  | .bit_7_iyd_z4 d => Sys2Proof.Machine.exec_bit_7_iyd_z4 d s
  | .bit_7_iyd_z5 d => Sys2Proof.Machine.exec_bit_7_iyd_z5 d s
  | .bit_7_iyd d => Sys2Proof.Machine.exec_bit_7_iyd d s
  | .bit_7_iyd_z7 d => Sys2Proof.Machine.exec_bit_7_iyd_z7 d s
  | .res_0_iyd_b d => Sys2Proof.Machine.exec_res_0_iyd_b d s
  | .res_0_iyd_c d => Sys2Proof.Machine.exec_res_0_iyd_c d s
  | .res_0_iyd_d d => Sys2Proof.Machine.exec_res_0_iyd_d d s
  | .res_0_iyd_e d => Sys2Proof.Machine.exec_res_0_iyd_e d s
  | .res_0_iyd_h d => Sys2Proof.Machine.exec_res_0_iyd_h d s
  | .res_0_iyd_l d => Sys2Proof.Machine.exec_res_0_iyd_l d s
  | .res_0_iyd d => Sys2Proof.Machine.exec_res_0_iyd d s
  | .res_0_iyd_a d => Sys2Proof.Machine.exec_res_0_iyd_a d s
  | .res_1_iyd_b d => Sys2Proof.Machine.exec_res_1_iyd_b d s
  | .res_1_iyd_c d => Sys2Proof.Machine.exec_res_1_iyd_c d s
  | .res_1_iyd_d d => Sys2Proof.Machine.exec_res_1_iyd_d d s
  | .res_1_iyd_e d => Sys2Proof.Machine.exec_res_1_iyd_e d s
  | .res_1_iyd_h d => Sys2Proof.Machine.exec_res_1_iyd_h d s
  | .res_1_iyd_l d => Sys2Proof.Machine.exec_res_1_iyd_l d s
  | .res_1_iyd d => Sys2Proof.Machine.exec_res_1_iyd d s
  | .res_1_iyd_a d => Sys2Proof.Machine.exec_res_1_iyd_a d s
  | .res_2_iyd_b d => Sys2Proof.Machine.exec_res_2_iyd_b d s
  | .res_2_iyd_c d => Sys2Proof.Machine.exec_res_2_iyd_c d s
  | .res_2_iyd_d d => Sys2Proof.Machine.exec_res_2_iyd_d d s
  | .res_2_iyd_e d => Sys2Proof.Machine.exec_res_2_iyd_e d s
  | .res_2_iyd_h d => Sys2Proof.Machine.exec_res_2_iyd_h d s
  | .res_2_iyd_l d => Sys2Proof.Machine.exec_res_2_iyd_l d s
  | .res_2_iyd d => Sys2Proof.Machine.exec_res_2_iyd d s
  | .res_2_iyd_a d => Sys2Proof.Machine.exec_res_2_iyd_a d s
  | .res_3_iyd_b d => Sys2Proof.Machine.exec_res_3_iyd_b d s
  | .res_3_iyd_c d => Sys2Proof.Machine.exec_res_3_iyd_c d s
  | .res_3_iyd_d d => Sys2Proof.Machine.exec_res_3_iyd_d d s
  | .res_3_iyd_e d => Sys2Proof.Machine.exec_res_3_iyd_e d s
  | .res_3_iyd_h d => Sys2Proof.Machine.exec_res_3_iyd_h d s
  | .res_3_iyd_l d => Sys2Proof.Machine.exec_res_3_iyd_l d s
  | .res_3_iyd d => Sys2Proof.Machine.exec_res_3_iyd d s
  | .res_3_iyd_a d => Sys2Proof.Machine.exec_res_3_iyd_a d s
  | .res_4_iyd_b d => Sys2Proof.Machine.exec_res_4_iyd_b d s
  | .res_4_iyd_c d => Sys2Proof.Machine.exec_res_4_iyd_c d s
  | .res_4_iyd_d d => Sys2Proof.Machine.exec_res_4_iyd_d d s
  | .res_4_iyd_e d => Sys2Proof.Machine.exec_res_4_iyd_e d s
  | .res_4_iyd_h d => Sys2Proof.Machine.exec_res_4_iyd_h d s
  | .res_4_iyd_l d => Sys2Proof.Machine.exec_res_4_iyd_l d s
  | .res_4_iyd d => Sys2Proof.Machine.exec_res_4_iyd d s
  | .res_4_iyd_a d => Sys2Proof.Machine.exec_res_4_iyd_a d s
  | .res_5_iyd_b d => Sys2Proof.Machine.exec_res_5_iyd_b d s
  | .res_5_iyd_c d => Sys2Proof.Machine.exec_res_5_iyd_c d s
  | .res_5_iyd_d d => Sys2Proof.Machine.exec_res_5_iyd_d d s
  | .res_5_iyd_e d => Sys2Proof.Machine.exec_res_5_iyd_e d s
  | .res_5_iyd_h d => Sys2Proof.Machine.exec_res_5_iyd_h d s
  | .res_5_iyd_l d => Sys2Proof.Machine.exec_res_5_iyd_l d s
  | .res_5_iyd d => Sys2Proof.Machine.exec_res_5_iyd d s
  | .res_5_iyd_a d => Sys2Proof.Machine.exec_res_5_iyd_a d s
  | .res_6_iyd_b d => Sys2Proof.Machine.exec_res_6_iyd_b d s
  | .res_6_iyd_c d => Sys2Proof.Machine.exec_res_6_iyd_c d s
  | .res_6_iyd_d d => Sys2Proof.Machine.exec_res_6_iyd_d d s
  | .res_6_iyd_e d => Sys2Proof.Machine.exec_res_6_iyd_e d s
  | .res_6_iyd_h d => Sys2Proof.Machine.exec_res_6_iyd_h d s
  | .res_6_iyd_l d => Sys2Proof.Machine.exec_res_6_iyd_l d s
  | .res_6_iyd d => Sys2Proof.Machine.exec_res_6_iyd d s
  | .res_6_iyd_a d => Sys2Proof.Machine.exec_res_6_iyd_a d s
  | .res_7_iyd_b d => Sys2Proof.Machine.exec_res_7_iyd_b d s
  | .res_7_iyd_c d => Sys2Proof.Machine.exec_res_7_iyd_c d s
  | .res_7_iyd_d d => Sys2Proof.Machine.exec_res_7_iyd_d d s
  | .res_7_iyd_e d => Sys2Proof.Machine.exec_res_7_iyd_e d s
  | .res_7_iyd_h d => Sys2Proof.Machine.exec_res_7_iyd_h d s
  | .res_7_iyd_l d => Sys2Proof.Machine.exec_res_7_iyd_l d s
  | .res_7_iyd d => Sys2Proof.Machine.exec_res_7_iyd d s
  | .res_7_iyd_a d => Sys2Proof.Machine.exec_res_7_iyd_a d s
  | .set_0_iyd_b d => Sys2Proof.Machine.exec_set_0_iyd_b d s
  | .set_0_iyd_c d => Sys2Proof.Machine.exec_set_0_iyd_c d s
  | .set_0_iyd_d d => Sys2Proof.Machine.exec_set_0_iyd_d d s
  | .set_0_iyd_e d => Sys2Proof.Machine.exec_set_0_iyd_e d s
  | .set_0_iyd_h d => Sys2Proof.Machine.exec_set_0_iyd_h d s
  | .set_0_iyd_l d => Sys2Proof.Machine.exec_set_0_iyd_l d s
  | .set_0_iyd d => Sys2Proof.Machine.exec_set_0_iyd d s
  | .set_0_iyd_a d => Sys2Proof.Machine.exec_set_0_iyd_a d s
  | .set_1_iyd_b d => Sys2Proof.Machine.exec_set_1_iyd_b d s
  | .set_1_iyd_c d => Sys2Proof.Machine.exec_set_1_iyd_c d s
  | .set_1_iyd_d d => Sys2Proof.Machine.exec_set_1_iyd_d d s
  | .set_1_iyd_e d => Sys2Proof.Machine.exec_set_1_iyd_e d s
  | .set_1_iyd_h d => Sys2Proof.Machine.exec_set_1_iyd_h d s
  | .set_1_iyd_l d => Sys2Proof.Machine.exec_set_1_iyd_l d s
  | .set_1_iyd d => Sys2Proof.Machine.exec_set_1_iyd d s
  | .set_1_iyd_a d => Sys2Proof.Machine.exec_set_1_iyd_a d s
  | .set_2_iyd_b d => Sys2Proof.Machine.exec_set_2_iyd_b d s
  | .set_2_iyd_c d => Sys2Proof.Machine.exec_set_2_iyd_c d s
  | .set_2_iyd_d d => Sys2Proof.Machine.exec_set_2_iyd_d d s
  | .set_2_iyd_e d => Sys2Proof.Machine.exec_set_2_iyd_e d s
  | .set_2_iyd_h d => Sys2Proof.Machine.exec_set_2_iyd_h d s
  | .set_2_iyd_l d => Sys2Proof.Machine.exec_set_2_iyd_l d s
  | .set_2_iyd d => Sys2Proof.Machine.exec_set_2_iyd d s
  | .set_2_iyd_a d => Sys2Proof.Machine.exec_set_2_iyd_a d s
  | .set_3_iyd_b d => Sys2Proof.Machine.exec_set_3_iyd_b d s
  | .set_3_iyd_c d => Sys2Proof.Machine.exec_set_3_iyd_c d s
  | .set_3_iyd_d d => Sys2Proof.Machine.exec_set_3_iyd_d d s
  | .set_3_iyd_e d => Sys2Proof.Machine.exec_set_3_iyd_e d s
  | .set_3_iyd_h d => Sys2Proof.Machine.exec_set_3_iyd_h d s
  | .set_3_iyd_l d => Sys2Proof.Machine.exec_set_3_iyd_l d s
  | .set_3_iyd d => Sys2Proof.Machine.exec_set_3_iyd d s
  | .set_3_iyd_a d => Sys2Proof.Machine.exec_set_3_iyd_a d s
  | .set_4_iyd_b d => Sys2Proof.Machine.exec_set_4_iyd_b d s
  | .set_4_iyd_c d => Sys2Proof.Machine.exec_set_4_iyd_c d s
  | .set_4_iyd_d d => Sys2Proof.Machine.exec_set_4_iyd_d d s
  | .set_4_iyd_e d => Sys2Proof.Machine.exec_set_4_iyd_e d s
  | .set_4_iyd_h d => Sys2Proof.Machine.exec_set_4_iyd_h d s
  | .set_4_iyd_l d => Sys2Proof.Machine.exec_set_4_iyd_l d s
  | .set_4_iyd d => Sys2Proof.Machine.exec_set_4_iyd d s
  | .set_4_iyd_a d => Sys2Proof.Machine.exec_set_4_iyd_a d s
  | .set_5_iyd_b d => Sys2Proof.Machine.exec_set_5_iyd_b d s
  | .set_5_iyd_c d => Sys2Proof.Machine.exec_set_5_iyd_c d s
  | .set_5_iyd_d d => Sys2Proof.Machine.exec_set_5_iyd_d d s
  | .set_5_iyd_e d => Sys2Proof.Machine.exec_set_5_iyd_e d s
  | .set_5_iyd_h d => Sys2Proof.Machine.exec_set_5_iyd_h d s
  | .set_5_iyd_l d => Sys2Proof.Machine.exec_set_5_iyd_l d s
  | .set_5_iyd d => Sys2Proof.Machine.exec_set_5_iyd d s
  | .set_5_iyd_a d => Sys2Proof.Machine.exec_set_5_iyd_a d s
  | .set_6_iyd_b d => Sys2Proof.Machine.exec_set_6_iyd_b d s
  | .set_6_iyd_c d => Sys2Proof.Machine.exec_set_6_iyd_c d s
  | .set_6_iyd_d d => Sys2Proof.Machine.exec_set_6_iyd_d d s
  | .set_6_iyd_e d => Sys2Proof.Machine.exec_set_6_iyd_e d s
  | .set_6_iyd_h d => Sys2Proof.Machine.exec_set_6_iyd_h d s
  | .set_6_iyd_l d => Sys2Proof.Machine.exec_set_6_iyd_l d s
  | .set_6_iyd d => Sys2Proof.Machine.exec_set_6_iyd d s
  | .set_6_iyd_a d => Sys2Proof.Machine.exec_set_6_iyd_a d s
  | .set_7_iyd_b d => Sys2Proof.Machine.exec_set_7_iyd_b d s
  | .set_7_iyd_c d => Sys2Proof.Machine.exec_set_7_iyd_c d s
  | .set_7_iyd_d d => Sys2Proof.Machine.exec_set_7_iyd_d d s
  | .set_7_iyd_e d => Sys2Proof.Machine.exec_set_7_iyd_e d s
  | .set_7_iyd_h d => Sys2Proof.Machine.exec_set_7_iyd_h d s
  | .set_7_iyd_l d => Sys2Proof.Machine.exec_set_7_iyd_l d s
  | .set_7_iyd d => Sys2Proof.Machine.exec_set_7_iyd d s
  | .set_7_iyd_a d => Sys2Proof.Machine.exec_set_7_iyd_a d s

end Sys2Proof.Machine
end

