-- ==== Sys2Proof/Machine/Engine.lean ====
section
/-! DEFINITION. The parts of an engine step (spec/40_engine.md R150 to R164): fetch and index formation, the
refresh update, the action, the skip-flag clear, the interrupt controller, and the halted step. -/

namespace Sys2Proof.Machine

/-- The entry the byte at PC and the two after it select under the latched prefix (R152, R154, R89). The
reads have no effect, so three bytes are read whatever the entry's length (log entry 3). -/
noncomputable def State.fetch (undoc : Bool) (s : State) : Decoded Instr :=
  decodeStep undoc s.pfx (s.memRead s.pc) (s.memRead (s.pc + 1)) (s.memRead (s.pc + 2))

/-- What the refresh register gains from `i` (R156): 0 for a bare prefix, 2 for an index above 0xFF,
else 1. -/
def refreshStep (i : Instr) : BitVec 7 :=
  match i.desc.category with
  | .bare => 0
  | .enableInterrupts => if 0xFF < i.desc.index then 2 else 1
  | .normal => if 0xFF < i.desc.index then 2 else 1

/-- The state an action starts from: the prefix latch is consumed (R152) and R is updated (R156). -/
def State.beforeAction (s : State) (i : Instr) : State :=
  { s with pfx := none, r := incR (refreshStep i) s.r }

/-- What follows an action (R158, R159): after a `Normal` instruction the skip flag is cleared, then the
controller runs; after EI only the controller runs; after a bare prefix neither. -/
def State.afterAction (s : State) (i : Instr) : State :=
  match i.desc.category with
  | .bare => s
  | .enableInterrupts => s.interruptController
  | .normal => ({ s with skipInt := false }).interruptController

/-- A halted step: the controller, then the NOP action's `Q <- 0` (R151; log entry 15). -/
def State.haltedStep (s : State) : State := { s.interruptController with q := 0 }

/-- A running step on the decoded entry `i`. -/
def runInstruction (i : Instr) (s : State) : Result :=
  match exec i (s.beforeAction i) with
  | .next t => .next (t.afterAction i)
  | .fault e => .fault e
  | .refused e => .refused e

/-- One engine step when `UNDOC_REGISTERED` is `undoc` (R161). A core whose fault latch is set has no
step (R501, log entry 13). The code generator runs `stepForms` of Machine/Compiled.lean, proved equal to
it (log entry 18). -/
noncomputable def stepWith (undoc : Bool) (s : State) : Result :=
  match s.fault with
  | some idx => .fault (.unimplementedOpcode idx)
  | none =>
    if s.halted then .next s.haltedStep
    else
      match s.fetch undoc with
      | .absent idx => .next (s.raiseUnimplemented idx)
      | .ok i => runInstruction i s

/-- `bytes` written at consecutive addresses from `addr`, modulo 65,536. -/
def State.placeBytes (s : State) (addr : Word) : List Byte → State
  | [] => s
  | v :: rest => (s.memWrite addr v).placeBytes (addr + 1) rest

/-- The four bytes of `w` placed at PC, and the prefix step of a prefixed instruction done. -/
def placeInstruction (s : State) (nbits w : Nat) : State :=
  let b := tableByte nbits w
  let placed := s.placeBytes s.pc [b 0, b 1, b 2, b 3]
  let p := if nbits ≤ 8 then none else Pfx.ofByte (b 0)
  { placed with
    pfx := p
    pc := if p.isSome then s.pc + 1 else s.pc
    halted := false
    fault := none }

end Sys2Proof.Machine
end

