-- ==== Sys2Proof/Machine/Compiled.lean ====
section
/-! DEFINITION. The engine step by forms, which Lean's code generator can compile (see
Machine/Families.lean), with the proof that it is `stepWith`. A form's meaning is the same shared
operation that its rows' meanings call. -/

namespace Sys2Proof

open Machine

/-- The meaning of a form. -/
def Form.exec (f : Form) (s : State) : Result :=
  match f with
  | .ldRR dst src => loadRegReg dst src s
  | .ldRN r n => loadRegImm r n s
  | .ldRHl r => loadRegHl r s
  | .ldRXy r xy d => loadRegIdx r xy d s
  | .ldHlR r => storeHlReg r s
  | .ldXyR xy d r => storeIdxReg xy d r s
  | .ldXyN xy d n => storeIdxImm xy d n s
  | .ldPlainHalf r xy h => loadPlainHalf r xy h s
  | .ldHalfPlain xy h r => loadHalfPlain xy h r s
  | .ldHalfHalf xy h k => loadHalfHalf xy h k s
  | .ldHalfN xy h n => loadHalfImm xy h n s
  | .ldPairNn p nn => loadPairImm p nn s
  | .ldXyNn xy nn => loadXyImm xy nn s
  | .ldPairMnn p nn => loadPairDirect p nn s
  | .ldXyMnn xy nn => loadXyDirect xy nn s
  | .ldMnnPair nn p => storePairDirect nn p s
  | .ldMnnXy nn xy => storeXyDirect nn xy s
  | .ldSpXy xy => loadSpXy xy s
  | .exSpXy xy => exchangeStackXy xy s
  | .alu op src => aluAccumulator op src s
  | .inc8 dst => increment8 dst s
  | .dec8 dst => decrement8 dst s
  | .addHl p => addHlPair p s
  | .addXy xy p => addXyPair xy p s
  | .adcHl p => adcHlPair p s
  | .sbcHl p => sbcHlPair p s
  | .incPair p => incrementPair p s
  | .decPair p => decrementPair p s
  | .incXy xy => incrementXy xy s
  | .decXy xy => decrementXy xy s
  | .negRow y => negate y s
  | .rot op m => rotateShift op m s
  | .bit b m => bitTest b m s
  | .res b m => bitReset b m s
  | .set b m => bitSet b m s
  | .ldStep dir => blockLoadOnce dir s
  | .ldRep dir => blockLoadRepeat dir s
  | .cpStep dir => blockCompareOnce dir s
  | .cpRep dir => blockCompareRepeat dir s
  | .inStep dir => blockInOnce dir s
  | .inRep dir => blockInRepeat dir s
  | .outStep dir => blockOutOnce dir s
  | .outRep dir => blockOutRepeat dir s
  | .jpCc cc nn => jumpIf cc nn s
  | .jrCc cc e => jumpRelativeIf cc e s
  | .jpXy xy => jumpXy xy s
  | .callCc cc nn => callIf cc nn s
  | .retCc cc => returnIf cc s
  | .retRow y => returnFromHandler y s
  | .rst p => restart p s
  | .push q => pushPair q s
  | .pop q => popPair q s
  | .pushXy xy => pushXyReg xy s
  | .popXy xy => popXyReg xy s
  | .inR r => inRegC r s
  | .outR r => outCReg r s
  | .imRow y => interruptMode y s
  | .prefixOf p => latchPrefix p s
  | .nop => noOperation s
  | .ld_mbc_a => storeABc s
  | .rlca => rotateALeft s
  | .ex_af_afAlt => exchangeAf s
  | .ld_a_mbc => loadABc s
  | .rrca => rotateARight s
  | .djnz_e e => decrementJump e s
  | .ld_mde_a => storeADe s
  | .rla => rotateALeftCarry s
  | .jr_e e => jumpRelative e s
  | .ld_a_mde => loadADe s
  | .rra => rotateARightCarry s
  | .ld_mnn_hl nn => storeHlDirect nn s
  | .daa => decimalAdjust s
  | .ld_hl_mnn nn => loadHlDirect nn s
  | .cpl => complementA s
  | .ld_mnn_a nn => storeADirect nn s
  | .ld_mhl_n n => storeHlImm n s
  | .scf => setCarry s
  | .ld_a_mnn nn => loadADirect nn s
  | .ccf => complementCarry s
  | .halt => haltCore s
  | .jp_nn nn => jumpTo nn s
  | .ret => returnAlways s
  | .call_nn nn => callTo nn s
  | .out_portN_a n => outPortA n s
  | .exx => exchangeBanks s
  | .in_a_portN n => inAPort n s
  | .ex_msp_hl => exchangeStackHl s
  | .jp_hl => jumpHl s
  | .ex_de_hl => exchangeDeHl s
  | .di => disableInterrupts s
  | .ld_sp_hl => loadSpHl s
  | .ei => enableInterrupts s
  | .ld_i_a => loadIA s
  | .ld_r_a => loadRA s
  | .ld_a_i => loadAI s
  | .ld_a_r => loadAR s
  | .rrd => rotateDigitRight s
  | .rld => rotateDigitLeft s
  | .in_portC => inFlagsC s
  | .out_portC_0 => outCZero s

/-- The category of a form's descriptor (R112). -/
def Form.category (f : Form) : Category :=
  match f with
  | .prefixOf _ => .bare
  | .ei => .enableInterrupts
  | _ => .normal

/-- Whether a form's index is above 0xFF: its opcode follows a prefix (R111). -/
def Form.prefixed (f : Form) : Bool :=
  match f with
  | .ldRXy _ _ _ => true
  | .ldXyR _ _ _ => true
  | .ldXyN _ _ _ => true
  | .ldPlainHalf _ _ _ => true
  | .ldHalfPlain _ _ _ => true
  | .ldHalfHalf _ _ _ => true
  | .ldHalfN _ _ _ => true
  | .ldXyNn _ _ => true
  | .ldPairMnn _ _ => true
  | .ldXyMnn _ _ => true
  | .ldMnnPair _ _ => true
  | .ldMnnXy _ _ => true
  | .ldSpXy _ => true
  | .exSpXy _ => true
  | .alu _ (.idx _ _) => true
  | .alu _ (.half _ _) => true
  | .inc8 (.idx _ _) => true
  | .inc8 (.half _ _) => true
  | .dec8 (.idx _ _) => true
  | .dec8 (.half _ _) => true
  | .addXy _ _ => true
  | .adcHl _ => true
  | .sbcHl _ => true
  | .incXy _ => true
  | .decXy _ => true
  | .negRow _ => true
  | .rot _ _ => true
  | .bit _ _ => true
  | .res _ _ => true
  | .set _ _ => true
  | .ldStep _ => true
  | .ldRep _ => true
  | .cpStep _ => true
  | .cpRep _ => true
  | .inStep _ => true
  | .inRep _ => true
  | .outStep _ => true
  | .outRep _ => true
  | .jpXy _ => true
  | .retRow _ => true
  | .pushXy _ => true
  | .popXy _ => true
  | .inR _ => true
  | .outR _ => true
  | .imRow _ => true
  | .ld_i_a => true
  | .ld_r_a => true
  | .ld_a_i => true
  | .ld_a_r => true
  | .rrd => true
  | .rld => true
  | .in_portC => true
  | .out_portC_0 => true
  | _ => false

/-- What R gains (R156). -/
def Form.refresh (f : Form) : BitVec 7 :=
  match f.category with
  | .bare => 0
  | _ => if f.prefixed then 2 else 1

/-- The form says of its row what the row's descriptor and meaning say. -/
structure Form.Agrees (f : Form) : Prop where
  exec : Machine.exec f.instr = f.exec
  category : f.instr.desc.category = f.category
  refresh : refreshStep f.instr = f.refresh
  always : f.instr.desc.always = f.always

theorem agrees_ldRR (dst : R8) (src : R8) : Form.Agrees (.ldRR dst src) := by
  cases dst <;> cases src <;> exact ⟨rfl, rfl, rfl, rfl⟩

theorem agrees_ldRN (r : R8) (n : Byte) : Form.Agrees (.ldRN r n) := by
  cases r <;> exact ⟨rfl, rfl, rfl, rfl⟩

theorem agrees_ldRHl (r : R8) : Form.Agrees (.ldRHl r) := by
  cases r <;> exact ⟨rfl, rfl, rfl, rfl⟩

theorem agrees_ldRXy (r : R8) (xy : Xy) (d : Byte) : Form.Agrees (.ldRXy r xy d) := by
  cases r <;> cases xy <;> exact ⟨rfl, rfl, rfl, rfl⟩

theorem agrees_ldHlR (r : R8) : Form.Agrees (.ldHlR r) := by
  cases r <;> exact ⟨rfl, rfl, rfl, rfl⟩

theorem agrees_ldXyR (xy : Xy) (d : Byte) (r : R8) : Form.Agrees (.ldXyR xy d r) := by
  cases xy <;> cases r <;> exact ⟨rfl, rfl, rfl, rfl⟩

theorem agrees_ldXyN (xy : Xy) (d : Byte) (n : Byte) : Form.Agrees (.ldXyN xy d n) := by
  cases xy <;> exact ⟨rfl, rfl, rfl, rfl⟩

theorem agrees_ldPlainHalf (r : Plain) (xy : Xy) (h : Half) : Form.Agrees (.ldPlainHalf r xy h) := by
  cases r <;> cases xy <;> cases h <;> exact ⟨rfl, rfl, rfl, rfl⟩

theorem agrees_ldHalfPlain (xy : Xy) (h : Half) (r : Plain) : Form.Agrees (.ldHalfPlain xy h r) := by
  cases xy <;> cases h <;> cases r <;> exact ⟨rfl, rfl, rfl, rfl⟩

theorem agrees_ldHalfHalf (xy : Xy) (h : Half) (k : Half) : Form.Agrees (.ldHalfHalf xy h k) := by
  cases xy <;> cases h <;> cases k <;> exact ⟨rfl, rfl, rfl, rfl⟩

theorem agrees_ldHalfN (xy : Xy) (h : Half) (n : Byte) : Form.Agrees (.ldHalfN xy h n) := by
  cases xy <;> cases h <;> exact ⟨rfl, rfl, rfl, rfl⟩

theorem agrees_ldPairNn (p : Pair) (nn : Word) : Form.Agrees (.ldPairNn p nn) := by
  cases p <;> exact ⟨rfl, rfl, rfl, rfl⟩

theorem agrees_ldXyNn (xy : Xy) (nn : Word) : Form.Agrees (.ldXyNn xy nn) := by
  cases xy <;> exact ⟨rfl, rfl, rfl, rfl⟩

theorem agrees_ldPairMnn (p : Pair) (nn : Word) : Form.Agrees (.ldPairMnn p nn) := by
  cases p <;> exact ⟨rfl, rfl, rfl, rfl⟩

theorem agrees_ldXyMnn (xy : Xy) (nn : Word) : Form.Agrees (.ldXyMnn xy nn) := by
  cases xy <;> exact ⟨rfl, rfl, rfl, rfl⟩

theorem agrees_ldMnnPair (nn : Word) (p : Pair) : Form.Agrees (.ldMnnPair nn p) := by
  cases p <;> exact ⟨rfl, rfl, rfl, rfl⟩

theorem agrees_ldMnnXy (nn : Word) (xy : Xy) : Form.Agrees (.ldMnnXy nn xy) := by
  cases xy <;> exact ⟨rfl, rfl, rfl, rfl⟩

theorem agrees_ldSpXy (xy : Xy) : Form.Agrees (.ldSpXy xy) := by
  cases xy <;> exact ⟨rfl, rfl, rfl, rfl⟩

theorem agrees_exSpXy (xy : Xy) : Form.Agrees (.exSpXy xy) := by
  cases xy <;> exact ⟨rfl, rfl, rfl, rfl⟩

theorem agrees_alu (op : AluOp) (src : Src8) : Form.Agrees (.alu op src) := by
  cases src with
  | r r => cases r <;> cases op <;> exact ⟨rfl, rfl, rfl, rfl⟩
  | n m => cases op <;> exact ⟨rfl, rfl, rfl, rfl⟩
  | hl => cases op <;> exact ⟨rfl, rfl, rfl, rfl⟩
  | idx xy d => cases xy <;> cases op <;> exact ⟨rfl, rfl, rfl, rfl⟩
  | half xy h => cases xy <;> cases h <;> cases op <;> exact ⟨rfl, rfl, rfl, rfl⟩

theorem agrees_inc8 (dst : Dst8) : Form.Agrees (.inc8 dst) := by
  cases dst with
  | r r => cases r <;> exact ⟨rfl, rfl, rfl, rfl⟩
  | hl => exact ⟨rfl, rfl, rfl, rfl⟩
  | idx xy d => cases xy <;> exact ⟨rfl, rfl, rfl, rfl⟩
  | half xy h => cases xy <;> cases h <;> exact ⟨rfl, rfl, rfl, rfl⟩

theorem agrees_dec8 (dst : Dst8) : Form.Agrees (.dec8 dst) := by
  cases dst with
  | r r => cases r <;> exact ⟨rfl, rfl, rfl, rfl⟩
  | hl => exact ⟨rfl, rfl, rfl, rfl⟩
  | idx xy d => cases xy <;> exact ⟨rfl, rfl, rfl, rfl⟩
  | half xy h => cases xy <;> cases h <;> exact ⟨rfl, rfl, rfl, rfl⟩

theorem agrees_addHl (p : Pair) : Form.Agrees (.addHl p) := by
  cases p <;> exact ⟨rfl, rfl, rfl, rfl⟩

theorem agrees_addXy (xy : Xy) (p : AddPair) : Form.Agrees (.addXy xy p) := by
  cases xy <;> cases p <;> exact ⟨rfl, rfl, rfl, rfl⟩

theorem agrees_adcHl (p : Pair) : Form.Agrees (.adcHl p) := by
  cases p <;> exact ⟨rfl, rfl, rfl, rfl⟩

theorem agrees_sbcHl (p : Pair) : Form.Agrees (.sbcHl p) := by
  cases p <;> exact ⟨rfl, rfl, rfl, rfl⟩

theorem agrees_incPair (p : Pair) : Form.Agrees (.incPair p) := by
  cases p <;> exact ⟨rfl, rfl, rfl, rfl⟩

theorem agrees_decPair (p : Pair) : Form.Agrees (.decPair p) := by
  cases p <;> exact ⟨rfl, rfl, rfl, rfl⟩

theorem agrees_incXy (xy : Xy) : Form.Agrees (.incXy xy) := by
  cases xy <;> exact ⟨rfl, rfl, rfl, rfl⟩

theorem agrees_decXy (xy : Xy) : Form.Agrees (.decXy xy) := by
  cases xy <;> exact ⟨rfl, rfl, rfl, rfl⟩

theorem agrees_negRow (y : BitNo) : Form.Agrees (.negRow y) := by
  cases y <;> exact ⟨rfl, rfl, rfl, rfl⟩

theorem agrees_rot (op : RotOp) (m : M8) : Form.Agrees (.rot op m) := by
  cases m with
  | r r => cases r <;> cases op <;> exact ⟨rfl, rfl, rfl, rfl⟩
  | hl => cases op <;> exact ⟨rfl, rfl, rfl, rfl⟩
  | idx xy d => cases xy <;> cases op <;> exact ⟨rfl, rfl, rfl, rfl⟩
  | idxCopy xy d r => cases xy <;> cases r <;> cases op <;> exact ⟨rfl, rfl, rfl, rfl⟩

theorem agrees_bit (b : BitNo) (m : M8) : Form.Agrees (.bit b m) := by
  cases m with
  | r r => cases r <;> cases b <;> exact ⟨rfl, rfl, rfl, rfl⟩
  | hl => cases b <;> exact ⟨rfl, rfl, rfl, rfl⟩
  | idx xy d => cases xy <;> cases b <;> exact ⟨rfl, rfl, rfl, rfl⟩
  | idxCopy xy d r => cases xy <;> cases r <;> cases b <;> exact ⟨rfl, rfl, rfl, rfl⟩

theorem agrees_res (b : BitNo) (m : M8) : Form.Agrees (.res b m) := by
  cases m with
  | r r => cases r <;> cases b <;> exact ⟨rfl, rfl, rfl, rfl⟩
  | hl => cases b <;> exact ⟨rfl, rfl, rfl, rfl⟩
  | idx xy d => cases xy <;> cases b <;> exact ⟨rfl, rfl, rfl, rfl⟩
  | idxCopy xy d r => cases xy <;> cases r <;> cases b <;> exact ⟨rfl, rfl, rfl, rfl⟩

theorem agrees_set (b : BitNo) (m : M8) : Form.Agrees (.set b m) := by
  cases m with
  | r r => cases r <;> cases b <;> exact ⟨rfl, rfl, rfl, rfl⟩
  | hl => cases b <;> exact ⟨rfl, rfl, rfl, rfl⟩
  | idx xy d => cases xy <;> cases b <;> exact ⟨rfl, rfl, rfl, rfl⟩
  | idxCopy xy d r => cases xy <;> cases r <;> cases b <;> exact ⟨rfl, rfl, rfl, rfl⟩

theorem agrees_ldStep (dir : Dir) : Form.Agrees (.ldStep dir) := by
  cases dir <;> exact ⟨rfl, rfl, rfl, rfl⟩

theorem agrees_ldRep (dir : Dir) : Form.Agrees (.ldRep dir) := by
  cases dir <;> exact ⟨rfl, rfl, rfl, rfl⟩

theorem agrees_cpStep (dir : Dir) : Form.Agrees (.cpStep dir) := by
  cases dir <;> exact ⟨rfl, rfl, rfl, rfl⟩

theorem agrees_cpRep (dir : Dir) : Form.Agrees (.cpRep dir) := by
  cases dir <;> exact ⟨rfl, rfl, rfl, rfl⟩

theorem agrees_inStep (dir : Dir) : Form.Agrees (.inStep dir) := by
  cases dir <;> exact ⟨rfl, rfl, rfl, rfl⟩

theorem agrees_inRep (dir : Dir) : Form.Agrees (.inRep dir) := by
  cases dir <;> exact ⟨rfl, rfl, rfl, rfl⟩

theorem agrees_outStep (dir : Dir) : Form.Agrees (.outStep dir) := by
  cases dir <;> exact ⟨rfl, rfl, rfl, rfl⟩

theorem agrees_outRep (dir : Dir) : Form.Agrees (.outRep dir) := by
  cases dir <;> exact ⟨rfl, rfl, rfl, rfl⟩

theorem agrees_jpCc (cc : Cond) (nn : Word) : Form.Agrees (.jpCc cc nn) := by
  cases cc <;> exact ⟨rfl, rfl, rfl, rfl⟩

theorem agrees_jrCc (cc : JrCond) (e : Byte) : Form.Agrees (.jrCc cc e) := by
  cases cc <;> exact ⟨rfl, rfl, rfl, rfl⟩

theorem agrees_jpXy (xy : Xy) : Form.Agrees (.jpXy xy) := by
  cases xy <;> exact ⟨rfl, rfl, rfl, rfl⟩

theorem agrees_callCc (cc : Cond) (nn : Word) : Form.Agrees (.callCc cc nn) := by
  cases cc <;> exact ⟨rfl, rfl, rfl, rfl⟩

theorem agrees_retCc (cc : Cond) : Form.Agrees (.retCc cc) := by
  cases cc <;> exact ⟨rfl, rfl, rfl, rfl⟩

theorem agrees_retRow (y : BitNo) : Form.Agrees (.retRow y) := by
  cases y <;> exact ⟨rfl, rfl, rfl, rfl⟩

theorem agrees_rst (p : Rst) : Form.Agrees (.rst p) := by
  cases p <;> exact ⟨rfl, rfl, rfl, rfl⟩

theorem agrees_push (q : Pair2) : Form.Agrees (.push q) := by
  cases q <;> exact ⟨rfl, rfl, rfl, rfl⟩

theorem agrees_pop (q : Pair2) : Form.Agrees (.pop q) := by
  cases q <;> exact ⟨rfl, rfl, rfl, rfl⟩

theorem agrees_pushXy (xy : Xy) : Form.Agrees (.pushXy xy) := by
  cases xy <;> exact ⟨rfl, rfl, rfl, rfl⟩

theorem agrees_popXy (xy : Xy) : Form.Agrees (.popXy xy) := by
  cases xy <;> exact ⟨rfl, rfl, rfl, rfl⟩

theorem agrees_inR (r : R8) : Form.Agrees (.inR r) := by
  cases r <;> exact ⟨rfl, rfl, rfl, rfl⟩

theorem agrees_outR (r : R8) : Form.Agrees (.outR r) := by
  cases r <;> exact ⟨rfl, rfl, rfl, rfl⟩

theorem agrees_imRow (y : BitNo) : Form.Agrees (.imRow y) := by
  cases y <;> exact ⟨rfl, rfl, rfl, rfl⟩

theorem agrees_prefixOf (p : Pfx) : Form.Agrees (.prefixOf p) := by
  cases p <;> exact ⟨rfl, rfl, rfl, rfl⟩

/-- The form agrees with the row, for every form. -/
theorem agrees (f : Form) : f.Agrees := by
  cases f with
  | ldRR dst src => exact agrees_ldRR dst src
  | ldRN r n => exact agrees_ldRN r n
  | ldRHl r => exact agrees_ldRHl r
  | ldRXy r xy d => exact agrees_ldRXy r xy d
  | ldHlR r => exact agrees_ldHlR r
  | ldXyR xy d r => exact agrees_ldXyR xy d r
  | ldXyN xy d n => exact agrees_ldXyN xy d n
  | ldPlainHalf r xy h => exact agrees_ldPlainHalf r xy h
  | ldHalfPlain xy h r => exact agrees_ldHalfPlain xy h r
  | ldHalfHalf xy h k => exact agrees_ldHalfHalf xy h k
  | ldHalfN xy h n => exact agrees_ldHalfN xy h n
  | ldPairNn p nn => exact agrees_ldPairNn p nn
  | ldXyNn xy nn => exact agrees_ldXyNn xy nn
  | ldPairMnn p nn => exact agrees_ldPairMnn p nn
  | ldXyMnn xy nn => exact agrees_ldXyMnn xy nn
  | ldMnnPair nn p => exact agrees_ldMnnPair nn p
  | ldMnnXy nn xy => exact agrees_ldMnnXy nn xy
  | ldSpXy xy => exact agrees_ldSpXy xy
  | exSpXy xy => exact agrees_exSpXy xy
  | alu op src => exact agrees_alu op src
  | inc8 dst => exact agrees_inc8 dst
  | dec8 dst => exact agrees_dec8 dst
  | addHl p => exact agrees_addHl p
  | addXy xy p => exact agrees_addXy xy p
  | adcHl p => exact agrees_adcHl p
  | sbcHl p => exact agrees_sbcHl p
  | incPair p => exact agrees_incPair p
  | decPair p => exact agrees_decPair p
  | incXy xy => exact agrees_incXy xy
  | decXy xy => exact agrees_decXy xy
  | negRow y => exact agrees_negRow y
  | rot op m => exact agrees_rot op m
  | bit b m => exact agrees_bit b m
  | res b m => exact agrees_res b m
  | set b m => exact agrees_set b m
  | ldStep dir => exact agrees_ldStep dir
  | ldRep dir => exact agrees_ldRep dir
  | cpStep dir => exact agrees_cpStep dir
  | cpRep dir => exact agrees_cpRep dir
  | inStep dir => exact agrees_inStep dir
  | inRep dir => exact agrees_inRep dir
  | outStep dir => exact agrees_outStep dir
  | outRep dir => exact agrees_outRep dir
  | jpCc cc nn => exact agrees_jpCc cc nn
  | jrCc cc e => exact agrees_jrCc cc e
  | jpXy xy => exact agrees_jpXy xy
  | callCc cc nn => exact agrees_callCc cc nn
  | retCc cc => exact agrees_retCc cc
  | retRow y => exact agrees_retRow y
  | rst p => exact agrees_rst p
  | push q => exact agrees_push q
  | pop q => exact agrees_pop q
  | pushXy xy => exact agrees_pushXy xy
  | popXy xy => exact agrees_popXy xy
  | inR r => exact agrees_inR r
  | outR r => exact agrees_outR r
  | imRow y => exact agrees_imRow y
  | prefixOf p => exact agrees_prefixOf p
  | nop => exact ⟨rfl, rfl, rfl, rfl⟩
  | ld_mbc_a => exact ⟨rfl, rfl, rfl, rfl⟩
  | rlca => exact ⟨rfl, rfl, rfl, rfl⟩
  | ex_af_afAlt => exact ⟨rfl, rfl, rfl, rfl⟩
  | ld_a_mbc => exact ⟨rfl, rfl, rfl, rfl⟩
  | rrca => exact ⟨rfl, rfl, rfl, rfl⟩
  | djnz_e e => exact ⟨rfl, rfl, rfl, rfl⟩
  | ld_mde_a => exact ⟨rfl, rfl, rfl, rfl⟩
  | rla => exact ⟨rfl, rfl, rfl, rfl⟩
  | jr_e e => exact ⟨rfl, rfl, rfl, rfl⟩
  | ld_a_mde => exact ⟨rfl, rfl, rfl, rfl⟩
  | rra => exact ⟨rfl, rfl, rfl, rfl⟩
  | ld_mnn_hl nn => exact ⟨rfl, rfl, rfl, rfl⟩
  | daa => exact ⟨rfl, rfl, rfl, rfl⟩
  | ld_hl_mnn nn => exact ⟨rfl, rfl, rfl, rfl⟩
  | cpl => exact ⟨rfl, rfl, rfl, rfl⟩
  | ld_mnn_a nn => exact ⟨rfl, rfl, rfl, rfl⟩
  | ld_mhl_n n => exact ⟨rfl, rfl, rfl, rfl⟩
  | scf => exact ⟨rfl, rfl, rfl, rfl⟩
  | ld_a_mnn nn => exact ⟨rfl, rfl, rfl, rfl⟩
  | ccf => exact ⟨rfl, rfl, rfl, rfl⟩
  | halt => exact ⟨rfl, rfl, rfl, rfl⟩
  | jp_nn nn => exact ⟨rfl, rfl, rfl, rfl⟩
  | ret => exact ⟨rfl, rfl, rfl, rfl⟩
  | call_nn nn => exact ⟨rfl, rfl, rfl, rfl⟩
  | out_portN_a n => exact ⟨rfl, rfl, rfl, rfl⟩
  | exx => exact ⟨rfl, rfl, rfl, rfl⟩
  | in_a_portN n => exact ⟨rfl, rfl, rfl, rfl⟩
  | ex_msp_hl => exact ⟨rfl, rfl, rfl, rfl⟩
  | jp_hl => exact ⟨rfl, rfl, rfl, rfl⟩
  | ex_de_hl => exact ⟨rfl, rfl, rfl, rfl⟩
  | di => exact ⟨rfl, rfl, rfl, rfl⟩
  | ld_sp_hl => exact ⟨rfl, rfl, rfl, rfl⟩
  | ei => exact ⟨rfl, rfl, rfl, rfl⟩
  | ld_i_a => exact ⟨rfl, rfl, rfl, rfl⟩
  | ld_r_a => exact ⟨rfl, rfl, rfl, rfl⟩
  | ld_a_i => exact ⟨rfl, rfl, rfl, rfl⟩
  | ld_a_r => exact ⟨rfl, rfl, rfl, rfl⟩
  | rrd => exact ⟨rfl, rfl, rfl, rfl⟩
  | rld => exact ⟨rfl, rfl, rfl, rfl⟩
  | in_portC => exact ⟨rfl, rfl, rfl, rfl⟩
  | out_portC_0 => exact ⟨rfl, rfl, rfl, rfl⟩

/-- A running step on a form. -/
def runForm (f : Form) (s : State) : Result :=
  match f.exec { s with pfx := none, r := incR f.refresh s.r } with
  | .next t =>
    .next (match f.category with
      | .bare => t
      | .enableInterrupts => t.interruptController
      | .normal => ({ t with skipInt := false }).interruptController)
  | .fault e => .fault e
  | .refused e => .refused e

theorem runInstruction_instr (f : Form) (s : State) : runInstruction f.instr s = runForm f s := by
  obtain ⟨he, hc, hr, -⟩ := agrees f
  simp only [runInstruction, runForm, State.beforeAction, State.afterAction, he, hr, hc]
  rfl

/-- The engine step, compilable. -/
def stepForms (undoc : Bool) (s : State) : Result :=
  match s.fault with
  | some idx => .fault (.unimplementedOpcode idx)
  | none =>
    if s.halted then .next s.haltedStep
    else
      match decodeForm undoc s.pfx (s.memRead s.pc) (s.memRead (s.pc + 1)) (s.memRead (s.pc + 2)) with
      | .absent idx => .next (s.raiseUnimplemented idx)
      | .ok f => runForm f s

/-- The compiled step is the engine step. -/
@[csimp] theorem stepWith_eq_stepForms : @stepWith = @stepForms := by
  funext undoc s
  unfold stepWith stepForms State.fetch decodeStep
  cases s.fault with
  | some idx => rfl
  | none =>
    dsimp only
    cases decodeForm undoc s.pfx (s.memRead s.pc) (s.memRead (s.pc + 1)) (s.memRead (s.pc + 2)) with
    | ok f => simp only [runInstruction_instr]
    | absent idx => rfl

end Sys2Proof
end

