-- ==== Sys2Proof/Machine/Step.lean ====
section
/-! DEFINITION. One engine step (spec/40_engine.md R161), at the machine's value of `UNDOC_REGISTERED`. What it
is made of is in Machine/Engine.lean. -/

namespace Sys2Proof.Machine

/-- One engine step (R161). -/
def step (s : State) : Host.Outcome State Fault Refusal := stepWith Config.undocRegistered s

/-- `s` with the instruction of `w` (`nbits` bits, byte 0 least significant, bits above `nbits` zero)
stored at PC so that the very next step runs it. A prefixed instruction takes two steps (R150, R153);
for it the state is the one its bare-prefix step leaves: the prefix latched and PC at the byte after
it (log entry 10). -/
def State.withFetchWord (s : State) (nbits w : Nat) : State := placeInstruction s nbits w

end Sys2Proof.Machine
end

