-- ==== Sys2Proof/Machine/Platform.lean ====
section
/-! DEFINITION. What the caller and the platform may do between two engine steps (spec/40_engine.md R150,
R166; spec/10_state.md R49, R58; spec/70_reset_and_hazards.md R550). `step` never makes one of these
moves by itself. -/

namespace Sys2Proof.Machine

/-- A move of the outside world (log entry 11). -/
inductive HostMove where
  /-- Reset (R55, R550) with the caller's entry point (R551). The two paging latches take any value
  (R55, D22). -/
  | reset (entry : Word) (pageA pageB : Byte)
  /-- `nmi_pending` set or cleared (R49). -/
  | setNmi (v : Bool)
  /-- `int_pending` set or cleared (R49). -/
  | setInt (v : Bool)
  /-- `int_data` set (R49). -/
  | setIntData (v : Byte)
  /-- The byte that the memory bus exposes at an address changes (R166). -/
  | setMemory (addr : Word) (v : Byte)
  /-- The bytes the platform will answer to the coming port reads (R88). -/
  | setPortInputs (inputs : List Byte)
  /-- What the port-write hook will do at the coming port writes (R88, R166). -/
  | setPortHooks (hooks : List (List MemChange))
  /-- The state setters of R58: every piece of core state is replaced by that of `core`, but a fault latch
  that is set stays as it is. DESIGN CHOICE, log entry 20: R58 lets the setters replace all state, R48 and
  R501 let only reset clear the latch. -/
  | restore (core : State)
  deriving DecidableEq, Repr

/-- `core` with the platform's state of `s`: memory, ports and the interrupt line. -/
def State.withPlatformOf (core s : State) : State :=
  { core with
    mem := s.mem, portInputs := s.portInputs, portHist := s.portHist, portHooks := s.portHooks
    nmiPending := s.nmiPending, intPending := s.intPending, intData := s.intData }

/-- The state after a move. Only the reset clears a fault latch that is set (R48, R501); that the setters
keep it, and may set it where it is clear, is the model's choice (log entry 20). -/
def State.hostMove (s : State) (m : HostMove) : State :=
  match m with
  | .reset entry pageA pageB =>
    { State.reset with pc := entry, pageA := pageA, pageB := pageB }.withPlatformOf s
  | .setNmi v => { s with nmiPending := v }
  | .setInt v => { s with intPending := v }
  | .setIntData v => { s with intData := v }
  | .setMemory addr v => s.memWrite addr v
  | .setPortInputs inputs => { s with portInputs := inputs }
  | .setPortHooks hooks => { s with portHooks := hooks }
  | .restore core => { core.withPlatformOf s with fault := s.fault.or core.fault }

/-- One event of a run: a move of the outside world or an engine step (R150). -/
inductive Event where
  | move (m : HostMove)
  | step
  deriving DecidableEq, Repr

/-- The machine and its platform: what one event answers. -/
def State.event (undoc : Bool) (s : State) (e : Event) : Result :=
  match e with
  | .move m => .next (s.hostMove m)
  | .step => stepWith undoc s

end Sys2Proof.Machine
end

