-- ==== Sys2Proof/Safety.lean ====
section
/-! DEFINITION. The terms claims are stated in: what a step may change, flag by flag and byte by byte, and
what is said about runs: the invariant of the reachable states (spec/10_state.md R56), and
the states with no way forward (spec/70_reset_and_hazards.md R557), and the end of a run, which is never
one of them (spec/40_engine.md R165). -/

namespace Sys2Proof.Machine

/-! ### What an instruction changes -/

/-- The eight flags of `f`, by name (R38). -/
def hasFlags (f : Byte) (s z y h x pv n c : Bool) : Prop :=
  flagS f = s ∧ flagZ f = z ∧ flagY f = y ∧ flagH f = h ∧ flagX f = x ∧ flagPV f = pv ∧
    flagN f = n ∧ flagC f = c

/-- Among the seven 8-bit registers exactly `dst` is written, with `v`. -/
def writesR8 (s t : State) (dst : R8) (v : Byte) : Prop :=
  t.r8 dst = v ∧ ∀ r, r ≠ dst → t.r8 r = s.r8 r

/-- Among IX and IY exactly `dst` is written, with `v`. -/
def writesXy (s t : State) (dst : Xy) (v : Word) : Prop :=
  t.xy dst = v ∧ ∀ x, x ≠ dst → t.xy x = s.xy x

/-- Among the four halves of IX and IY exactly the half `h` of `x` is written, with `v` (R33). -/
def writesHalf (s t : State) (x : Xy) (h : Half) (v : Byte) : Prop :=
  t.half x h = v ∧ ∀ y k, (y, k) ≠ (x, h) → t.half y k = s.half y k

/-- Among BC, DE, HL, SP exactly `dst` is written, with `v`. -/
def writesPair (s t : State) (dst : Pair) (v : Word) : Prop :=
  t.pair dst = v ∧ ∀ p, p ≠ dst → t.pair p = s.pair p

/-- Every byte of memory outside the addresses `stored` reads as before. -/
def sameMemoryBut (s t : State) (stored : List Word) : Prop :=
  ∀ a, a ∉ stored → t.memRead a = s.memRead a

/-- `s` with the seven 8-bit registers of `t`: what a claim of the form `t = { s.withR8Of t with … }`
lets change. -/
def State.withR8Of (s t : State) : State :=
  { s with a := t.a, b := t.b, c := t.c, d := t.d, e := t.e, h := t.h, l := t.l }

/-- `s` with the index registers of `t`. -/
def State.withXyOf (s t : State) : State := { s with ix := t.ix, iy := t.iy }

/-- The byte at `x` once `changes` have been exposed in order, where it was `old`: the last one listed for
`x`, or `old`. -/
def exposedByte : List MemChange → Word → Byte → Byte
  | [], _, old => old
  | (a, v) :: rest, x, old => exposedByte rest x (if x = a then v else old)

/-- The port-write hook has run between `s` and `t` (R88, R451): its next changes are exposed and no other
byte of memory changed. Without a hook memory is unchanged (log entry 19). -/
def hookRan (s t : State) : Prop :=
  (∀ x, t.memRead x = exposedByte (s.portHooks.headD []) x (s.memRead x)) ∧
    t.portHooks = s.portHooks.tail ∧ (s.portHooks = [] → t.mem = s.mem)

/-- Whether the Flags line of a form's rule writes a flag through the flag logic (R46). `POP AF` and
`EX AF,AF'` replace F as data and do not count. -/
def writesFlags (f : Form) : Bool :=
  match f with
  | .alu .. | .inc8 .. | .dec8 .. | .addHl .. | .addXy .. | .adcHl .. | .sbcHl .. | .daa | .cpl
  | .negRow .. | .rlca | .rrca | .rla | .rra | .rot .. | .bit .. | .ldStep .. | .ldRep .. | .cpStep ..
  | .cpRep .. | .rrd | .rld | .inR .. | .in_portC | .inStep .. | .inRep .. | .outStep .. | .outRep ..
  | .scf | .ccf | .ld_a_i | .ld_a_r => true
  | .ldRR .. | .ldRN .. | .ldRHl .. | .ldRXy .. | .ldHlR .. | .ldXyR .. | .ldXyN .. | .ldPlainHalf ..
  | .ldHalfPlain .. | .ldHalfHalf .. | .ldHalfN .. | .ldPairNn .. | .ldXyNn .. | .ldPairMnn ..
  | .ldXyMnn .. | .ldMnnPair .. | .ldMnnXy .. | .ldSpXy .. | .exSpXy .. | .incPair .. | .decPair ..
  | .incXy .. | .decXy .. | .res .. | .set .. | .jpCc .. | .jrCc .. | .jpXy .. | .callCc .. | .retCc ..
  | .retRow .. | .rst .. | .push .. | .pop .. | .pushXy .. | .popXy .. | .outR .. | .imRow ..
  | .prefixOf .. | .nop | .ld_mbc_a | .ex_af_afAlt | .ld_a_mbc | .djnz_e .. | .ld_mde_a | .jr_e ..
  | .ld_a_mde | .ld_mnn_hl .. | .ld_hl_mnn .. | .ld_mnn_a .. | .ld_mhl_n .. | .ld_a_mnn .. | .halt
  | .jp_nn .. | .ret | .call_nn .. | .out_portN_a .. | .exx | .in_a_portN .. | .ex_msp_hl | .jp_hl
  | .ex_de_hl | .di | .ld_sp_hl | .ei | .ld_i_a | .ld_r_a | .out_portC_0 => false

/-! ### Runs -/

/-- R56 (ii): a halted core has no pending prefix and no pending skip. (R56 (i) and (iii) hold by the
types of `pfx` and `im`.) -/
def State.haltedClean (s : State) : Prop := s.halted = true → s.pfx = none ∧ s.skipInt = false

/-- The invariant every step keeps: memory is in its canonical form and R56 (ii). -/
structure State.Inv (s : State) : Prop where
  memory : s.mem.wf = true
  halted : s.haltedClean

/-- The core can take a step (R501). -/
abbrev State.hasStep (s : State) : Prop := s.fault = none

/-- R557 (i) and (ii): a halted core that no step of its own ever wakes. -/
abbrev State.haltHang (s : State) : Prop :=
  s.halted = true ∧ (s.skipInt = true ∨ (s.iff1 = false ∧ s.nmiPending = false))

/-- R557 (iii): a faulted core. -/
abbrev State.faulted (s : State) : Prop := s.fault.isSome = true

/-- What the table holds for the bytes from `addr` under the prefix `p`. -/
def State.formAt (s : State) (p : Option Pfx) (addr : Word) : Decoded Form :=
  decodeForm Config.undocRegistered p (s.memRead addr) (s.memRead (addr + 1)) (s.memRead (addr + 2))

/-- Where an unprefixed jump goes when it is taken. -/
def plainJumpTarget (s : State) (f : Form) : Option Word :=
  match f with
  | .jr_e e => some (s.relTarget e)
  | .jrCc cc e => if condHolds (jrCondition cc) s.f then some (s.relTarget e) else none
  | .jp_nn nn => some nn
  | .jpCc cc nn => if condHolds cc s.f then some nn else none
  | .jp_hl => some s.hl
  | _ => none

/-- Where a prefixed jump goes. -/
def xyJumpTarget (s : State) (f : Form) : Option Word :=
  match f with
  | .jpXy xy => some (s.xy xy)
  | _ => none

/-- Where the instruction that starts at PC jumps; none if it is no jump or one that is not taken. -/
def State.jumpTarget (s : State) : Option Word :=
  match Pfx.ofByte (s.memRead s.pc) with
  | none =>
    match s.formAt none s.pc with
    | .ok f => plainJumpTarget s f
    | .absent _ => none
  | some p =>
    match s.formAt (some p) (s.pc + 1) with
    | .ok f => xyJumpTarget s f
    | .absent _ => none

/-- R557 (iv): a running core between two instructions whose next one jumps to itself, with no interrupt
to take it away. -/
abbrev State.jumpHang (s : State) : Prop :=
  s.halted = false ∧ s.pfx = none ∧ s.iff1 = false ∧ s.nmiPending = false ∧ s.jumpTarget = some s.pc

/-- The end of a run (R165, D25): the core is about to fetch an instruction at the address `stop` that the
caller designates. A faulted core, a halted core and a core that hangs in a jump to itself are never
final. DESIGN CHOICE, log entry 21: the core has no end of its own, and R165 leaves the predicate to the
model. -/
abbrev State.finalAt (stop : Word) (s : State) : Prop :=
  s.pc = stop ∧ s.pfx = none ∧ ¬ s.faulted ∧ s.halted = false ∧ ¬ s.jumpHang

end Sys2Proof.Machine
end

