-- ==== Sys2Proof/Certificates/Slice0/Obligations.lean ====
section
/-! DEFINITION. The statements for the provers. Each says that `exec` answers a next state `t`, what `t`
holds, and, by an equation `t = { s with … }`, that every field not named is that of `s`. A field
written as `mem := t.mem` is described byte by byte beside the equation. `Instr.<family>` are the rows
of spec/opcode_table.json by operand (Machine/Families.lean). -/

open Sys2Proof Sys2Proof.Machine

/-! ### Loads and exchanges (spec/41_load_exchange.md) -/

/-- R200 to R203: the destination register holds the source's value and no other register changes.
`LD r,(XY+d)` also sets MEMPTR to the effective address. -/
def Obligations.LoadRegister : Prop :=
  (∀ (dst src : R8) (s : State), ∃ t, exec (.ldRR dst src) s = .next t ∧
    writesR8 s t dst (s.r8 src) ∧ t = { s.withR8Of t with q := 0, pc := s.pc + 1 }) ∧
  (∀ (dst : R8) (n : Byte) (s : State), ∃ t, exec (.ldRN dst n) s = .next t ∧
    writesR8 s t dst n ∧ t = { s.withR8Of t with q := 0, pc := s.pc + 2 }) ∧
  (∀ (dst : R8) (s : State), ∃ t, exec (.ldRHl dst) s = .next t ∧
    writesR8 s t dst (s.memRead s.hl) ∧ t = { s.withR8Of t with q := 0, pc := s.pc + 1 }) ∧
  (∀ (dst : R8) (xy : Xy) (d : Byte) (s : State), ∃ t, exec (.ldRXy dst xy d) s = .next t ∧
    writesR8 s t dst (s.memRead (s.xy xy + sext16 d)) ∧
    t = { s.withR8Of t with memptr := s.xy xy + sext16 d, q := 0, pc := s.pc + 2 })

/-- R204 to R207: the byte is stored at HL or at the effective address, every other byte of memory
and every register is unchanged; the indexed forms set MEMPTR to the effective address. -/
def Obligations.StoreRegister : Prop :=
  (∀ (r : R8) (s : State), ∃ t, exec (.ldHlR r) s = .next t ∧
    t.memRead s.hl = s.r8 r ∧ sameMemoryBut s t [s.hl] ∧
    t = { s with mem := t.mem, q := 0, pc := s.pc + 1 }) ∧
  (∀ (n : Byte) (s : State), ∃ t, exec (.ld_mhl_n n) s = .next t ∧
    t.memRead s.hl = n ∧ sameMemoryBut s t [s.hl] ∧
    t = { s with mem := t.mem, q := 0, pc := s.pc + 2 }) ∧
  (∀ (xy : Xy) (d : Byte) (r : R8) (s : State), ∃ t, exec (.ldXyR xy d r) s = .next t ∧
    t.memRead (s.ea xy d) = s.r8 r ∧ sameMemoryBut s t [s.ea xy d] ∧
    t = { s with mem := t.mem, memptr := s.ea xy d, q := 0, pc := s.pc + 2 }) ∧
  (∀ (xy : Xy) (d n : Byte) (s : State), ∃ t, exec (.ldXyN xy d n) s = .next t ∧
    t.memRead (s.ea xy d) = n ∧ sameMemoryBut s t [s.ea xy d] ∧
    t = { s with mem := t.mem, memptr := s.ea xy d, q := 0, pc := s.pc + 3 })

/-- R208 to R213: A through BC, DE or a direct address, and the two MEMPTR rules (a load leaves the
address plus 1, a store A over the low byte plus 1 without carry). -/
def Obligations.AccumulatorMemory : Prop :=
  (∀ s : State, exec .ld_a_mbc s =
    .next { s with a := s.memRead s.bc, memptr := s.bc + 1, q := 0, pc := s.pc + 1 }) ∧
  (∀ s : State, exec .ld_a_mde s =
    .next { s with a := s.memRead s.de, memptr := s.de + 1, q := 0, pc := s.pc + 1 }) ∧
  (∀ (nn : Word) (s : State), exec (.ld_a_mnn nn) s =
    .next { s with a := s.memRead nn, memptr := nn + 1, q := 0, pc := s.pc + 3 }) ∧
  (∀ s : State, ∃ t, exec .ld_mbc_a s = .next t ∧
    t.memRead s.bc = s.a ∧ sameMemoryBut s t [s.bc] ∧
    t = { s with mem := t.mem, memptr := mkWord s.a (s.c + 1), q := 0, pc := s.pc + 1 }) ∧
  (∀ s : State, ∃ t, exec .ld_mde_a s = .next t ∧
    t.memRead s.de = s.a ∧ sameMemoryBut s t [s.de] ∧
    t = { s with mem := t.mem, memptr := mkWord s.a (s.e + 1), q := 0, pc := s.pc + 1 }) ∧
  (∀ (nn : Word) (s : State), ∃ t, exec (.ld_mnn_a nn) s = .next t ∧
    t.memRead nn = s.a ∧ sameMemoryBut s t [nn] ∧
    t = { s with mem := t.mem, memptr := mkWord s.a (loByte nn + 1), q := 0, pc := s.pc + 3 })

/-- R214, R215: the loads to and from a half of an index register; the other half, the other index
register and the plain H and L are unchanged. -/
def Obligations.IndexHalfLoads : Prop :=
  (∀ (r : Plain) (xy : Xy) (h : Half) (s : State), ∃ t, exec (.ldPlainHalf r xy h) s = .next t ∧
    writesR8 s t (plainR8 r) (s.half xy h) ∧ t = { s.withR8Of t with q := 0, pc := s.pc + 1 }) ∧
  (∀ (xy : Xy) (h : Half) (r : Plain) (s : State), ∃ t, exec (.ldHalfPlain xy h r) s = .next t ∧
    writesHalf s t xy h (s.r8 (plainR8 r)) ∧
    t = { s.withXyOf t with q := 0, pc := s.pc + 1 }) ∧
  (∀ (xy : Xy) (h k : Half) (s : State), ∃ t, exec (.ldHalfHalf xy h k) s = .next t ∧
    writesHalf s t xy h (s.half xy k) ∧ t = { s.withXyOf t with q := 0, pc := s.pc + 1 }) ∧
  (∀ (xy : Xy) (h : Half) (n : Byte) (s : State), ∃ t, exec (.ldHalfN xy h n) s = .next t ∧
    writesHalf s t xy h n ∧ t = { s.withXyOf t with q := 0, pc := s.pc + 2 })

/-- R221 to R224: I and R are written whole from A without a flag; `LD A,I` and `LD A,R` write S, Z,
Y, X from the value, PV from IFF2, reset H and N, keep C, and latch the new F in Q.
The spec's own decision: PV as IFF2 at the time of the action is D28, log entry 16. -/
def Obligations.RefreshAndVectorLoads : Prop :=
  (∀ s : State, exec .ld_i_a s = .next { s with i := s.a, q := 0, pc := s.pc + 1 }) ∧
  (∀ s : State, exec .ld_r_a s = .next { s with r := s.a, q := 0, pc := s.pc + 1 }) ∧
  (∀ s : State, ∃ t, exec .ld_a_i s = .next t ∧
    hasFlags t.f (s := s.i.getLsbD 7) (z := decide (s.i = 0)) (y := s.i.getLsbD 5) (h := false)
      (x := s.i.getLsbD 3) (pv := s.iff2) (n := false) (c := flagC s.f) ∧
    t = { s with a := s.i, f := t.f, q := t.f, pc := s.pc + 1 }) ∧
  (∀ s : State, ∃ t, exec .ld_a_r s = .next t ∧
    hasFlags t.f (s := s.r.getLsbD 7) (z := decide (s.r = 0)) (y := s.r.getLsbD 5) (h := false)
      (x := s.r.getLsbD 3) (pv := s.iff2) (n := false) (c := flagC s.f) ∧
    t = { s with a := s.r, f := t.f, q := t.f, pc := s.pc + 1 })

/-- R225 to R229, R233, R234: a 16-bit load changes the named pair, index register or SP alone; a load
from memory takes the low byte from `nn` and the high byte from `nn + 1`, and leaves `nn + 1` in
MEMPTR. -/
def Obligations.Load16 : Prop :=
  (∀ (dd : Pair) (nn : Word) (s : State), ∃ t, exec (.ldPairNn dd nn) s = .next t ∧
    writesPair s t dd nn ∧ t = { s.withR8Of t with sp := t.sp, q := 0, pc := s.pc + 3 }) ∧
  (∀ (xy : Xy) (nn : Word) (s : State), ∃ t, exec (.ldXyNn xy nn) s = .next t ∧
    writesXy s t xy nn ∧ t = { s.withXyOf t with q := 0, pc := s.pc + 3 }) ∧
  (∀ (nn : Word) (s : State), exec (.ld_hl_mnn nn) s =
    .next { s with l := s.memRead nn, h := s.memRead (nn + 1), memptr := nn + 1, q := 0, pc := s.pc + 3 }) ∧
  (∀ (dd : Pair) (nn : Word) (s : State), ∃ t, exec (.ldPairMnn dd nn) s = .next t ∧
    writesPair s t dd (mkWord (s.memRead (nn + 1)) (s.memRead nn)) ∧
    t = { s.withR8Of t with sp := t.sp, memptr := nn + 1, q := 0, pc := s.pc + 3 }) ∧
  (∀ (xy : Xy) (nn : Word) (s : State), ∃ t, exec (.ldXyMnn xy nn) s = .next t ∧
    writesXy s t xy (mkWord (s.memRead (nn + 1)) (s.memRead nn)) ∧
    t = { s.withXyOf t with memptr := nn + 1, q := 0, pc := s.pc + 3 }) ∧
  (∀ s : State, exec .ld_sp_hl s = .next { s with sp := s.hl, q := 0, pc := s.pc + 1 }) ∧
  (∀ (xy : Xy) (s : State), exec (.ldSpXy xy) s =
    .next { s with sp := s.xy xy, q := 0, pc := s.pc + 1 })

/-- R230 to R232: a 16-bit store writes the low byte at `nn` and the high byte at `nn + 1` modulo
65,536, and no other byte. -/
def Obligations.Store16 : Prop :=
  (∀ (nn : Word) (s : State), ∃ t, exec (.ld_mnn_hl nn) s = .next t ∧
    t.memRead nn = s.l ∧ t.memRead (nn + 1) = s.h ∧ sameMemoryBut s t [nn, nn + 1] ∧
    t = { s with mem := t.mem, memptr := nn + 1, q := 0, pc := s.pc + 3 }) ∧
  (∀ (nn : Word) (dd : Pair) (s : State), ∃ t, exec (.ldMnnPair nn dd) s = .next t ∧
    t.memRead nn = loByte (s.pair dd) ∧ t.memRead (nn + 1) = hiByte (s.pair dd) ∧
    sameMemoryBut s t [nn, nn + 1] ∧
    t = { s with mem := t.mem, memptr := nn + 1, q := 0, pc := s.pc + 3 }) ∧
  (∀ (nn : Word) (xy : Xy) (s : State), ∃ t, exec (.ldMnnXy nn xy) s = .next t ∧
    t.memRead nn = loByte (s.xy xy) ∧ t.memRead (nn + 1) = hiByte (s.xy xy) ∧
    sameMemoryBut s t [nn, nn + 1] ∧
    t = { s with mem := t.mem, memptr := nn + 1, q := 0, pc := s.pc + 3 })

/-- R238 to R242: the exchanges, which are swaps. `EX AF,AF'` replaces F as data, so Q is reset. `EX (SP)`
swaps with the two bytes at SP, leaves SP, and sets MEMPTR to the word read. -/
def Obligations.Exchanges : Prop :=
  (∀ s : State, exec .ex_de_hl s =
    .next { s with d := s.h, e := s.l, h := s.d, l := s.e, q := 0, pc := s.pc + 1 }) ∧
  (∀ s : State, exec .ex_af_afAlt s =
    .next { s with a := s.a', f := s.f', a' := s.a, f' := s.f, q := 0, pc := s.pc + 1 }) ∧
  (∀ s : State, exec .exx s =
    .next { s with b := s.b', c := s.c', d := s.d', e := s.e', h := s.h', l := s.l',
                   b' := s.b, c' := s.c, d' := s.d, e' := s.e, h' := s.h, l' := s.l,
                   q := 0, pc := s.pc + 1 }) ∧
  (∀ s : State, ∃ t, exec .ex_msp_hl s = .next t ∧
    t.memRead s.sp = s.l ∧ t.memRead (s.sp + 1) = s.h ∧ sameMemoryBut s t [s.sp, s.sp + 1] ∧
    t = { s with mem := t.mem, h := s.memRead (s.sp + 1), l := s.memRead s.sp,
                 memptr := mkWord (s.memRead (s.sp + 1)) (s.memRead s.sp), q := 0, pc := s.pc + 1 }) ∧
  (∀ (xy : Xy) (s : State), ∃ t, exec (.exSpXy xy) s = .next t ∧
    t.memRead s.sp = loByte (s.xy xy) ∧ t.memRead (s.sp + 1) = hiByte (s.xy xy) ∧
    sameMemoryBut s t [s.sp, s.sp + 1] ∧
    writesXy s t xy (mkWord (s.memRead (s.sp + 1)) (s.memRead s.sp)) ∧
    t = { s.withXyOf t with mem := t.mem, memptr := mkWord (s.memRead (s.sp + 1)) (s.memRead s.sp),
                            q := 0, pc := s.pc + 1 })

/-! ### 8-bit arithmetic and logic (spec/42_alu8.md) -/

/-- R261, R262: ADD and ADC for every operand form of R260, in exact arithmetic: A is the sum modulo
256, C says it exceeds 255, H that the low digits' sum exceeds 15, PV that the signed sum leaves
-128..127. Only A, F, Q, PC and, for `(XY+d)`, MEMPTR change. -/
def Obligations.AddWithAndWithoutCarry : Prop :=
  ∀ (carry : Bool) (src : Src8) (s : State),
    let v := readSrc8 src s
    let cin := (carry && flagC s.f).toNat
    ∃ t, exec (.alu (if carry then .adc else .add) src) s = .next t ∧
      t.a.toNat = (s.a.toNat + v.toNat + cin) % 256 ∧
      hasFlags t.f (s := decide (128 ≤ t.a.toNat)) (z := decide (t.a = 0)) (y := t.a.getLsbD 5)
        (h := decide (15 < s.a.toNat % 16 + v.toNat % 16 + cin)) (x := t.a.getLsbD 3)
        (pv := decide (s.a.toInt + v.toInt + cin < -128 ∨ 127 < s.a.toInt + v.toInt + cin))
        (n := false) (c := decide (255 < s.a.toNat + v.toNat + cin)) ∧
      t = { s with a := t.a, f := t.f, q := t.f, pc := s.pc + lenSrc8 src,
                   memptr := match src with
                     | .idx x d => s.xy x + sext16 d
                     | _ => s.memptr }

/-- R263, R264: SUB and SBC for every operand form, in exact arithmetic: A is the difference modulo
256, C is the borrow, H the borrow of the low digits, PV the signed overflow, N is 1. -/
def Obligations.SubtractWithAndWithoutBorrow : Prop :=
  ∀ (carry : Bool) (src : Src8) (s : State),
    let v := readSrc8 src s
    let cin := (carry && flagC s.f).toNat
    ∃ t, exec (.alu (if carry then .sbc else .sub) src) s = .next t ∧
      (t.a.toNat : Int) = ((s.a.toNat : Int) - v.toNat - cin) % 256 ∧
      hasFlags t.f (s := decide (128 ≤ t.a.toNat)) (z := decide (t.a = 0)) (y := t.a.getLsbD 5)
        (h := decide (s.a.toNat % 16 < v.toNat % 16 + cin)) (x := t.a.getLsbD 3)
        (pv := decide (s.a.toInt - v.toInt - cin < -128 ∨ 127 < s.a.toInt - v.toInt - cin))
        (n := true) (c := decide (s.a.toNat < v.toNat + cin)) ∧
      t = { s with a := t.a, f := t.f, q := t.f, pc := s.pc + lenSrc8 src,
                   memptr := match src with
                     | .idx x d => s.xy x + sext16 d
                     | _ => s.memptr }

/-- R268: CP sets the flags of the subtraction but Y and X from the operand, and leaves A. -/
def Obligations.Compare : Prop :=
  ∀ (src : Src8) (s : State),
    let v := readSrc8 src s
    ∃ t, exec (.alu .cp src) s = .next t ∧
      hasFlags t.f (s := decide (128 ≤ ((s.a.toNat : Int) - v.toNat) % 256)) (z := decide (s.a = v))
        (y := v.getLsbD 5) (h := decide (s.a.toNat % 16 < v.toNat % 16)) (x := v.getLsbD 3)
        (pv := decide (s.a.toInt - v.toInt < -128 ∨ 127 < s.a.toInt - v.toInt))
        (n := true) (c := decide (s.a.toNat < v.toNat)) ∧
      t = { s with f := t.f, q := t.f, pc := s.pc + lenSrc8 src,
                   memptr := match src with
                     | .idx x d => s.xy x + sext16 d
                     | _ => s.memptr }

/-- R265 to R267: AND, XOR and OR, bit by bit; PV is the parity of the result, C and N are 0, H is 1
for AND alone. -/
def Obligations.BitwiseLogic : Prop :=
  ∀ (op : AluOp) (src : Src8) (s : State), op = .and ∨ op = .xor ∨ op = .or →
    let v := readSrc8 src s
    ∃ t, exec (.alu op src) s = .next t ∧
      (∀ k < 8, t.a.getLsbD k =
        match op with
        | .and => s.a.getLsbD k && v.getLsbD k
        | .xor => s.a.getLsbD k != v.getLsbD k
        | _ => s.a.getLsbD k || v.getLsbD k) ∧
      hasFlags t.f (s := t.a.getLsbD 7) (z := decide (t.a = 0)) (y := t.a.getLsbD 5)
        (h := decide (op = .and)) (x := t.a.getLsbD 3) (pv := parity t.a) (n := false) (c := false) ∧
      t = { s with a := t.a, f := t.f, q := t.f, pc := s.pc + lenSrc8 src,
                   memptr := match src with
                     | .idx x d => s.xy x + sext16 d
                     | _ => s.memptr }

/-- R260: the operand value, the length and the MEMPTR effect of each operand form, as the eight
accumulator operations see them. -/
def Obligations.OperandForms : Prop :=
  ∀ (op : AluOp) (src : Src8) (s t : State), exec (.alu op src) s = .next t →
    match src with
    | .r r => readSrc8 src s = s.r8 r ∧ t.pc = s.pc + 1 ∧ t.memptr = s.memptr
    | .n n => readSrc8 src s = n ∧ t.pc = s.pc + 2 ∧ t.memptr = s.memptr
    | .hl => readSrc8 src s = s.memRead s.hl ∧ t.pc = s.pc + 1 ∧ t.memptr = s.memptr
    | .idx x d =>
      readSrc8 src s = s.memRead (s.xy x + sext16 d) ∧ t.pc = s.pc + 2 ∧
        t.memptr = s.xy x + sext16 d
    | .half x h => readSrc8 src s = s.half x h ∧ t.pc = s.pc + 1 ∧ t.memptr = s.memptr

/-- R269, R272 and their forms R270, R271, R273 to R276: INC and DEC on a register, on memory at HL or
at an effective address, or on a half of an index register: the value plus or minus 1, the flags, C
unaffected, and nothing else but the operand. -/
def Obligations.IncrementDecrement8 : Prop :=
  ∀ (down : Bool) (dst : Dst8) (s : State),
    let old := readDst8 dst s
    let res := if down then old - 1 else old + 1
    ∃ t, exec (if down then .dec8 dst else .inc8 dst) s = .next t ∧
      hasFlags t.f (s := res.getLsbD 7) (z := decide (res = 0)) (y := res.getLsbD 5)
        (h := decide (old.toNat % 16 = if down then 0 else 15)) (x := res.getLsbD 3)
        (pv := decide (old = if down then 0x80 else 0x7F)) (n := down) (c := flagC s.f) ∧
      t.q = t.f ∧
      match dst with
      | .r r =>
        old = s.r8 r ∧ writesR8 s t r res ∧
          t = { s.withR8Of t with f := t.f, q := t.q, pc := s.pc + 1 }
      | .hl =>
        old = s.memRead s.hl ∧ t.memRead s.hl = res ∧ sameMemoryBut s t [s.hl] ∧
          t = { s with mem := t.mem, f := t.f, q := t.q, pc := s.pc + 1 }
      | .idx x d =>
        old = s.memRead (s.ea x d) ∧ t.memRead (s.ea x d) = res ∧ sameMemoryBut s t [s.ea x d] ∧
          t = { s with mem := t.mem, f := t.f, q := t.q, memptr := s.ea x d, pc := s.pc + 2 }
      | .half x h =>
        old = s.half x h ∧ writesHalf s t x h res ∧
          t = { s.withXyOf t with f := t.f, q := t.q, pc := s.pc + 1 }

/-! ### 16-bit arithmetic, DAA, CPL, NEG (spec/43_alu16_daa_misc.md) -/

/-- R300, R301: ADD to HL or to an index register in exact arithmetic: S, Z, PV kept, H from bit 11, C
from bit 15, Y and X from the high byte of the sum, MEMPTR the old value plus 1. -/
def Obligations.Add16 : Prop :=
  (∀ (ss : Pair) (s : State), ∃ t, exec (.addHl ss) s = .next t ∧
    t.hl.toNat = (s.hl.toNat + (s.pair ss).toNat) % 65536 ∧
    hasFlags t.f (s := flagS s.f) (z := flagZ s.f) (y := t.h.getLsbD 5)
      (h := decide (4095 < s.hl.toNat % 4096 + (s.pair ss).toNat % 4096)) (x := t.h.getLsbD 3)
      (pv := flagPV s.f) (n := false) (c := decide (65535 < s.hl.toNat + (s.pair ss).toNat)) ∧
    t = { s with h := t.h, l := t.l, f := t.f, q := t.f, memptr := s.hl + 1, pc := s.pc + 1 }) ∧
  (∀ (xy : Xy) (pp : AddPair) (s : State),
    let v := match pp with
      | .bc => s.bc
      | .de => s.de
      | .xy => s.xy xy
      | .sp => s.sp
    ∃ t, exec (.addXy xy pp) s = .next t ∧
    (t.xy xy).toNat = ((s.xy xy).toNat + v.toNat) % 65536 ∧
    (∀ x, x ≠ xy → t.xy x = s.xy x) ∧
    hasFlags t.f (s := flagS s.f) (z := flagZ s.f) (y := (t.xy xy).getLsbD 13)
      (h := decide (4095 < (s.xy xy).toNat % 4096 + v.toNat % 4096)) (x := (t.xy xy).getLsbD 11)
      (pv := flagPV s.f) (n := false) (c := decide (65535 < (s.xy xy).toNat + v.toNat)) ∧
    t = { s.withXyOf t with f := t.f, q := t.f, memptr := s.xy xy + 1, pc := s.pc + 1 })

/-- R302, R303: ADC HL and SBC HL write every flag, Z over 16 bits, H from bit 11, PV the 16-bit
signed overflow. -/
def Obligations.AdcSbcHl : Prop :=
  ∀ (ss : Pair) (s : State),
    let a := s.hl
    let b := s.pair ss
    let cin := (flagC s.f).toNat
    (∃ t, exec (.adcHl ss) s = .next t ∧
      t.hl.toNat = (a.toNat + b.toNat + cin) % 65536 ∧
      hasFlags t.f (s := decide (32768 ≤ t.hl.toNat)) (z := decide (t.hl = 0)) (y := t.h.getLsbD 5)
        (h := decide (4095 < a.toNat % 4096 + b.toNat % 4096 + cin)) (x := t.h.getLsbD 3)
        (pv := decide (a.toInt + b.toInt + cin < -32768 ∨ 32767 < a.toInt + b.toInt + cin))
        (n := false) (c := decide (65535 < a.toNat + b.toNat + cin)) ∧
      t = { s with h := t.h, l := t.l, f := t.f, q := t.f, memptr := a + 1, pc := s.pc + 1 }) ∧
    (∃ t, exec (.sbcHl ss) s = .next t ∧
      (t.hl.toNat : Int) = ((a.toNat : Int) - b.toNat - cin) % 65536 ∧
      hasFlags t.f (s := decide (32768 ≤ t.hl.toNat)) (z := decide (t.hl = 0)) (y := t.h.getLsbD 5)
        (h := decide (a.toNat % 4096 < b.toNat % 4096 + cin)) (x := t.h.getLsbD 3)
        (pv := decide (a.toInt - b.toInt - cin < -32768 ∨ 32767 < a.toInt - b.toInt - cin))
        (n := true) (c := decide (a.toNat < b.toNat + cin)) ∧
      t = { s with h := t.h, l := t.l, f := t.f, q := t.f, memptr := a + 1, pc := s.pc + 1 })

/-- R304 to R307: the 16-bit increments and decrements change the register and no flag. -/
def Obligations.IncrementDecrement16 : Prop :=
  (∀ (ss : Pair) (s : State), ∃ t, exec (.incPair ss) s = .next t ∧
    writesPair s t ss (s.pair ss + 1) ∧ t = { s.withR8Of t with sp := t.sp, q := 0, pc := s.pc + 1 }) ∧
  (∀ (ss : Pair) (s : State), ∃ t, exec (.decPair ss) s = .next t ∧
    writesPair s t ss (s.pair ss - 1) ∧ t = { s.withR8Of t with sp := t.sp, q := 0, pc := s.pc + 1 }) ∧
  (∀ (xy : Xy) (s : State), ∃ t, exec (.incXy xy) s = .next t ∧
    writesXy s t xy (s.xy xy + 1) ∧ t = { s.withXyOf t with q := 0, pc := s.pc + 1 }) ∧
  (∀ (xy : Xy) (s : State), ∃ t, exec (.decXy xy) s = .next t ∧
    writesXy s t xy (s.xy xy - 1) ∧ t = { s.withXyOf t with q := 0, pc := s.pc + 1 })

/-- R308: DAA. The correction has 06 when H or a low digit above 9 asks for it and 60 when C or a value
above 99 does; it is added, or subtracted after a subtraction; N is kept. -/
def Obligations.DecimalAdjust : Prop :=
  ∀ s : State,
    let lo := s.a.toNat % 16
    let high := flagC s.f = true ∨ 0x99 < s.a.toNat
    let adj := (if flagH s.f = true ∨ 9 < lo then 6 else 0) + (if high then 96 else 0)
    ∃ t, exec .daa s = .next t ∧
      (t.a.toNat : Int) = ((s.a.toNat : Int) + if flagN s.f then -adj else adj) % 256 ∧
      hasFlags t.f (s := t.a.getLsbD 7) (z := decide (t.a = 0)) (y := t.a.getLsbD 5)
        (h := if flagN s.f then flagH s.f && decide (lo < 6) else decide (9 < lo))
        (x := t.a.getLsbD 3) (pv := parity t.a) (n := flagN s.f) (c := decide high) ∧
      t = { s with a := t.a, f := t.f, q := t.f, pc := s.pc + 1 }

/-- R309, R310: CPL complements every bit of A and keeps S, Z, PV, C; NEG, in each of its eight
encodings, subtracts A from 0. -/
def Obligations.ComplementAndNegate : Prop :=
  (∀ s : State, ∃ t, exec .cpl s = .next t ∧
    (∀ k < 8, t.a.getLsbD k = !s.a.getLsbD k) ∧
    hasFlags t.f (s := flagS s.f) (z := flagZ s.f) (y := t.a.getLsbD 5) (h := true) (x := t.a.getLsbD 3)
      (pv := flagPV s.f) (n := true) (c := flagC s.f) ∧
    t = { s with a := t.a, f := t.f, q := t.f, pc := s.pc + 1 }) ∧
  (∀ (y : BitNo) (s : State), ∃ t, exec (.negRow y) s = .next t ∧
    t.a.toNat = (256 - s.a.toNat) % 256 ∧
    hasFlags t.f (s := t.a.getLsbD 7) (z := decide (t.a = 0)) (y := t.a.getLsbD 5)
      (h := decide (s.a.toNat % 16 ≠ 0)) (x := t.a.getLsbD 3) (pv := decide (s.a = 0x80))
      (n := true) (c := decide (s.a ≠ 0)) ∧
    t = { s with a := t.a, f := t.f, q := t.f, pc := s.pc + 1 })

/-! ### Rotates, shifts and bits (spec/44_rotate_shift_bit.md) -/

/-- R330 to R333: the accumulator rotates bit by bit; S, Z, PV are kept. -/
def Obligations.AccumulatorRotates : Prop :=
  ∀ (left through : Bool) (s : State),
    let out := if left then s.a.getLsbD 7 else s.a.getLsbD 0
    let enters := if through then flagC s.f else out
    ∃ t, exec (match left, through with
        | true, false => .rlca
        | false, false => .rrca
        | true, true => .rla
        | false, true => .rra) s = .next t ∧
      (∀ k < 7, if left then t.a.getLsbD (k + 1) = s.a.getLsbD k
        else t.a.getLsbD k = s.a.getLsbD (k + 1)) ∧
      t.a.getLsbD (if left then 0 else 7) = enters ∧
      hasFlags t.f (s := flagS s.f) (z := flagZ s.f) (y := t.a.getLsbD 5) (h := false)
        (x := t.a.getLsbD 3) (pv := flagPV s.f) (n := false) (c := out) ∧
      t = { s with a := t.a, f := t.f, q := t.f, pc := s.pc + 1 }

/-- R334 to R343 and R351: the eight rotates and shifts on every operand form. The result is R334's row
bit by bit; it goes to the register, to memory, or to memory and to the named register as well. -/
def Obligations.RotatesAndShifts : Prop :=
  ∀ (op : RotOp) (m : M8) (s : State),
    let v := readM8 m s
    let left := decide (op = .rlc ∨ op = .rl ∨ op = .sla ∨ op = .sll)
    let enters := match op with
      | .rlc => v.getLsbD 7
      | .rrc => v.getLsbD 0
      | .rl => flagC s.f
      | .rr => flagC s.f
      | .sla => false
      | .sra => v.getLsbD 7
      | .sll => true
      | .srl => false
    ∃ t, ∃ res : Byte, exec (.rot op m) s = .next t ∧
      (∀ k < 7, if left then res.getLsbD (k + 1) = v.getLsbD k
        else res.getLsbD k = v.getLsbD (k + 1)) ∧
      res.getLsbD (if left then 0 else 7) = enters ∧
      hasFlags t.f (s := res.getLsbD 7) (z := decide (res = 0)) (y := res.getLsbD 5) (h := false)
        (x := res.getLsbD 3) (pv := parity res) (n := false) (c := v.getLsbD (if left then 7 else 0)) ∧
      t.q = t.f ∧
      match m with
      | .r r =>
        v = s.r8 r ∧ writesR8 s t r res ∧ t = { s.withR8Of t with f := t.f, q := t.q, pc := s.pc + 1 }
      | .hl =>
        v = s.memRead s.hl ∧ t.memRead s.hl = res ∧ sameMemoryBut s t [s.hl] ∧
          t = { s with mem := t.mem, f := t.f, q := t.q, pc := s.pc + 1 }
      | .idx x d =>
        v = s.memRead (s.ea x d) ∧ t.memRead (s.ea x d) = res ∧ sameMemoryBut s t [s.ea x d] ∧
          t = { s with mem := t.mem, f := t.f, q := t.q, memptr := s.ea x d, pc := s.pc + 3 }
      | .idxCopy x d r =>
        v = s.memRead (s.ea x d) ∧ t.memRead (s.ea x d) = res ∧ sameMemoryBut s t [s.ea x d] ∧
          writesR8 s t r res ∧
          t = { s.withR8Of t with mem := t.mem, f := t.f, q := t.q, memptr := s.ea x d, pc := s.pc + 3 }

/-- R346 to R348: BIT sets Z and PV to the complement of the bit, S only for bit 7, H, keeps C; Y and X
come from the register, from the high byte of MEMPTR, or from the high byte of the effective address.
No register and no byte of memory is written, in the register-copy encodings either. -/
def Obligations.BitTest : Prop :=
  ∀ (b : BitNo) (m : M8) (s : State),
    let bit := (readM8 m s).getLsbD (bitIndex b)
    ∃ t, exec (.bit b m) s = .next t ∧
      (match m with
        | .r r => readM8 m s = s.r8 r ∧ flagY t.f = (s.r8 r).getLsbD 5 ∧ flagX t.f = (s.r8 r).getLsbD 3
        | .hl =>
          readM8 m s = s.memRead s.hl ∧ flagY t.f = s.memptr.getLsbD 13 ∧
            flagX t.f = s.memptr.getLsbD 11
        | .idx x d =>
          readM8 m s = s.memRead (s.ea x d) ∧ flagY t.f = (s.ea x d).getLsbD 13 ∧
            flagX t.f = (s.ea x d).getLsbD 11
        | .idxCopy x d _ =>
          readM8 m s = s.memRead (s.ea x d) ∧ flagY t.f = (s.ea x d).getLsbD 13 ∧
            flagX t.f = (s.ea x d).getLsbD 11) ∧
      hasFlags t.f (s := decide (b = .b7) && bit) (z := !bit) (y := flagY t.f) (h := true)
        (x := flagX t.f) (pv := !bit) (n := false) (c := flagC s.f) ∧
      t = { s with
        f := t.f, q := t.f
        memptr := match m with
          | .idx x d => s.ea x d
          | .idxCopy x d _ => s.ea x d
          | _ => s.memptr
        pc := s.pc + match m with
          | .r _ => 1
          | .hl => 1
          | _ => 3 }

/-- R349 to R351: RES and SET change the named bit of the operand and no other bit, no flag, and
nothing else; the register-copy encodings write the result to the named register as well. -/
def Obligations.BitResetAndSet : Prop :=
  ∀ (on : Bool) (b : BitNo) (m : M8) (s : State),
    let v := readM8 m s
    ∃ t, ∃ res : Byte, exec (if on then .set b m else .res b m) s = .next t ∧
      (∀ k < 8, res.getLsbD k = if k = bitIndex b then on else v.getLsbD k) ∧
      match m with
      | .r r => v = s.r8 r ∧ writesR8 s t r res ∧ t = { s.withR8Of t with q := 0, pc := s.pc + 1 }
      | .hl =>
        v = s.memRead s.hl ∧ t.memRead s.hl = res ∧ sameMemoryBut s t [s.hl] ∧
          t = { s with mem := t.mem, q := 0, pc := s.pc + 1 }
      | .idx x d =>
        v = s.memRead (s.ea x d) ∧ t.memRead (s.ea x d) = res ∧ sameMemoryBut s t [s.ea x d] ∧
          t = { s with mem := t.mem, q := 0, memptr := s.ea x d, pc := s.pc + 3 }
      | .idxCopy x d r =>
        v = s.memRead (s.ea x d) ∧ t.memRead (s.ea x d) = res ∧ sameMemoryBut s t [s.ea x d] ∧
          writesR8 s t r res ∧
          t = { s.withR8Of t with mem := t.mem, q := 0, memptr := s.ea x d, pc := s.pc + 3 }

/-! ### Block transfer and search, RLD and RRD (spec/45_block_transfer_search.md) -/

/-- R381 to R384 and R380: one iteration of LDI, LDD, LDIR, LDDR. The byte at HL goes to DE, HL and DE
step, BC falls by 1; PV says BC is not yet 0, Y and X come from bits 1 and 3 of the byte plus A. A
repeating form whose BC is not yet 0 puts PC at the ED byte and sets MEMPTR to the address after it.
The spec's own decision: The flags of a repeating iteration are D20, log entry 15. -/
def Obligations.BlockTransfer : Prop :=
  ∀ (dir : Dir) (repeats : Bool) (s : State),
    let n := s.memRead s.hl + s.a
    let again := repeats && decide (s.bc - 1 ≠ 0)
    ∃ t, exec (if repeats then .ldRep dir else .ldStep dir) s = .next t ∧
      t.memRead s.de = s.memRead s.hl ∧ sameMemoryBut s t [s.de] ∧
      (match dir with
        | .inc => t.hl = s.hl + 1 ∧ t.de = s.de + 1
        | .dec => t.hl = s.hl - 1 ∧ t.de = s.de - 1) ∧
      t.bc = s.bc - 1 ∧
      hasFlags t.f (s := flagS s.f) (z := flagZ s.f) (y := n.getLsbD 1) (h := false) (x := n.getLsbD 3)
        (pv := decide (t.bc ≠ 0)) (n := false) (c := flagC s.f) ∧
      t = { s with b := t.b, c := t.c, d := t.d, e := t.e, h := t.h, l := t.l, mem := t.mem,
                   f := t.f, q := t.f,
                   memptr := if again then s.pc else s.memptr,
                   pc := if again then s.pc - 1 else s.pc + 1 }

/-- R385 to R388 and R380: one iteration of CPI, CPD, CPIR, CPDR. A is compared with the byte at HL and
neither is written; C is kept; a repeating form goes on while BC is not 0 and there was no match.
The spec's own decision: The flags of a repeating iteration are D20, log entry 15. -/
def Obligations.BlockSearch : Prop :=
  ∀ (dir : Dir) (repeats : Bool) (s : State),
    let v := s.memRead s.hl
    let borrow := decide (s.a.toNat % 16 < v.toNat % 16)
    let n := s.a - v - (if borrow then 1 else 0)
    let again := repeats && decide (s.bc - 1 ≠ 0) && decide (s.a ≠ v)
    ∃ t, exec (if repeats then .cpRep dir else .cpStep dir) s = .next t ∧
      (match dir with
        | .inc => t.hl = s.hl + 1
        | .dec => t.hl = s.hl - 1) ∧
      t.bc = s.bc - 1 ∧
      hasFlags t.f (s := (s.a - v).getLsbD 7) (z := decide (s.a = v)) (y := n.getLsbD 1) (h := borrow)
        (x := n.getLsbD 3) (pv := decide (t.bc ≠ 0)) (n := true) (c := flagC s.f) ∧
      t = { s with b := t.b, c := t.c, h := t.h, l := t.l, f := t.f, q := t.f,
                   memptr := if again then s.pc else
                     match dir with
                     | .inc => s.memptr + 1
                     | .dec => s.memptr - 1,
                   pc := if again then s.pc - 1 else s.pc + 1 }

/-- R390, R391: RLD and RRD move the three low nibbles of A and (HL) around, keep the high nibble of A
and C, and set the logic flags of the new A. -/
def Obligations.NibbleRotates : Prop :=
  ∀ (left : Bool) (s : State),
    let m := s.memRead s.hl
    ∃ t, exec (if left then .rld else .rrd) s = .next t ∧
      hiNibble t.a = hiNibble s.a ∧
      loNibble t.a = (if left then hiNibble m else loNibble m) ∧
      hiNibble (t.memRead s.hl) = (if left then loNibble m else loNibble s.a) ∧
      loNibble (t.memRead s.hl) = (if left then loNibble s.a else hiNibble m) ∧
      sameMemoryBut s t [s.hl] ∧
      hasFlags t.f (s := t.a.getLsbD 7) (z := decide (t.a = 0)) (y := t.a.getLsbD 5) (h := false)
        (x := t.a.getLsbD 3) (pv := parity t.a) (n := false) (c := flagC s.f) ∧
      t = { s with a := t.a, mem := t.mem, f := t.f, q := t.f, memptr := s.hl + 1, pc := s.pc + 1 }

/-! ### Control transfer and the stack (spec/46_control_transfer_stack.md) -/

/-- R410 to R412, R416, R417: a condition reads one flag of F; the absolute jumps. `JP cc,nn` writes MEMPTR whether or not it is taken; the
jumps through a register leave MEMPTR and read no memory. -/
def Obligations.AbsoluteJumps : Prop :=
  (∀ (cc : Cond) (f : Byte), condHolds cc f =
    match cc with
    | .nz => !f.getLsbD 6
    | .z => f.getLsbD 6
    | .nc => !f.getLsbD 0
    | .c => f.getLsbD 0
    | .po => !f.getLsbD 2
    | .pe => f.getLsbD 2
    | .p => !f.getLsbD 7
    | .m => f.getLsbD 7) ∧
  (∀ (nn : Word) (s : State), exec (.jp_nn nn) s = .next { s with memptr := nn, q := 0, pc := nn }) ∧
  (∀ (cc : Cond) (nn : Word) (s : State), exec (.jpCc cc nn) s =
    .next { s with memptr := nn, q := 0, pc := if condHolds cc s.f then nn else s.pc + 3 }) ∧
  (∀ s : State, exec .jp_hl s = .next { s with q := 0, pc := s.hl }) ∧
  (∀ (xy : Xy) (s : State), exec (.jpXy xy) s = .next { s with q := 0, pc := s.xy xy })

/-- R413 to R415: the relative jumps, `PC + 2 + e` with `e` signed; MEMPTR is written only when the jump
is taken; DJNZ decrements B without a flag and jumps while B is not 0. -/
def Obligations.RelativeJumps : Prop :=
  (∀ (e : Byte) (s : State), ∃ t, exec (.jr_e e) s = .next t ∧
    (t.pc.toNat : Int) = ((s.pc.toNat : Int) + 2 + e.toInt) % 65536 ∧
    t = { s with memptr := t.pc, q := 0, pc := t.pc }) ∧
  (∀ (cc : JrCond) (e : Byte) (s : State), ∃ t, exec (.jrCc cc e) s = .next t ∧
    if (match cc with
        | .nz => !flagZ s.f
        | .z => flagZ s.f
        | .nc => !flagC s.f
        | .c => flagC s.f) then
      (t.pc.toNat : Int) = ((s.pc.toNat : Int) + 2 + e.toInt) % 65536 ∧
        t = { s with memptr := t.pc, q := 0, pc := t.pc }
    else t = { s with q := 0, pc := s.pc + 2 }) ∧
  (∀ (e : Byte) (s : State), ∃ t, exec (.djnz_e e) s = .next t ∧
    if s.b = 1 then t = { s with b := 0, q := 0, pc := s.pc + 2 }
    else
      (t.pc.toNat : Int) = ((s.pc.toNat : Int) + 2 + e.toInt) % 65536 ∧
        t = { s with b := s.b - 1, memptr := t.pc, q := 0, pc := t.pc })

/-- R418, R419, R424: a call pushes the address of the next instruction (PC + 3, PC + 1 for RST), high
byte at SP - 1 and low byte at SP - 2, and goes to its target; a conditional call not taken pushes
nothing. -/
def Obligations.CallsAndRestarts : Prop :=
  (∀ (nn : Word) (s : State), ∃ t, exec (.call_nn nn) s = .next t ∧
    t.memRead (s.sp - 1) = hiByte (s.pc + 3) ∧ t.memRead (s.sp - 2) = loByte (s.pc + 3) ∧
    sameMemoryBut s t [s.sp - 1, s.sp - 2] ∧
    t = { s with mem := t.mem, sp := s.sp - 2, memptr := nn, q := 0, pc := nn }) ∧
  (∀ (cc : Cond) (nn : Word) (s : State), ∃ t, exec (.callCc cc nn) s = .next t ∧
    if condHolds cc s.f then
      t.memRead (s.sp - 1) = hiByte (s.pc + 3) ∧ t.memRead (s.sp - 2) = loByte (s.pc + 3) ∧
        sameMemoryBut s t [s.sp - 1, s.sp - 2] ∧
        t = { s with mem := t.mem, sp := s.sp - 2, memptr := nn, q := 0, pc := nn }
    else t = { s with memptr := nn, q := 0, pc := s.pc + 3 }) ∧
  (∀ (p : Rst) (s : State),
    let target : Word := match p with
      | .p00 => 0x00
      | .p08 => 0x08
      | .p10 => 0x10
      | .p18 => 0x18
      | .p20 => 0x20
      | .p28 => 0x28
      | .p30 => 0x30
      | .p38 => 0x38
    ∃ t, exec (.rst p) s = .next t ∧
      t.memRead (s.sp - 1) = hiByte (s.pc + 1) ∧ t.memRead (s.sp - 2) = loByte (s.pc + 1) ∧
      sameMemoryBut s t [s.sp - 1, s.sp - 2] ∧
      t = { s with mem := t.mem, sp := s.sp - 2, memptr := target, q := 0, pc := target })

/-- R420 to R423: a return pops PC (low byte at SP, high byte at SP + 1) and leaves it in MEMPTR too; a
conditional return not taken only advances PC; RETI and RETN, in every encoding, copy IFF2 into IFF1.
The spec's own decision: RETI's copy of IFF2 is D15, log entry 15. -/
def Obligations.Returns : Prop :=
  ∀ s : State,
    let target := mkWord (s.memRead (s.sp + 1)) (s.memRead s.sp)
    exec .ret s = .next { s with sp := s.sp + 2, memptr := target, q := 0, pc := target } ∧
    (∀ cc : Cond, exec (.retCc cc) s = .next
      (if condHolds cc s.f then { s with sp := s.sp + 2, memptr := target, q := 0, pc := target }
       else { s with q := 0, pc := s.pc + 1 })) ∧
    (∀ y : BitNo, exec (.retRow y) s = .next
      { s with sp := s.sp + 2, memptr := target, iff1 := s.iff2, q := 0, pc := target })

/-- R425, R426: PUSH stores the high byte at SP - 1 and the low byte at SP - 2 and leaves every register
but SP. -/
def Obligations.PushRegisters : Prop :=
  (∀ (qq : Pair2) (s : State), ∃ t, exec (.push qq) s = .next t ∧
    t.memRead (s.sp - 1) = (match qq with
      | .bc => s.b
      | .de => s.d
      | .hl => s.h
      | .af => s.a) ∧
    t.memRead (s.sp - 2) = (match qq with
      | .bc => s.c
      | .de => s.e
      | .hl => s.l
      | .af => s.f) ∧
    sameMemoryBut s t [s.sp - 1, s.sp - 2] ∧
    t = { s with mem := t.mem, sp := s.sp - 2, q := 0, pc := s.pc + 1 }) ∧
  (∀ (xy : Xy) (s : State), ∃ t, exec (.pushXy xy) s = .next t ∧
    t.memRead (s.sp - 1) = hiByte (s.xy xy) ∧ t.memRead (s.sp - 2) = loByte (s.xy xy) ∧
    sameMemoryBut s t [s.sp - 1, s.sp - 2] ∧
    t = { s with mem := t.mem, sp := s.sp - 2, q := 0, pc := s.pc + 1 })

/-- R427, R428: POP takes the low byte from SP and the high byte from SP + 1 into the named pair alone.
POP AF loads all of F as data, so Q is reset; no other POP changes F.
The spec's own decision: Q after POP AF is D14, log entry 15. -/
def Obligations.PopRegisters : Prop :=
  (∀ (qq : Pair2) (s : State), exec (.pop qq) s = .next
    (match qq with
      | .bc => { s with b := s.memRead (s.sp + 1), c := s.memRead s.sp, sp := s.sp + 2, q := 0, pc := s.pc + 1 }
      | .de => { s with d := s.memRead (s.sp + 1), e := s.memRead s.sp, sp := s.sp + 2, q := 0, pc := s.pc + 1 }
      | .hl => { s with h := s.memRead (s.sp + 1), l := s.memRead s.sp, sp := s.sp + 2, q := 0, pc := s.pc + 1 }
      | .af => { s with a := s.memRead (s.sp + 1), f := s.memRead s.sp, sp := s.sp + 2, q := 0, pc := s.pc + 1 })) ∧
  (∀ (xy : Xy) (s : State), ∃ t, exec (.popXy xy) s = .next t ∧
    writesXy s t xy (mkWord (s.memRead (s.sp + 1)) (s.memRead s.sp)) ∧
    t = { s.withXyOf t with sp := s.sp + 2, q := 0, pc := s.pc + 1 })

/-! ### Ports (spec/47_io.md) -/

/-- R450, R452 to R454: an input makes one port read, at A and n or at BC; `IN A,(n)` writes no flag,
`IN r,(C)` and `IN (C)` set the flags from the byte read and keep C. The byte read is the platform's,
`s.portValue pa`: the statement holds whatever it is (log entry 4).
The spec's own decision: the upper byte of the port address, A or B, is D6, log entry 17. -/
def Obligations.PortInput : Prop :=
  (∀ (n : Byte) (s : State),
    let pa := mkWord s.a n
    exec (.in_a_portN n) s = .next
      { s with a := s.portValue pa, memptr := pa + 1, q := 0, pc := s.pc + 2,
               portInputs := s.portInputs.tail,
               portHist := .read pa (s.portValue pa) :: s.portHist }) ∧
  (∀ (r : R8) (s : State),
    let v := s.portValue s.bc
    ∃ t, exec (.inR r) s = .next t ∧ writesR8 s t r v ∧
      hasFlags t.f (s := v.getLsbD 7) (z := decide (v = 0)) (y := v.getLsbD 5) (h := false)
        (x := v.getLsbD 3) (pv := parity v) (n := false) (c := flagC s.f) ∧
      t = { s.withR8Of t with f := t.f, q := t.f, memptr := s.bc + 1, pc := s.pc + 1,
                              portInputs := s.portInputs.tail,
                              portHist := .read s.bc v :: s.portHist }) ∧
  (∀ s : State,
    let v := s.portValue s.bc
    ∃ t, exec .in_portC s = .next t ∧
      hasFlags t.f (s := v.getLsbD 7) (z := decide (v = 0)) (y := v.getLsbD 5) (h := false)
        (x := v.getLsbD 3) (pv := parity v) (n := false) (c := flagC s.f) ∧
      t = { s with f := t.f, q := t.f, memptr := s.bc + 1, pc := s.pc + 1,
                   portInputs := s.portInputs.tail, portHist := .read s.bc v :: s.portHist })

/-- R88, R451, R455 to R457: an output makes one port write, records the byte in a paging latch exactly when
that latch's port predicate holds, and then the platform's hook runs: memory is what the hook exposes,
and unchanged without a hook. The predicates and the hook are the platform's: the statement holds whatever
they are (log entries 5, 19).
The spec's own decision: the upper byte of the port address, A or B, is D6, log entry 17. -/
def Obligations.PortOutput : Prop :=
  (∀ (n : Byte) (s : State),
    let pa := mkWord s.a n
    ∃ t, exec (.out_portN_a n) s = .next t ∧ hookRan s t ∧
      t = { s with memptr := mkWord s.a (n + 1), q := 0, pc := s.pc + 2,
                   pageA := if Config.pagingPortA pa then s.a else s.pageA,
                   pageB := if Config.pagingPortB pa then s.a else s.pageB,
                   portHist := .write pa s.a :: s.portHist,
                   mem := t.mem, portHooks := t.portHooks }) ∧
  (∀ (r : R8) (s : State), ∃ t, exec (.outR r) s = .next t ∧ hookRan s t ∧
    t = { s with memptr := s.bc + 1, q := 0, pc := s.pc + 1,
                 pageA := if Config.pagingPortA s.bc then s.r8 r else s.pageA,
                 pageB := if Config.pagingPortB s.bc then s.r8 r else s.pageB,
                 portHist := .write s.bc (s.r8 r) :: s.portHist,
                 mem := t.mem, portHooks := t.portHooks }) ∧
  (∀ s : State, ∃ t, exec .out_portC_0 s = .next t ∧ hookRan s t ∧
    t = { s with memptr := s.bc + 1, q := 0, pc := s.pc + 1,
                 pageA := if Config.pagingPortA s.bc then 0 else s.pageA,
                 pageB := if Config.pagingPortB s.bc then 0 else s.pageB,
                 portHist := .write s.bc 0 :: s.portHist,
                 mem := t.mem, portHooks := t.portHooks })

/-- R458 to R461 and R466: one iteration of INI, IND, INIR, INDR. The port address is BC before B falls,
the byte goes to HL; every flag comes from the byte, the new B and C plus or minus 1; a repeating form
goes on while B is not 0, with MEMPTR as in the single form.
The spec's own decision: A repeating iteration is D20, log entry 15; the port address is D6, log entry 17. -/
def Obligations.BlockInput : Prop :=
  ∀ (dir : Dir) (repeats : Bool) (s : State),
    let v := s.portValue s.bc
    let k := v.toNat + (match dir with
      | .inc => s.c + 1
      | .dec => s.c - 1).toNat
    let again := repeats && decide (s.b - 1 ≠ 0)
    ∃ t, exec (if repeats then .inRep dir else .inStep dir) s = .next t ∧
      t.memRead s.hl = v ∧ sameMemoryBut s t [s.hl] ∧
      t.hl = (match dir with
        | .inc => s.hl + 1
        | .dec => s.hl - 1) ∧
      hasFlags t.f (s := t.b.getLsbD 7) (z := decide (t.b = 0)) (y := t.b.getLsbD 5)
        (h := decide (255 < k)) (x := t.b.getLsbD 3) (pv := parity (BitVec.ofNat 8 (k % 8) ^^^ t.b))
        (n := v.getLsbD 7) (c := decide (255 < k)) ∧
      t = { s with b := s.b - 1, h := t.h, l := t.l, mem := t.mem, f := t.f, q := t.f,
                   memptr := match dir with
                     | .inc => s.bc + 1
                     | .dec => s.bc - 1,
                   pc := if again then s.pc - 1 else s.pc + 1,
                   portInputs := s.portInputs.tail,
                   portHist := .read s.bc v :: s.portHist }

/-- R462 to R466: one iteration of OUTI, OUTD, OTIR, OTDR. B falls before the port address is formed;
the addend of the flags is L after HL has stepped; the byte is read before the port write, and memory is
what the platform's hook then exposes, unchanged without a hook (log entry 19).
The spec's own decision: A repeating iteration is D20, log entry 15; the port address is D6, log entry 17. -/
def Obligations.BlockOutput : Prop :=
  ∀ (dir : Dir) (repeats : Bool) (s : State),
    let v := s.memRead s.hl
    let pa := mkWord (s.b - 1) s.c
    let again := repeats && decide (s.b - 1 ≠ 0)
    ∃ t, exec (if repeats then .outRep dir else .outStep dir) s = .next t ∧ hookRan s t ∧
      t.hl = (match dir with
        | .inc => s.hl + 1
        | .dec => s.hl - 1) ∧
      hasFlags t.f (s := t.b.getLsbD 7) (z := decide (t.b = 0)) (y := t.b.getLsbD 5)
        (h := decide (255 < v.toNat + t.l.toNat)) (x := t.b.getLsbD 3)
        (pv := parity (BitVec.ofNat 8 ((v.toNat + t.l.toNat) % 8) ^^^ t.b))
        (n := v.getLsbD 7) (c := decide (255 < v.toNat + t.l.toNat)) ∧
      t = { s with b := s.b - 1, h := t.h, l := t.l, f := t.f, q := t.f,
                   memptr := match dir with
                     | .inc => pa + 1
                     | .dec => pa - 1,
                   pc := if again then s.pc - 1 else s.pc + 1,
                   pageA := if Config.pagingPortA pa then v else s.pageA,
                   pageB := if Config.pagingPortB pa then v else s.pageB,
                   portHist := .write pa v :: s.portHist,
                   mem := t.mem, portHooks := t.portHooks }

/-! ### Control latches (spec/48_control_latches.md) and the prefixes (spec/40_engine.md R153) -/

/-- R480 to R485 and R153: NOP, HALT, DI, EI, the eight IM encodings and the four bare prefixes. -/
def Obligations.ControlLatches : Prop :=
  ∀ s : State,
    exec .nop s = .next { s with q := 0, pc := s.pc + 1 } ∧
    exec .halt s = .next { s with halted := true, q := 0, pc := s.pc + 1 } ∧
    exec .di s = .next { s with iff1 := false, iff2 := false, q := 0, pc := s.pc + 1 } ∧
    exec .ei s = .next { s with iff1 := true, iff2 := true, skipInt := true, q := 0, pc := s.pc + 1 } ∧
    (∀ y : BitNo, exec (.imRow y) s = .next
      { s with
        im := match y with
          | .b2 => .im1
          | .b6 => .im1
          | .b3 => .im2
          | .b7 => .im2
          | _ => .im0
        q := 0, pc := s.pc + 1 }) ∧
    (∀ p : Pfx, exec (.prefixOf p) s = .next { s with pfx := some p, pc := s.pc + 1 })

/-- R486, R487: SCF and CCF. Y and X are bits 5 and 3 of (Q xor F) or A.
The spec's own decision: that formula is D14, log entry 15. -/
def Obligations.CarryInstructions : Prop :=
  ∀ s : State,
    let w := (s.q ^^^ s.f) ||| s.a
    (∃ t, exec .scf s = .next t ∧
      hasFlags t.f (s := flagS s.f) (z := flagZ s.f) (y := w.getLsbD 5) (h := false) (x := w.getLsbD 3)
        (pv := flagPV s.f) (n := false) (c := true) ∧
      t = { s with f := t.f, q := t.f, pc := s.pc + 1 }) ∧
    (∃ t, exec .ccf s = .next t ∧
      hasFlags t.f (s := flagS s.f) (z := flagZ s.f) (y := w.getLsbD 5) (h := flagC s.f)
        (x := w.getLsbD 3) (pv := flagPV s.f) (n := false) (c := !flagC s.f) ∧
      t = { s with f := t.f, q := t.f, pc := s.pc + 1 })

/-! ### All instructions -/

/-- R500 to R502: a registered instruction never faults and its action never stops: from every state
every instruction answers a next state; and a step of a core whose fault latch is clear always answers
one. That the step which meets an absent index answers a next state too is D5 as log entry 13 reads it. -/
def Obligations.EveryInstructionCompletes : Prop :=
  (∀ (i : Instr) (s : State), ∃ t, exec i s = .next t) ∧
  (∀ (undoc : Bool) (s : State), s.fault = none → ∃ t, stepWith undoc s = .next t)

/-- R31: no instruction but `EX AF,AF'` and `EXX` reads or writes a shadow register: the action keeps
the shadow bank, and its effect on everything else does not depend on it. -/
def Obligations.ShadowBankOnlyByExchange : Prop :=
  ∀ (i : Instr) (s t : State) (bank : State), i ≠ .ex_af_afAlt → i ≠ .exx → exec i s = .next t →
    (t.a' = s.a' ∧ t.f' = s.f' ∧ t.b' = s.b' ∧ t.c' = s.c' ∧ t.d' = s.d' ∧ t.e' = s.e' ∧
      t.h' = s.h' ∧ t.l' = s.l') ∧
    exec i { s with a' := bank.a', f' := bank.f', b' := bank.b', c' := bank.c', d' := bank.d',
                    e' := bank.e', h' := bank.h', l' := bank.l' } =
      .next { t with a' := bank.a', f' := bank.f', b' := bank.b', c' := bank.c', d' := bank.d',
                     e' := bank.e', h' := bank.h', l' := bank.l' }

/-- R40, R41, R36, R49, R48: which actions write the interrupt flip-flops, the mode, I, the latches and
the interrupt line: IFF1 only EI, DI and the RETN and RETI encodings, IFF2 only EI and DI, IM only the IM
encodings, I only `LD I,A`, `halted` only HALT, `skip_int` only EI, `pfx` only the bare prefixes; no
action writes the fault latch or the interrupt line. -/
def Obligations.ControlStateFrame : Prop :=
  ∀ (i : Instr) (s t : State), exec i s = .next t →
    ((∀ y, i ≠ .retRow y) → i ≠ .ei → i ≠ .di → t.iff1 = s.iff1) ∧
    (i ≠ .ei → i ≠ .di → t.iff2 = s.iff2) ∧
    ((∀ y, i ≠ .imRow y) → t.im = s.im) ∧
    (i ≠ .ld_i_a → t.i = s.i) ∧
    (i ≠ .ld_r_a → t.r = s.r) ∧
    (i ≠ .halt → t.halted = s.halted) ∧
    (i ≠ .ei → t.skipInt = s.skipInt) ∧
    ((∀ p, i ≠ .prefixOf p) → t.pfx = s.pfx) ∧
    t.fault = s.fault ∧ t.nmiPending = s.nmiPending ∧ t.intPending = s.intPending ∧
    t.intData = s.intData

/-- R46: the Q latch. A bare prefix leaves it. After the action of every other instruction it is the new F
if the instruction's Flags line writes a flag through the flag logic (whether or not F comes out equal),
and 0 if not. An instruction that writes no flag leaves F, but for `POP AF` and `EX AF,AF'`, which load F
as data and leave Q at 0.
The spec's own decision: this law is D14, log entry 15. -/
def Obligations.QLatchLaw : Prop :=
  ∀ (i : Instr) (s t : State), exec i s = .next t →
    (i.desc.category = .bare → t.q = s.q) ∧
    (i.desc.category ≠ .bare → t.q = if writesFlags i.form then t.f else 0) ∧
    (writesFlags i.form = false → i ≠ .pop_af → i ≠ .ex_af_afAlt → t.f = s.f) ∧
    (i = .pop_af ∨ i = .ex_af_afAlt → t.q = 0)

/-! ### The engine step (spec/40_engine.md) -/

/-- R152 to R161: a step of a core that is neither faulted nor halted, on bytes that decode to the
registered instruction `i`, is `exec i` on the state with the prefix latch consumed and R incremented,
then the skip flag's clear and the interrupt controller as the category says.
The spec's own decision: that the clear comes before the controller is R159's reading (C5), log entry 15. -/
def Obligations.StepRunsDecodedInstruction : Prop :=
  ∀ (s : State) (i : Instr), s.fault = none → s.halted = false → i.WellFormed →
    decodeStep Config.undocRegistered s.pfx (s.memRead s.pc) (s.memRead (s.pc + 1))
      (s.memRead (s.pc + 2)) = .ok i →
    ∃ t, exec i { s with pfx := none, r := incR (refreshStep i) s.r } = .next t ∧
      step s = .next (match i.desc.category with
        | .bare => t
        | .enableInterrupts => t.interruptController
        | .normal => ({ t with skipInt := false }).interruptController)

/-- R37, R156: what R gains in a step: bit 7 is kept; the low seven bits gain nothing for a bare prefix,
2 for a prefixed instruction, 1 otherwise, modulo 128.
The spec's own decision: The 2 of DDCB and FDCB is D30, log entry 15. -/
def Obligations.RefreshIncrement : Prop :=
  (∀ (k : BitVec 7) (r : Byte), (incR k r).getLsbD 7 = r.getLsbD 7 ∧
    (incR k r).toNat % 128 = (r.toNat + k.toNat) % 128) ∧
  (∀ (undoc : Bool) (p : Option Pfx) (b0 b1 b2 : Byte) (i : Instr),
    decodeStep undoc p b0 b1 b2 = .ok i →
    (refreshStep i).toNat = if i.desc.category = .bare then 0 else if p.isSome then 2 else 1)

/-- R152, R154, R163, R48, R501: a byte whose index the table does not hold sets the fault latch to the index
and consumes the prefix latch; nothing else changes and the controller is not run. From then on the core
has no step, and no move of the outside world but a reset clears the latch.
The spec's own decision: the latch is D5 and the absent indices are D2, log entry 15; that the faulting
step answers a next state is log entry 13; that the state setters keep a set latch is log entry 20. -/
def Obligations.AbsentIndexFaults : Prop :=
  (∀ (s : State) (idx : Nat), s.fault = none → s.halted = false →
    decodeStep Config.undocRegistered s.pfx (s.memRead s.pc) (s.memRead (s.pc + 1))
      (s.memRead (s.pc + 2)) = .absent idx →
    step s = .next { s with pfx := none, fault := some idx }) ∧
  (∀ (s : State) (idx : Nat), s.fault = some idx → step s = .fault (.unimplementedOpcode idx)) ∧
  (∀ (s : State) (idx : Nat) (m : HostMove), s.fault = some idx →
    (∀ entry pageA pageB, m ≠ .reset entry pageA pageB) → (s.hostMove m).fault = some idx)

/-- R151, R557, R165: a halted step fetches nothing: it is one controller pass and Q reset. From a halted
state that the controller cannot wake, it changes Q alone, and the next state is such a state again. A
core that hangs in a jump to itself is there again after that jump, one step or two. The end of a run is
never a faulted, a halted or a hanging core, and every other core about to fetch an instruction is at the
end of a run that is to stop there.
The spec's own decision: that a halted step leaves R and the skip flag is D12 and D19, log entry 15. The
end of a run is the model's choice (D25), log entry 21. -/
def Obligations.HaltedStep : Prop :=
  (∀ s : State, s.fault = none → s.halted = true →
    step s = .next { s.interruptController with q := 0 }) ∧
  (∀ s : State, s.fault = none → s.haltHang →
    step s = .next { s with q := 0 } ∧ ({ s with q := 0 } : State).haltHang) ∧
  (∀ s : State, s.fault = none → s.jumpHang →
    ∃ t, (step s = .next t ∨ ∃ u, step s = .next u ∧ step u = .next t) ∧ t.pc = s.pc ∧ t.jumpHang) ∧
  (∀ (stop : Word) (s : State), s.finalAt stop →
    s.pc = stop ∧ s.hasStep ∧ ¬ s.haltHang ∧ ¬ s.jumpHang) ∧
  (∀ s : State, s.hasStep → s.halted = false → s.pfx = none → s.jumpTarget ≠ some s.pc →
    s.finalAt s.pc)

/-- R162, R554: a bare prefix is uninterruptible: its step latches the prefix, advances PC by 1 and
changes nothing else, whatever interrupts are pending and whatever R and the skip flag are. -/
def Obligations.PrefixStep : Prop :=
  ∀ (s : State) (p : Pfx), s.fault = none → s.halted = false → s.pfx = none →
    s.memRead s.pc = p.byte → step s = .next { s with pfx := some p, pc := s.pc + 1 }

/-! ### Interrupts (spec/60_exceptions.md) -/

/-- R504, R516, R505, R506: the controller's order: nothing while the skip flag is set, else the NMI, else
the maskable interrupt if IFF1 allows it, else nothing. At most one is taken. -/
def Obligations.ControllerPriority : Prop :=
  ∀ s : State,
    (s.skipInt = true → s.interruptController = s) ∧
    (s.skipInt = false → s.nmiPending = true →
      s.interruptController.pc = 0x0066 ∧ s.interruptController.nmiPending = false ∧
        s.interruptController.intPending = s.intPending) ∧
    (s.skipInt = false → s.nmiPending = false → s.intPending = true → s.iff1 = true →
      s.interruptController.intPending = false ∧ s.interruptController.iff1 = false) ∧
    (s.nmiPending = false → s.intPending = false ∨ s.iff1 = false → s.interruptController = s)

/-- R505, R517: taking an NMI. PC is pushed (high byte at SP - 1, low byte at SP - 2), IFF2 takes the old
IFF1, IFF1 is cleared, control goes to 0066, and the request is cleared; no other register and no other
byte of memory changes.
The spec's own decision: MEMPTR, Q and R are D12 to D14, log entry 15. -/
def Obligations.NmiEntry : Prop :=
  ∀ s : State, s.skipInt = false → s.nmiPending = true →
    let t := s.interruptController
    t.memRead (s.sp - 1) = hiByte s.pc ∧ t.memRead (s.sp - 2) = loByte s.pc ∧
      sameMemoryBut s t [s.sp - 1, s.sp - 2] ∧
      t = { s with mem := t.mem, sp := s.sp - 2, pc := 0x0066, memptr := 0x0066, iff2 := s.iff1,
                   iff1 := false, halted := false, nmiPending := false, q := 0 }

/-- R506, R511 to R515, R517: taking a maskable interrupt in each mode. Mode 0 gives the RST bytes and CD
an effect, and swallows any other byte with interrupts disabled; mode 1 goes to 0038; mode 2 goes to the
word at I and the bus byte. Where control is transferred the PC is pushed first, and the target word is
read from memory after the push.
The spec's own decision: Mode 0 beyond RST, the push of mode 2, MEMPTR and Q are D9 to D14 and D33, log entry 15. -/
def Obligations.IntEntry : Prop :=
  ∀ s : State, s.skipInt = false → s.nmiPending = false → s.intPending = true → s.iff1 = true →
    let t := s.interruptController
    let wordAt (a : Word) := mkWord (t.memRead (a + 1)) (t.memRead a)
    let target : Option Word := match s.im with
      | .im0 =>
        if s.intData &&& 0xC7 = 0xC7 then some (mkWord 0 (s.intData &&& 0x38))
        else if s.intData = 0xCD then some (wordAt s.pc)
        else none
      | .im1 => some 0x0038
      | .im2 => some (wordAt (mkWord s.i s.intData))
    match target with
    | some a =>
      t.memRead (s.sp - 1) = hiByte s.pc ∧ t.memRead (s.sp - 2) = loByte s.pc ∧
        sameMemoryBut s t [s.sp - 1, s.sp - 2] ∧
        t = { s with mem := t.mem, sp := s.sp - 2, pc := a, memptr := a, iff1 := false, iff2 := false,
                     halted := false, intPending := false, q := 0 }
    | none =>
      t = { s with iff1 := false, iff2 := false, halted := false, intPending := false, q := 0 }

/-- R483, R553, R159: the EI shadow. The step of EI accepts nothing, whatever is pending; the step of the
next instruction that is neither EI nor a bare prefix clears the flag before its controller pass. -/
def Obligations.EiShadow : Prop :=
  (∀ s : State, s.fault = none → s.halted = false → s.pfx = none → s.memRead s.pc = 0xFB →
    step s = .next { s with iff1 := true, iff2 := true, skipInt := true, q := 0, pc := s.pc + 1,
                            r := incR 1 s.r }) ∧
  (∀ (i : Instr) (s t : State), s.fault = none → s.halted = false → i.desc.category = .normal →
    decodeStep Config.undocRegistered s.pfx (s.memRead s.pc) (s.memRead (s.pc + 1))
      (s.memRead (s.pc + 2)) = .ok i →
    step s = .next t → t.skipInt = false)

/-! ### Encoding (spec/30_encoding.md) -/

/-- R127, R130: decoding the bytes of any instruction the table registers gives it back, with every
operand, and leaves the bytes that follow; a bare prefix is what a prefix byte alone decodes to. -/
def Obligations.DecodeOfEncode : Prop :=
  ∀ (undoc : Bool) (i : Instr), i.registered undoc = true →
    (∀ rest, i.desc.category ≠ .bare → decodeBytes undoc (encode i ++ rest) = .ok i rest) ∧
    (i.desc.category = .bare → decodeBytes undoc (encode i) = .ok i [])

/-- R130, R124: no byte of an encoding is dropped: whatever bytes decode to an instruction begin with
that instruction's encoding, and the instruction is registered. -/
def Obligations.EncodeOfDecode : Prop :=
  ∀ (undoc : Bool) (bytes : List Byte) (i : Instr) (rest : List Byte),
    decodeBytes undoc bytes = .ok i rest → bytes = encode i ++ rest ∧ i.registered undoc = true

/-- R119 to R124: every byte of the main space and of the CB space is registered whatever the value of
`UNDOC_REGISTERED`; the absent entries when the undocumented encodings are registered, and the
index each is rejected with. In the ED space: below 40, 77, 7F, and from 80 on all but the sixteen block
instructions. In the DD and FD spaces the listed opcodes are all there is; every DDCB and FDCB opcode is
registered. Without the undocumented encodings exactly the entries that are always registered remain.
The spec's own decision: the absent entries are D2, log entry 15; which entries are undocumented is D3, log
entry 6; the form of the index is D29, log entry 15. -/
def Obligations.RegisteredEntries : Prop :=
  ∀ b0 b1 b2 : Byte,
    (∀ undoc, (∃ i, decodeStep undoc none b0 b1 b2 = .ok i) ∧
      (∃ i, decodeStep undoc (some .cb) b0 b1 b2 = .ok i)) ∧
    (decodeStep true (some .ed) b0 b1 b2 = .absent (0xED00 + b0.toNat) ↔
      (b0.toNat < 0x40 ∨ b0 = 0x77 ∨ b0 = 0x7F ∨
        (0x80 ≤ b0.toNat ∧ ¬ (0xA0 ≤ b0.toNat ∧ b0.toNat ≤ 0xBF ∧ b0.toNat % 8 < 4)))) ∧
    (∀ x : Xy,
      let p := match x with
        | .ix => Pfx.dd
        | .iy => Pfx.fd
      (decodeStep true (some p) b0 b1 b2 = .absent (p.byte.toNat * 256 + b0.toNat) ↔
        ¬ (b0 = 0xCB ∨
          b0 ∈ ([0x09, 0x19, 0x21, 0x22, 0x23, 0x24, 0x25, 0x26, 0x29, 0x2A, 0x2B, 0x2C, 0x2D, 0x2E,
            0x34, 0x35, 0x36, 0x39, 0xE1, 0xE3, 0xE5, 0xE9, 0xF9] : List Byte) ∨
          (0x40 ≤ b0.toNat ∧ b0.toNat ≤ 0x7F ∧ b0 ≠ 0x76 ∧
            (b0.toNat / 8 % 8 ∈ [4, 5, 6] ∨ b0.toNat % 8 ∈ [4, 5, 6])) ∨
          (0x80 ≤ b0.toNat ∧ b0.toNat ≤ 0xBF ∧ b0.toNat % 8 ∈ [4, 5, 6]))) ∧
      (∃ i, decodeStep true (some p) 0xCB b1 b2 = .ok i)) ∧
    (∀ (p : Option Pfx) (i : Instr), decodeStep false p b0 b1 b2 = .ok i ↔
      decodeStep true p b0 b1 b2 = .ok i ∧ i.desc.always = true)

/-- Sanity: words written out from the encodings of R119 to R123 decode to the instruction they stand
for. The spec's own decision: that DD 00 is absent is D2, log entry 15. -/
def Obligations.SanityWords : Prop :=
  decodeBytes true [0x41] = .ok .ld_b_c [] ∧
  decodeBytes true [0x3E, 0x7F] = .ok (.ld_a_n 0x7F) [] ∧
  decodeBytes true [0x21, 0x34, 0x12] = .ok (.ld_hl_nn 0x1234) [] ∧
  decodeBytes true [0x76] = .ok .halt [] ∧
  decodeBytes true [0xCB, 0x7E] = .ok .bit_7_mhl [] ∧
  decodeBytes true [0xED, 0xB0] = .ok .ldir [] ∧
  decodeBytes true [0xDD, 0x36, 0x02, 0x99] = .ok (.ld_ixd_n 0x02 0x99) [] ∧
  decodeBytes true [0xFD, 0xCB, 0x05, 0xC6] = .ok (.set_0_iyd 0x05) [] ∧
  decodeBytes true [0xDD, 0x00] = .absent 0xDD00

/-! ### Memory, reset, invariants and the platform -/

/-- R82 to R85, R94: one byte written reads back, every other address reads as before, and a 16-bit
write lays the low byte at the address and the high byte at the next, modulo 65,536. -/
def Obligations.MemoryReadAfterWrite : Prop :=
  (∀ (s : State) (a x : Word) (v : Byte),
    (s.memWrite a v).memRead x = if x = a then v else s.memRead x) ∧
  (∀ (s : State) (a x : Word) (v : Word),
    (s.memWrite2 a v).memRead x =
      if x = a + 1 then hiByte v else if x = a then loByte v else s.memRead x) ∧
  (∀ (s : State) (a v : Word), (s.memWrite2 a v).memRead2 a = v)

/-- R55: the state right after reset, in the values that R55 gives.
The spec's own decision: that skip_int is reset is D22 and that the fault latch is clear is D5, log entry
15. -/
def Obligations.ResetValues : Prop :=
  let s := State.reset
  s.a = 0xFF ∧ s.f = 0xFF ∧ s.a' = 0xFF ∧ s.f' = 0xFF ∧
    s.b = 0 ∧ s.c = 0 ∧ s.d = 0 ∧ s.e = 0 ∧ s.h = 0 ∧ s.l = 0 ∧
    s.b' = 0 ∧ s.c' = 0 ∧ s.d' = 0 ∧ s.e' = 0 ∧ s.h' = 0 ∧ s.l' = 0 ∧
    s.ix = 0 ∧ s.iy = 0 ∧ s.sp = 0xFFFF ∧ s.i = 0 ∧ s.r = 0 ∧ s.im = .im0 ∧
    s.iff1 = false ∧ s.iff2 = false ∧ s.halted = false ∧ s.skipInt = false ∧ s.pfx = none ∧
    s.memptr = 0 ∧ s.q = 0 ∧ s.fault = none

/-- R550, R55: the reset move gives every register its reset value and PC the caller's entry point, in a
halted or faulted core too, and leaves memory, the ports and the interrupt line. -/
def Obligations.HostReset : Prop :=
  ∀ (s : State) (entry : Word) (pageA pageB : Byte),
    s.hostMove (.reset entry pageA pageB) =
      { State.reset with pc := entry, pageA := pageA, pageB := pageB, mem := s.mem,
                         portInputs := s.portInputs, portHist := s.portHist,
                         portHooks := s.portHooks, nmiPending := s.nmiPending, intPending := s.intPending,
                         intData := s.intData }

/-- R56 and the canonical form of memory: the invariant is kept by every engine step from every state
that has it, whatever `UNDOC_REGISTERED` is. -/
def Obligations.InvariantStep : Prop :=
  ∀ (undoc : Bool) (s t : State), s.Inv → stepWith undoc s = .next t → t.Inv

/-- The invariant holds after reset. -/
def Obligations.InvariantReset : Prop := State.reset.Inv
end

