-- ==== Sys2Proof/Laws/Flags.lean ====
section
/-! SUPPORT. The laws of the flag byte: what each flag of a packed byte is, and the flag computations in
exact arithmetic. -/

namespace Sys2Proof.Machine

/-! ### Bytes and words -/

theorem mkWord_toNat (h l : Byte) : (mkWord h l).toNat = h.toNat * 256 + l.toNat := by
  simp only [mkWord, BitVec.toNat_append]
  rw [← Nat.shiftLeft_add_eq_or_of_lt l.isLt, Nat.shiftLeft_eq]

theorem hiByte_toNat (w : Word) : (hiByte w).toNat = w.toNat / 256 := by
  have h := w.isLt
  simp only [hiByte, BitVec.extractLsb'_toNat, Nat.shiftRight_eq_div_pow]; omega

theorem loByte_toNat (w : Word) : (loByte w).toNat = w.toNat % 256 := by
  simp only [loByte, BitVec.extractLsb'_toNat, Nat.shiftRight_zero]

@[simp] theorem mkWord_hiByte_loByte (w : Word) : mkWord (hiByte w) (loByte w) = w := by
  apply BitVec.eq_of_toNat_eq; rw [mkWord_toNat, hiByte_toNat, loByte_toNat]; omega

@[simp] theorem hiByte_mkWord (h l : Byte) : hiByte (mkWord h l) = h := by
  have hl := l.isLt
  apply BitVec.eq_of_toNat_eq; rw [hiByte_toNat, mkWord_toNat]; omega

@[simp] theorem loByte_mkWord (h l : Byte) : loByte (mkWord h l) = l := by
  have hl := l.isLt
  apply BitVec.eq_of_toNat_eq; rw [loByte_toNat, mkWord_toNat]; omega

/-! ### Packing -/

section
variable (s z y h x pv n c : Bool)

@[simp] theorem flagS_packF : flagS (packF s z y h x pv n c) = s := by
  revert s z y h x pv n c; decide
@[simp] theorem flagZ_packF : flagZ (packF s z y h x pv n c) = z := by
  revert s z y h x pv n c; decide
@[simp] theorem flagY_packF : flagY (packF s z y h x pv n c) = y := by
  revert s z y h x pv n c; decide
@[simp] theorem flagH_packF : flagH (packF s z y h x pv n c) = h := by
  revert s z y h x pv n c; decide
@[simp] theorem flagX_packF : flagX (packF s z y h x pv n c) = x := by
  revert s z y h x pv n c; decide
@[simp] theorem flagPV_packF : flagPV (packF s z y h x pv n c) = pv := by
  revert s z y h x pv n c; decide
@[simp] theorem flagN_packF : flagN (packF s z y h x pv n c) = n := by
  revert s z y h x pv n c; decide
@[simp] theorem flagC_packF : flagC (packF s z y h x pv n c) = c := by
  revert s z y h x pv n c; decide

/-- A packed byte has the flags it was packed from. -/
theorem hasFlags_packF {s' z' y' h' x' pv' n' c' : Bool} (hs : s = s') (hz : z = z') (hy : y = y')
    (hh : h = h') (hx : x = x') (hpv : pv = pv') (hn : n = n') (hc : c = c') :
    hasFlags (packF s z y h x pv n c) s' z' y' h' x' pv' n' c' := by
  subst hs hz hy hh hx hpv hn hc; simp [hasFlags]

/-- The flags of `sz(v); xy(src)` with the other four given. -/
theorem hasFlags_szxyF (v src : Byte) :
    hasFlags (szxyF v src h pv n c) (v.getLsbD 7) (decide (v = 0)) (src.getLsbD 5) h (src.getLsbD 3)
      pv n c := by
  simp only [szxyF, hasFlags, flagS_packF, flagZ_packF, flagY_packF, flagH_packF, flagX_packF,
    flagPV_packF, flagN_packF, flagC_packF, true_and, and_true]
  simp [beq_eq_decide]

end

/-! ### The 8-bit adder -/

theorem msb_eq_decide8 (v : Byte) : v.getLsbD 7 = decide (128 ≤ v.toNat) := by
  have := BitVec.msb_eq_decide v
  rwa [BitVec.msb_eq_getLsbD_last] at this

theorem carryIn9 (cin : Bool) : (carryIn 9 cin).toNat = cin.toNat := by cases cin <;> rfl

theorem add8_sum (a b : Byte) (cin : Bool) :
    (a.zeroExtend 9 + b.zeroExtend 9 + carryIn 9 cin : BitVec 9).toNat = a.toNat + b.toNat + cin.toNat := by
  have ha := a.isLt; have hb := b.isLt; have hc := cin.toNat_le
  simp only [BitVec.toNat_add, BitVec.toNat_setWidth, BitVec.zeroExtend, carryIn9]; omega

theorem add8_r (a b : Byte) (cin : Bool) :
    (add8 a b cin).r.toNat = (a.toNat + b.toNat + cin.toNat) % 256 := by
  simp only [add8, BitVec.extractLsb'_toNat, add8_sum]; simp

theorem getLsbD_eq_decide {w : Nat} (t : BitVec (w + 1)) : t.getLsbD w = decide (2 ^ w ≤ t.toNat) := by
  have := BitVec.msb_eq_decide t
  simpa [BitVec.msb_eq_getLsbD_last] using this

theorem add8_c (a b : Byte) (cin : Bool) :
    (add8 a b cin).c = decide (255 < a.toNat + b.toNat + cin.toNat) := by
  simp only [add8]
  rw [getLsbD_eq_decide, add8_sum]
  congr 1

theorem add8_v (a b : Byte) (cin : Bool) :
    (add8 a b cin).v =
      decide (a.toInt + b.toInt + cin.toNat < -128 ∨ 127 < a.toInt + b.toInt + cin.toNat) := by
  have hr := add8_r a b cin
  have ha := a.isLt; have hb := b.isLt; have hc := cin.toNat_le
  have e : (add8 a b cin).v = (a.msb == b.msb && (add8 a b cin).r.msb != a.msb) := rfl
  rw [e, BitVec.msb_eq_decide, BitVec.msb_eq_decide, BitVec.msb_eq_decide, hr,
    BitVec.toInt_eq_toNat_cond, BitVec.toInt_eq_toNat_cond]
  rw [Bool.eq_iff_iff]
  simp only [Bool.and_eq_true, beq_iff_eq, bne_iff_ne, ne_eq, decide_eq_decide, decide_eq_true_eq]
  split <;> split <;> omega

/-! ### The 8-bit subtracter -/

theorem sub8_diff (a b : Byte) (cin : Bool) :
    (a.zeroExtend 9 - b.zeroExtend 9 - carryIn 9 cin : BitVec 9).toNat =
      (512 + a.toNat - b.toNat - cin.toNat) % 512 := by
  have ha := a.isLt; have hb := b.isLt; have hc := cin.toNat_le
  simp only [BitVec.toNat_sub, BitVec.toNat_setWidth, BitVec.zeroExtend, carryIn9]; omega

theorem sub8_r (a b : Byte) (cin : Bool) :
    (sub8 a b cin).r.toNat = (256 + a.toNat + 256 - b.toNat - cin.toNat) % 256 := by
  have ha := a.isLt; have hb := b.isLt; have hc := cin.toNat_le
  simp only [sub8, BitVec.extractLsb'_toNat, sub8_diff, Nat.shiftRight_zero]; omega

theorem sub8_c (a b : Byte) (cin : Bool) :
    (sub8 a b cin).c = decide (a.toNat < b.toNat + cin.toNat) := by
  have ha := a.isLt; have hb := b.isLt; have hc := cin.toNat_le
  simp only [sub8]
  rw [getLsbD_eq_decide, sub8_diff, decide_eq_decide]
  omega

theorem sub8_h (a b : Byte) (cin : Bool) :
    (sub8 a b cin).h = decide (a.toNat % 16 < b.toNat % 16 + cin.toNat) := by
  have ha := a.isLt; have hb := b.isLt; have hc := cin.toNat_le
  have h5 : (carryIn 5 cin).toNat = cin.toNat := by cases cin <;> rfl
  simp only [sub8]
  rw [getLsbD_eq_decide, decide_eq_decide]
  simp only [BitVec.toNat_sub, BitVec.toNat_setWidth, BitVec.zeroExtend, h5, loNibble,
    BitVec.extractLsb'_toNat, Nat.shiftRight_zero]
  omega

theorem sub8_v (a b : Byte) (cin : Bool) :
    (sub8 a b cin).v =
      decide (a.toInt - b.toInt - cin.toNat < -128 ∨ 127 < a.toInt - b.toInt - cin.toNat) := by
  have hr := sub8_r a b cin
  have ha := a.isLt; have hb := b.isLt; have hc := cin.toNat_le
  have e : (sub8 a b cin).v = (a.msb != b.msb && (sub8 a b cin).r.msb != a.msb) := rfl
  rw [e, BitVec.msb_eq_decide, BitVec.msb_eq_decide, BitVec.msb_eq_decide, hr,
    BitVec.toInt_eq_toNat_cond, BitVec.toInt_eq_toNat_cond]
  rw [Bool.eq_iff_iff]
  simp only [Bool.and_eq_true, bne_iff_ne, ne_eq, decide_eq_decide, decide_eq_true_eq]
  split <;> split <;> omega

/-- Without a borrow in, the difference is the bit vector difference. -/
theorem sub8_r_eq (a b : Byte) : (sub8 a b false).r = a - b := by
  apply BitVec.eq_of_toNat_eq
  have ha := a.isLt; have hb := b.isLt
  rw [sub8_r, BitVec.toNat_sub]; simp only [Bool.toNat_false]; omega

/-! ### The 16-bit adders -/

theorem add16_sum (a b : Word) (cin : Bool) :
    (a.zeroExtend 17 + b.zeroExtend 17 + carryIn 17 cin : BitVec 17).toNat =
      a.toNat + b.toNat + cin.toNat := by
  have ha := a.isLt; have hb := b.isLt; have hc := cin.toNat_le
  have h17 : (carryIn 17 cin).toNat = cin.toNat := by cases cin <;> rfl
  simp only [BitVec.toNat_add, BitVec.toNat_setWidth, BitVec.zeroExtend, h17]; omega

theorem add16_r (a b : Word) (cin : Bool) :
    (add16 a b cin).r.toNat = (a.toNat + b.toNat + cin.toNat) % 65536 := by
  simp only [add16, BitVec.extractLsb'_toNat, add16_sum]; simp

theorem add16_c (a b : Word) (cin : Bool) :
    (add16 a b cin).c = decide (65535 < a.toNat + b.toNat + cin.toNat) := by
  simp only [add16]
  rw [getLsbD_eq_decide, add16_sum]
  congr 1

theorem add16_v (a b : Word) (cin : Bool) :
    (add16 a b cin).v =
      decide (a.toInt + b.toInt + cin.toNat < -32768 ∨ 32767 < a.toInt + b.toInt + cin.toNat) := by
  have hr := add16_r a b cin
  have ha := a.isLt; have hb := b.isLt; have hc := cin.toNat_le
  have e : (add16 a b cin).v = (a.msb == b.msb && (add16 a b cin).r.msb != a.msb) := rfl
  rw [e, BitVec.msb_eq_decide, BitVec.msb_eq_decide, BitVec.msb_eq_decide, hr,
    BitVec.toInt_eq_toNat_cond, BitVec.toInt_eq_toNat_cond]
  rw [Bool.eq_iff_iff]
  simp only [Bool.and_eq_true, beq_iff_eq, bne_iff_ne, ne_eq, decide_eq_decide, decide_eq_true_eq]
  split <;> split <;> omega

theorem sub16_diff (a b : Word) (cin : Bool) :
    (a.zeroExtend 17 - b.zeroExtend 17 - carryIn 17 cin : BitVec 17).toNat =
      (131072 + a.toNat - b.toNat - cin.toNat) % 131072 := by
  have ha := a.isLt; have hb := b.isLt; have hc := cin.toNat_le
  have h17 : (carryIn 17 cin).toNat = cin.toNat := by cases cin <;> rfl
  simp only [BitVec.toNat_sub, BitVec.toNat_setWidth, BitVec.zeroExtend, h17]; omega

theorem sub16_r (a b : Word) (cin : Bool) :
    (sub16 a b cin).r.toNat = (131072 + a.toNat - b.toNat - cin.toNat) % 65536 := by
  have ha := a.isLt; have hb := b.isLt; have hc := cin.toNat_le
  simp only [sub16, BitVec.extractLsb'_toNat, sub16_diff, Nat.shiftRight_zero]; omega

theorem sub16_c (a b : Word) (cin : Bool) :
    (sub16 a b cin).c = decide (a.toNat < b.toNat + cin.toNat) := by
  have ha := a.isLt; have hb := b.isLt; have hc := cin.toNat_le
  simp only [sub16]
  rw [getLsbD_eq_decide, sub16_diff, decide_eq_decide]
  omega

theorem sub16_h (a b : Word) (cin : Bool) :
    (sub16 a b cin).h = decide (a.toNat % 4096 < b.toNat % 4096 + cin.toNat) := by
  have ha := a.isLt; have hb := b.isLt; have hc := cin.toNat_le
  have h13 : (carryIn 13 cin).toNat = cin.toNat := by cases cin <;> rfl
  simp only [sub16]
  rw [getLsbD_eq_decide, decide_eq_decide]
  simp only [BitVec.toNat_sub, BitVec.toNat_setWidth, BitVec.zeroExtend, h13,
    BitVec.extractLsb'_toNat, Nat.shiftRight_zero]
  omega

theorem sub16_v (a b : Word) (cin : Bool) :
    (sub16 a b cin).v =
      decide (a.toInt - b.toInt - cin.toNat < -32768 ∨ 32767 < a.toInt - b.toInt - cin.toNat) := by
  have hr := sub16_r a b cin
  have ha := a.isLt; have hb := b.isLt; have hc := cin.toNat_le
  have e : (sub16 a b cin).v = (a.msb != b.msb && (sub16 a b cin).r.msb != a.msb) := rfl
  rw [e, BitVec.msb_eq_decide, BitVec.msb_eq_decide, BitVec.msb_eq_decide, hr,
    BitVec.toInt_eq_toNat_cond, BitVec.toInt_eq_toNat_cond]
  rw [Bool.eq_iff_iff]
  simp only [Bool.and_eq_true, bne_iff_ne, ne_eq, decide_eq_decide, decide_eq_true_eq]
  split <;> split <;> omega

end Sys2Proof.Machine
end

