-- ==== Sys2Proof/Laws/Memory.lean ====
section
/-! SUPPORT. The laws of memory: a byte written reads back, every other address reads as before, and the
canonical form is kept. -/

namespace Sys2Proof.Machine

theorem Memory.readNat_eraseNat (m : Memory) (x y : Nat) :
    (m.eraseNat x).readNat y = if y = x then Config.unlistedByte else m.readNat y := by
  induction m with
  | nil => simp [Memory.eraseNat, Memory.readNat]
  | cons e m ih =>
    obtain ⟨a, w⟩ := e
    simp only [Memory.eraseNat]
    split
    · next h => subst h; rw [ih]; simp only [Memory.readNat]; split <;> simp_all [eq_comm]
    · next h =>
      simp only [Memory.readNat, ih]
      split
      · next h' => subst h'; simp [h]
      · rfl

theorem Memory.readNat_insertNat_self (m : Memory) (x : Nat) (v : Byte) :
    ((m.eraseNat x).insertNat x v).readNat x = v := by
  induction m with
  | nil => simp [Memory.eraseNat, Memory.insertNat, Memory.readNat]
  | cons e m ih =>
    obtain ⟨a, w⟩ := e
    simp only [Memory.eraseNat]
    split
    · exact ih
    · next h => simp only [Memory.insertNat]; split <;> simp [Memory.readNat, h, ih]

theorem Memory.readNat_insertNat_other (m : Memory) (x y : Nat) (v : Byte) (h : y ≠ x) :
    (m.insertNat x v).readNat y = m.readNat y := by
  induction m with
  | nil => simp [Memory.insertNat, Memory.readNat, h.symm]
  | cons e m ih =>
    obtain ⟨a, w⟩ := e
    simp only [Memory.insertNat]
    split
    · simp [Memory.readNat, h.symm]
    · simp only [Memory.readNat, ih]

theorem Memory.readNat_writeNat (m : Memory) (x y : Nat) (v : Byte) :
    (m.writeNat x v).readNat y = if y = x then v else m.readNat y := by
  unfold Memory.writeNat
  split
  · next h => rw [Memory.readNat_eraseNat, h]
  · by_cases h : y = x
    · subst h; simp [Memory.readNat_insertNat_self]
    · simp [Memory.readNat_insertNat_other _ _ _ _ h, Memory.readNat_eraseNat, h]

/-- Read after write, at any address. -/
theorem Memory.read_write (m : Memory) (x y : Word) (v : Byte) :
    (m.write x v).read y = if y = x then v else m.read y := by
  simp only [Memory.read, Memory.write, Memory.readNat_writeNat, BitVec.toNat_inj]

theorem Memory.wfFrom_le {m : Memory} {lo hi : Nat} (hle : lo ≤ hi) (h : m.wfFrom hi = true) :
    m.wfFrom lo = true := by
  cases m with
  | nil => rfl
  | cons e m =>
    obtain ⟨a, w⟩ := e
    simp only [Memory.wfFrom, Bool.and_eq_true, decide_eq_true_eq] at h ⊢
    exact ⟨⟨⟨by omega, h.1.1.2⟩, h.1.2⟩, h.2⟩

theorem Memory.wfFrom_eraseNat {m : Memory} {lo : Nat} (x : Nat) (h : m.wfFrom lo = true) :
    (m.eraseNat x).wfFrom lo = true := by
  induction m generalizing lo with
  | nil => rfl
  | cons e m ih =>
    obtain ⟨a, w⟩ := e
    simp only [Memory.wfFrom, Bool.and_eq_true, decide_eq_true_eq] at h
    obtain ⟨⟨⟨h1, h2⟩, h3⟩, h4⟩ := h
    simp only [Memory.eraseNat]
    split
    · exact Memory.wfFrom_le (by omega) (ih h4)
    · simp [Memory.wfFrom, h1, h2, h3, ih h4]
theorem Memory.wfFrom_insertNat {m : Memory} {lo x : Nat} {v : Byte} (hx : x < 65536)
    (hv : v ≠ Config.unlistedByte) (hlo : lo ≤ x) (h : (m.eraseNat x).wfFrom lo = true) :
    ((m.eraseNat x).insertNat x v).wfFrom lo = true := by
  induction m generalizing lo with
  | nil => simp [Memory.eraseNat, Memory.insertNat, Memory.wfFrom, hx, hv, hlo]
  | cons e m ih =>
    obtain ⟨a, w⟩ := e
    simp only [Memory.eraseNat] at h ⊢
    split at h
    · next ha => simp only [ha, if_true]; exact ih hlo h
    · next ha =>
      simp only [ha, if_false]
      simp only [Memory.wfFrom, Bool.and_eq_true, decide_eq_true_eq] at h
      obtain ⟨⟨⟨h1, h2⟩, h3⟩, h4⟩ := h
      simp only [Memory.insertNat]
      split
      · next hxa =>
        simp only [Memory.wfFrom, Bool.and_eq_true, decide_eq_true_eq]
        exact ⟨⟨⟨hlo, hx⟩, hv⟩, ⟨⟨⟨by omega, h2⟩, h3⟩, h4⟩⟩
      · next hxa =>
        simp only [Memory.wfFrom, Bool.and_eq_true, decide_eq_true_eq]
        exact ⟨⟨⟨h1, h2⟩, h3⟩, ih (by omega) h4⟩

/-- Writing a byte keeps the canonical form. -/
theorem Memory.wf_write {m : Memory} (x : Word) (v : Byte) (h : m.wf = true) :
    (m.write x v).wf = true := by
  unfold Memory.write Memory.writeNat Memory.wf at *
  split
  · exact Memory.wfFrom_eraseNat _ h
  · next hv =>
    exact Memory.wfFrom_insertNat x.isLt hv (Nat.zero_le _) (Memory.wfFrom_eraseNat _ h)

/-- Exposing changes keeps the canonical form. -/
theorem Memory.wf_expose {m : Memory} (changes : List MemChange) (h : m.wf = true) :
    (m.expose changes).wf = true := by
  induction changes generalizing m with
  | nil => exact h
  | cons c rest ih => exact ih (Memory.wf_write c.1 c.2 h)

/-! ### In a state -/

theorem memRead_memWrite (s : State) (a x : Word) (v : Byte) :
    (s.memWrite a v).memRead x = if x = a then v else s.memRead x :=
  Memory.read_write s.mem a x v

@[simp] theorem memRead_memWrite_self (s : State) (a : Word) (v : Byte) :
    (s.memWrite a v).memRead a = v := by rw [memRead_memWrite, if_pos rfl]

theorem memRead_memWrite_other (s : State) {a x : Word} (v : Byte) (h : x ≠ a) :
    (s.memWrite a v).memRead x = s.memRead x := by rw [memRead_memWrite, if_neg h]

theorem add_one_ne (a : Word) : a + 1 ≠ a := by bv_omega

theorem memRead_memWrite2 (s : State) (a x v : Word) :
    (s.memWrite2 a v).memRead x =
      if x = a + 1 then hiByte v else if x = a then loByte v else s.memRead x := by
  simp only [State.memWrite2, memRead_memWrite]

theorem memRead_push16 (s : State) (v x : Word) :
    (s.push16 v).memRead x =
      if x = s.sp - 2 then loByte v else if x = s.sp - 1 then hiByte v else s.memRead x := by
  have h : s.sp - 1 - 1 = s.sp - 2 := by bv_omega
  simp only [State.push16]
  rw [memRead_memWrite]
  simp only [State.memWrite, State.memRead, h, Memory.read_write]

theorem push16_sp (s : State) (v : Word) : (s.push16 v).sp = s.sp - 2 := by
  simp only [State.push16, State.memWrite]; bv_omega

end Sys2Proof.Machine
end

