-- ==== Sys2Proof/Laws/State.lean ====
section
/-! SUPPORT. One lemma per field per named update of the state: what the update leaves and what it writes, so
that no proof unfolds a record update. An update indexed by an operand has a lemma for the fields that
no operand writes, and reads of the registers it does write below. -/

namespace Sys2Proof.Machine

/-! ### `setR8` -/

@[simp] theorem setR8_f (s : State) (r : R8) (v : Byte) : (s.setR8 r v).f = s.f := by cases r <;> rfl
@[simp] theorem setR8_a_alt (s : State) (r : R8) (v : Byte) : (s.setR8 r v).a' = s.a' := by cases r <;> rfl
@[simp] theorem setR8_f_alt (s : State) (r : R8) (v : Byte) : (s.setR8 r v).f' = s.f' := by cases r <;> rfl
@[simp] theorem setR8_b_alt (s : State) (r : R8) (v : Byte) : (s.setR8 r v).b' = s.b' := by cases r <;> rfl
@[simp] theorem setR8_c_alt (s : State) (r : R8) (v : Byte) : (s.setR8 r v).c' = s.c' := by cases r <;> rfl
@[simp] theorem setR8_d_alt (s : State) (r : R8) (v : Byte) : (s.setR8 r v).d' = s.d' := by cases r <;> rfl
@[simp] theorem setR8_e_alt (s : State) (r : R8) (v : Byte) : (s.setR8 r v).e' = s.e' := by cases r <;> rfl
@[simp] theorem setR8_h_alt (s : State) (r : R8) (v : Byte) : (s.setR8 r v).h' = s.h' := by cases r <;> rfl
@[simp] theorem setR8_l_alt (s : State) (r : R8) (v : Byte) : (s.setR8 r v).l' = s.l' := by cases r <;> rfl
@[simp] theorem setR8_ix (s : State) (r : R8) (v : Byte) : (s.setR8 r v).ix = s.ix := by cases r <;> rfl
@[simp] theorem setR8_iy (s : State) (r : R8) (v : Byte) : (s.setR8 r v).iy = s.iy := by cases r <;> rfl
@[simp] theorem setR8_sp (s : State) (r : R8) (v : Byte) : (s.setR8 r v).sp = s.sp := by cases r <;> rfl
@[simp] theorem setR8_pc (s : State) (r : R8) (v : Byte) : (s.setR8 r v).pc = s.pc := by cases r <;> rfl
@[simp] theorem setR8_i (s : State) (r : R8) (v : Byte) : (s.setR8 r v).i = s.i := by cases r <;> rfl
@[simp] theorem setR8_r (s : State) (r : R8) (v : Byte) : (s.setR8 r v).r = s.r := by cases r <;> rfl
@[simp] theorem setR8_iff1 (s : State) (r : R8) (v : Byte) : (s.setR8 r v).iff1 = s.iff1 := by cases r <;> rfl
@[simp] theorem setR8_iff2 (s : State) (r : R8) (v : Byte) : (s.setR8 r v).iff2 = s.iff2 := by cases r <;> rfl
@[simp] theorem setR8_im (s : State) (r : R8) (v : Byte) : (s.setR8 r v).im = s.im := by cases r <;> rfl
@[simp] theorem setR8_halted (s : State) (r : R8) (v : Byte) : (s.setR8 r v).halted = s.halted := by cases r <;> rfl
@[simp] theorem setR8_skipInt (s : State) (r : R8) (v : Byte) : (s.setR8 r v).skipInt = s.skipInt := by cases r <;> rfl
@[simp] theorem setR8_pfx (s : State) (r : R8) (v : Byte) : (s.setR8 r v).pfx = s.pfx := by cases r <;> rfl
@[simp] theorem setR8_memptr (s : State) (r : R8) (v : Byte) : (s.setR8 r v).memptr = s.memptr := by cases r <;> rfl
@[simp] theorem setR8_q (s : State) (r : R8) (v : Byte) : (s.setR8 r v).q = s.q := by cases r <;> rfl
@[simp] theorem setR8_pageA (s : State) (r : R8) (v : Byte) : (s.setR8 r v).pageA = s.pageA := by cases r <;> rfl
@[simp] theorem setR8_pageB (s : State) (r : R8) (v : Byte) : (s.setR8 r v).pageB = s.pageB := by cases r <;> rfl
@[simp] theorem setR8_fault (s : State) (r : R8) (v : Byte) : (s.setR8 r v).fault = s.fault := by cases r <;> rfl
@[simp] theorem setR8_nmiPending (s : State) (r : R8) (v : Byte) : (s.setR8 r v).nmiPending = s.nmiPending := by cases r <;> rfl
@[simp] theorem setR8_intPending (s : State) (r : R8) (v : Byte) : (s.setR8 r v).intPending = s.intPending := by cases r <;> rfl
@[simp] theorem setR8_intData (s : State) (r : R8) (v : Byte) : (s.setR8 r v).intData = s.intData := by cases r <;> rfl
@[simp] theorem setR8_mem (s : State) (r : R8) (v : Byte) : (s.setR8 r v).mem = s.mem := by cases r <;> rfl
@[simp] theorem setR8_portInputs (s : State) (r : R8) (v : Byte) : (s.setR8 r v).portInputs = s.portInputs := by cases r <;> rfl
@[simp] theorem setR8_portHist (s : State) (r : R8) (v : Byte) : (s.setR8 r v).portHist = s.portHist := by cases r <;> rfl
@[simp] theorem setR8_portHooks (s : State) (r : R8) (v : Byte) : (s.setR8 r v).portHooks = s.portHooks := by cases r <;> rfl

/-! ### `setBc` -/

@[simp] theorem setBc_a (s : State) (v : Word) : (s.setBc v).a = s.a := rfl
@[simp] theorem setBc_f (s : State) (v : Word) : (s.setBc v).f = s.f := rfl
@[simp] theorem setBc_b (s : State) (v : Word) : (s.setBc v).b = hiByte v := rfl
@[simp] theorem setBc_c (s : State) (v : Word) : (s.setBc v).c = loByte v := rfl
@[simp] theorem setBc_d (s : State) (v : Word) : (s.setBc v).d = s.d := rfl
@[simp] theorem setBc_e (s : State) (v : Word) : (s.setBc v).e = s.e := rfl
@[simp] theorem setBc_h (s : State) (v : Word) : (s.setBc v).h = s.h := rfl
@[simp] theorem setBc_l (s : State) (v : Word) : (s.setBc v).l = s.l := rfl
@[simp] theorem setBc_a_alt (s : State) (v : Word) : (s.setBc v).a' = s.a' := rfl
@[simp] theorem setBc_f_alt (s : State) (v : Word) : (s.setBc v).f' = s.f' := rfl
@[simp] theorem setBc_b_alt (s : State) (v : Word) : (s.setBc v).b' = s.b' := rfl
@[simp] theorem setBc_c_alt (s : State) (v : Word) : (s.setBc v).c' = s.c' := rfl
@[simp] theorem setBc_d_alt (s : State) (v : Word) : (s.setBc v).d' = s.d' := rfl
@[simp] theorem setBc_e_alt (s : State) (v : Word) : (s.setBc v).e' = s.e' := rfl
@[simp] theorem setBc_h_alt (s : State) (v : Word) : (s.setBc v).h' = s.h' := rfl
@[simp] theorem setBc_l_alt (s : State) (v : Word) : (s.setBc v).l' = s.l' := rfl
@[simp] theorem setBc_ix (s : State) (v : Word) : (s.setBc v).ix = s.ix := rfl
@[simp] theorem setBc_iy (s : State) (v : Word) : (s.setBc v).iy = s.iy := rfl
@[simp] theorem setBc_sp (s : State) (v : Word) : (s.setBc v).sp = s.sp := rfl
@[simp] theorem setBc_pc (s : State) (v : Word) : (s.setBc v).pc = s.pc := rfl
@[simp] theorem setBc_i (s : State) (v : Word) : (s.setBc v).i = s.i := rfl
@[simp] theorem setBc_r (s : State) (v : Word) : (s.setBc v).r = s.r := rfl
@[simp] theorem setBc_iff1 (s : State) (v : Word) : (s.setBc v).iff1 = s.iff1 := rfl
@[simp] theorem setBc_iff2 (s : State) (v : Word) : (s.setBc v).iff2 = s.iff2 := rfl
@[simp] theorem setBc_im (s : State) (v : Word) : (s.setBc v).im = s.im := rfl
@[simp] theorem setBc_halted (s : State) (v : Word) : (s.setBc v).halted = s.halted := rfl
@[simp] theorem setBc_skipInt (s : State) (v : Word) : (s.setBc v).skipInt = s.skipInt := rfl
@[simp] theorem setBc_pfx (s : State) (v : Word) : (s.setBc v).pfx = s.pfx := rfl
@[simp] theorem setBc_memptr (s : State) (v : Word) : (s.setBc v).memptr = s.memptr := rfl
@[simp] theorem setBc_q (s : State) (v : Word) : (s.setBc v).q = s.q := rfl
@[simp] theorem setBc_pageA (s : State) (v : Word) : (s.setBc v).pageA = s.pageA := rfl
@[simp] theorem setBc_pageB (s : State) (v : Word) : (s.setBc v).pageB = s.pageB := rfl
@[simp] theorem setBc_fault (s : State) (v : Word) : (s.setBc v).fault = s.fault := rfl
@[simp] theorem setBc_nmiPending (s : State) (v : Word) : (s.setBc v).nmiPending = s.nmiPending := rfl
@[simp] theorem setBc_intPending (s : State) (v : Word) : (s.setBc v).intPending = s.intPending := rfl
@[simp] theorem setBc_intData (s : State) (v : Word) : (s.setBc v).intData = s.intData := rfl
@[simp] theorem setBc_mem (s : State) (v : Word) : (s.setBc v).mem = s.mem := rfl
@[simp] theorem setBc_portInputs (s : State) (v : Word) : (s.setBc v).portInputs = s.portInputs := rfl
@[simp] theorem setBc_portHist (s : State) (v : Word) : (s.setBc v).portHist = s.portHist := rfl
@[simp] theorem setBc_portHooks (s : State) (v : Word) : (s.setBc v).portHooks = s.portHooks := rfl

/-! ### `setDe` -/

@[simp] theorem setDe_a (s : State) (v : Word) : (s.setDe v).a = s.a := rfl
@[simp] theorem setDe_f (s : State) (v : Word) : (s.setDe v).f = s.f := rfl
@[simp] theorem setDe_b (s : State) (v : Word) : (s.setDe v).b = s.b := rfl
@[simp] theorem setDe_c (s : State) (v : Word) : (s.setDe v).c = s.c := rfl
@[simp] theorem setDe_d (s : State) (v : Word) : (s.setDe v).d = hiByte v := rfl
@[simp] theorem setDe_e (s : State) (v : Word) : (s.setDe v).e = loByte v := rfl
@[simp] theorem setDe_h (s : State) (v : Word) : (s.setDe v).h = s.h := rfl
@[simp] theorem setDe_l (s : State) (v : Word) : (s.setDe v).l = s.l := rfl
@[simp] theorem setDe_a_alt (s : State) (v : Word) : (s.setDe v).a' = s.a' := rfl
@[simp] theorem setDe_f_alt (s : State) (v : Word) : (s.setDe v).f' = s.f' := rfl
@[simp] theorem setDe_b_alt (s : State) (v : Word) : (s.setDe v).b' = s.b' := rfl
@[simp] theorem setDe_c_alt (s : State) (v : Word) : (s.setDe v).c' = s.c' := rfl
@[simp] theorem setDe_d_alt (s : State) (v : Word) : (s.setDe v).d' = s.d' := rfl
@[simp] theorem setDe_e_alt (s : State) (v : Word) : (s.setDe v).e' = s.e' := rfl
@[simp] theorem setDe_h_alt (s : State) (v : Word) : (s.setDe v).h' = s.h' := rfl
@[simp] theorem setDe_l_alt (s : State) (v : Word) : (s.setDe v).l' = s.l' := rfl
@[simp] theorem setDe_ix (s : State) (v : Word) : (s.setDe v).ix = s.ix := rfl
@[simp] theorem setDe_iy (s : State) (v : Word) : (s.setDe v).iy = s.iy := rfl
@[simp] theorem setDe_sp (s : State) (v : Word) : (s.setDe v).sp = s.sp := rfl
@[simp] theorem setDe_pc (s : State) (v : Word) : (s.setDe v).pc = s.pc := rfl
@[simp] theorem setDe_i (s : State) (v : Word) : (s.setDe v).i = s.i := rfl
@[simp] theorem setDe_r (s : State) (v : Word) : (s.setDe v).r = s.r := rfl
@[simp] theorem setDe_iff1 (s : State) (v : Word) : (s.setDe v).iff1 = s.iff1 := rfl
@[simp] theorem setDe_iff2 (s : State) (v : Word) : (s.setDe v).iff2 = s.iff2 := rfl
@[simp] theorem setDe_im (s : State) (v : Word) : (s.setDe v).im = s.im := rfl
@[simp] theorem setDe_halted (s : State) (v : Word) : (s.setDe v).halted = s.halted := rfl
@[simp] theorem setDe_skipInt (s : State) (v : Word) : (s.setDe v).skipInt = s.skipInt := rfl
@[simp] theorem setDe_pfx (s : State) (v : Word) : (s.setDe v).pfx = s.pfx := rfl
@[simp] theorem setDe_memptr (s : State) (v : Word) : (s.setDe v).memptr = s.memptr := rfl
@[simp] theorem setDe_q (s : State) (v : Word) : (s.setDe v).q = s.q := rfl
@[simp] theorem setDe_pageA (s : State) (v : Word) : (s.setDe v).pageA = s.pageA := rfl
@[simp] theorem setDe_pageB (s : State) (v : Word) : (s.setDe v).pageB = s.pageB := rfl
@[simp] theorem setDe_fault (s : State) (v : Word) : (s.setDe v).fault = s.fault := rfl
@[simp] theorem setDe_nmiPending (s : State) (v : Word) : (s.setDe v).nmiPending = s.nmiPending := rfl
@[simp] theorem setDe_intPending (s : State) (v : Word) : (s.setDe v).intPending = s.intPending := rfl
@[simp] theorem setDe_intData (s : State) (v : Word) : (s.setDe v).intData = s.intData := rfl
@[simp] theorem setDe_mem (s : State) (v : Word) : (s.setDe v).mem = s.mem := rfl
@[simp] theorem setDe_portInputs (s : State) (v : Word) : (s.setDe v).portInputs = s.portInputs := rfl
@[simp] theorem setDe_portHist (s : State) (v : Word) : (s.setDe v).portHist = s.portHist := rfl
@[simp] theorem setDe_portHooks (s : State) (v : Word) : (s.setDe v).portHooks = s.portHooks := rfl

/-! ### `setHl` -/

@[simp] theorem setHl_a (s : State) (v : Word) : (s.setHl v).a = s.a := rfl
@[simp] theorem setHl_f (s : State) (v : Word) : (s.setHl v).f = s.f := rfl
@[simp] theorem setHl_b (s : State) (v : Word) : (s.setHl v).b = s.b := rfl
@[simp] theorem setHl_c (s : State) (v : Word) : (s.setHl v).c = s.c := rfl
@[simp] theorem setHl_d (s : State) (v : Word) : (s.setHl v).d = s.d := rfl
@[simp] theorem setHl_e (s : State) (v : Word) : (s.setHl v).e = s.e := rfl
@[simp] theorem setHl_h (s : State) (v : Word) : (s.setHl v).h = hiByte v := rfl
@[simp] theorem setHl_l (s : State) (v : Word) : (s.setHl v).l = loByte v := rfl
@[simp] theorem setHl_a_alt (s : State) (v : Word) : (s.setHl v).a' = s.a' := rfl
@[simp] theorem setHl_f_alt (s : State) (v : Word) : (s.setHl v).f' = s.f' := rfl
@[simp] theorem setHl_b_alt (s : State) (v : Word) : (s.setHl v).b' = s.b' := rfl
@[simp] theorem setHl_c_alt (s : State) (v : Word) : (s.setHl v).c' = s.c' := rfl
@[simp] theorem setHl_d_alt (s : State) (v : Word) : (s.setHl v).d' = s.d' := rfl
@[simp] theorem setHl_e_alt (s : State) (v : Word) : (s.setHl v).e' = s.e' := rfl
@[simp] theorem setHl_h_alt (s : State) (v : Word) : (s.setHl v).h' = s.h' := rfl
@[simp] theorem setHl_l_alt (s : State) (v : Word) : (s.setHl v).l' = s.l' := rfl
@[simp] theorem setHl_ix (s : State) (v : Word) : (s.setHl v).ix = s.ix := rfl
@[simp] theorem setHl_iy (s : State) (v : Word) : (s.setHl v).iy = s.iy := rfl
@[simp] theorem setHl_sp (s : State) (v : Word) : (s.setHl v).sp = s.sp := rfl
@[simp] theorem setHl_pc (s : State) (v : Word) : (s.setHl v).pc = s.pc := rfl
@[simp] theorem setHl_i (s : State) (v : Word) : (s.setHl v).i = s.i := rfl
@[simp] theorem setHl_r (s : State) (v : Word) : (s.setHl v).r = s.r := rfl
@[simp] theorem setHl_iff1 (s : State) (v : Word) : (s.setHl v).iff1 = s.iff1 := rfl
@[simp] theorem setHl_iff2 (s : State) (v : Word) : (s.setHl v).iff2 = s.iff2 := rfl
@[simp] theorem setHl_im (s : State) (v : Word) : (s.setHl v).im = s.im := rfl
@[simp] theorem setHl_halted (s : State) (v : Word) : (s.setHl v).halted = s.halted := rfl
@[simp] theorem setHl_skipInt (s : State) (v : Word) : (s.setHl v).skipInt = s.skipInt := rfl
@[simp] theorem setHl_pfx (s : State) (v : Word) : (s.setHl v).pfx = s.pfx := rfl
@[simp] theorem setHl_memptr (s : State) (v : Word) : (s.setHl v).memptr = s.memptr := rfl
@[simp] theorem setHl_q (s : State) (v : Word) : (s.setHl v).q = s.q := rfl
@[simp] theorem setHl_pageA (s : State) (v : Word) : (s.setHl v).pageA = s.pageA := rfl
@[simp] theorem setHl_pageB (s : State) (v : Word) : (s.setHl v).pageB = s.pageB := rfl
@[simp] theorem setHl_fault (s : State) (v : Word) : (s.setHl v).fault = s.fault := rfl
@[simp] theorem setHl_nmiPending (s : State) (v : Word) : (s.setHl v).nmiPending = s.nmiPending := rfl
@[simp] theorem setHl_intPending (s : State) (v : Word) : (s.setHl v).intPending = s.intPending := rfl
@[simp] theorem setHl_intData (s : State) (v : Word) : (s.setHl v).intData = s.intData := rfl
@[simp] theorem setHl_mem (s : State) (v : Word) : (s.setHl v).mem = s.mem := rfl
@[simp] theorem setHl_portInputs (s : State) (v : Word) : (s.setHl v).portInputs = s.portInputs := rfl
@[simp] theorem setHl_portHist (s : State) (v : Word) : (s.setHl v).portHist = s.portHist := rfl
@[simp] theorem setHl_portHooks (s : State) (v : Word) : (s.setHl v).portHooks = s.portHooks := rfl

/-! ### `setAf` -/

@[simp] theorem setAf_a (s : State) (v : Word) : (s.setAf v).a = hiByte v := rfl
@[simp] theorem setAf_f (s : State) (v : Word) : (s.setAf v).f = loByte v := rfl
@[simp] theorem setAf_b (s : State) (v : Word) : (s.setAf v).b = s.b := rfl
@[simp] theorem setAf_c (s : State) (v : Word) : (s.setAf v).c = s.c := rfl
@[simp] theorem setAf_d (s : State) (v : Word) : (s.setAf v).d = s.d := rfl
@[simp] theorem setAf_e (s : State) (v : Word) : (s.setAf v).e = s.e := rfl
@[simp] theorem setAf_h (s : State) (v : Word) : (s.setAf v).h = s.h := rfl
@[simp] theorem setAf_l (s : State) (v : Word) : (s.setAf v).l = s.l := rfl
@[simp] theorem setAf_a_alt (s : State) (v : Word) : (s.setAf v).a' = s.a' := rfl
@[simp] theorem setAf_f_alt (s : State) (v : Word) : (s.setAf v).f' = s.f' := rfl
@[simp] theorem setAf_b_alt (s : State) (v : Word) : (s.setAf v).b' = s.b' := rfl
@[simp] theorem setAf_c_alt (s : State) (v : Word) : (s.setAf v).c' = s.c' := rfl
@[simp] theorem setAf_d_alt (s : State) (v : Word) : (s.setAf v).d' = s.d' := rfl
@[simp] theorem setAf_e_alt (s : State) (v : Word) : (s.setAf v).e' = s.e' := rfl
@[simp] theorem setAf_h_alt (s : State) (v : Word) : (s.setAf v).h' = s.h' := rfl
@[simp] theorem setAf_l_alt (s : State) (v : Word) : (s.setAf v).l' = s.l' := rfl
@[simp] theorem setAf_ix (s : State) (v : Word) : (s.setAf v).ix = s.ix := rfl
@[simp] theorem setAf_iy (s : State) (v : Word) : (s.setAf v).iy = s.iy := rfl
@[simp] theorem setAf_sp (s : State) (v : Word) : (s.setAf v).sp = s.sp := rfl
@[simp] theorem setAf_pc (s : State) (v : Word) : (s.setAf v).pc = s.pc := rfl
@[simp] theorem setAf_i (s : State) (v : Word) : (s.setAf v).i = s.i := rfl
@[simp] theorem setAf_r (s : State) (v : Word) : (s.setAf v).r = s.r := rfl
@[simp] theorem setAf_iff1 (s : State) (v : Word) : (s.setAf v).iff1 = s.iff1 := rfl
@[simp] theorem setAf_iff2 (s : State) (v : Word) : (s.setAf v).iff2 = s.iff2 := rfl
@[simp] theorem setAf_im (s : State) (v : Word) : (s.setAf v).im = s.im := rfl
@[simp] theorem setAf_halted (s : State) (v : Word) : (s.setAf v).halted = s.halted := rfl
@[simp] theorem setAf_skipInt (s : State) (v : Word) : (s.setAf v).skipInt = s.skipInt := rfl
@[simp] theorem setAf_pfx (s : State) (v : Word) : (s.setAf v).pfx = s.pfx := rfl
@[simp] theorem setAf_memptr (s : State) (v : Word) : (s.setAf v).memptr = s.memptr := rfl
@[simp] theorem setAf_q (s : State) (v : Word) : (s.setAf v).q = s.q := rfl
@[simp] theorem setAf_pageA (s : State) (v : Word) : (s.setAf v).pageA = s.pageA := rfl
@[simp] theorem setAf_pageB (s : State) (v : Word) : (s.setAf v).pageB = s.pageB := rfl
@[simp] theorem setAf_fault (s : State) (v : Word) : (s.setAf v).fault = s.fault := rfl
@[simp] theorem setAf_nmiPending (s : State) (v : Word) : (s.setAf v).nmiPending = s.nmiPending := rfl
@[simp] theorem setAf_intPending (s : State) (v : Word) : (s.setAf v).intPending = s.intPending := rfl
@[simp] theorem setAf_intData (s : State) (v : Word) : (s.setAf v).intData = s.intData := rfl
@[simp] theorem setAf_mem (s : State) (v : Word) : (s.setAf v).mem = s.mem := rfl
@[simp] theorem setAf_portInputs (s : State) (v : Word) : (s.setAf v).portInputs = s.portInputs := rfl
@[simp] theorem setAf_portHist (s : State) (v : Word) : (s.setAf v).portHist = s.portHist := rfl
@[simp] theorem setAf_portHooks (s : State) (v : Word) : (s.setAf v).portHooks = s.portHooks := rfl

/-! ### `setPair` -/

@[simp] theorem setPair_a (s : State) (p : Pair) (v : Word) : (s.setPair p v).a = s.a := by cases p <;> rfl
@[simp] theorem setPair_f (s : State) (p : Pair) (v : Word) : (s.setPair p v).f = s.f := by cases p <;> rfl
@[simp] theorem setPair_a_alt (s : State) (p : Pair) (v : Word) : (s.setPair p v).a' = s.a' := by cases p <;> rfl
@[simp] theorem setPair_f_alt (s : State) (p : Pair) (v : Word) : (s.setPair p v).f' = s.f' := by cases p <;> rfl
@[simp] theorem setPair_b_alt (s : State) (p : Pair) (v : Word) : (s.setPair p v).b' = s.b' := by cases p <;> rfl
@[simp] theorem setPair_c_alt (s : State) (p : Pair) (v : Word) : (s.setPair p v).c' = s.c' := by cases p <;> rfl
@[simp] theorem setPair_d_alt (s : State) (p : Pair) (v : Word) : (s.setPair p v).d' = s.d' := by cases p <;> rfl
@[simp] theorem setPair_e_alt (s : State) (p : Pair) (v : Word) : (s.setPair p v).e' = s.e' := by cases p <;> rfl
@[simp] theorem setPair_h_alt (s : State) (p : Pair) (v : Word) : (s.setPair p v).h' = s.h' := by cases p <;> rfl
@[simp] theorem setPair_l_alt (s : State) (p : Pair) (v : Word) : (s.setPair p v).l' = s.l' := by cases p <;> rfl
@[simp] theorem setPair_ix (s : State) (p : Pair) (v : Word) : (s.setPair p v).ix = s.ix := by cases p <;> rfl
@[simp] theorem setPair_iy (s : State) (p : Pair) (v : Word) : (s.setPair p v).iy = s.iy := by cases p <;> rfl
@[simp] theorem setPair_pc (s : State) (p : Pair) (v : Word) : (s.setPair p v).pc = s.pc := by cases p <;> rfl
@[simp] theorem setPair_i (s : State) (p : Pair) (v : Word) : (s.setPair p v).i = s.i := by cases p <;> rfl
@[simp] theorem setPair_r (s : State) (p : Pair) (v : Word) : (s.setPair p v).r = s.r := by cases p <;> rfl
@[simp] theorem setPair_iff1 (s : State) (p : Pair) (v : Word) : (s.setPair p v).iff1 = s.iff1 := by cases p <;> rfl
@[simp] theorem setPair_iff2 (s : State) (p : Pair) (v : Word) : (s.setPair p v).iff2 = s.iff2 := by cases p <;> rfl
@[simp] theorem setPair_im (s : State) (p : Pair) (v : Word) : (s.setPair p v).im = s.im := by cases p <;> rfl
@[simp] theorem setPair_halted (s : State) (p : Pair) (v : Word) : (s.setPair p v).halted = s.halted := by cases p <;> rfl
@[simp] theorem setPair_skipInt (s : State) (p : Pair) (v : Word) : (s.setPair p v).skipInt = s.skipInt := by cases p <;> rfl
@[simp] theorem setPair_pfx (s : State) (p : Pair) (v : Word) : (s.setPair p v).pfx = s.pfx := by cases p <;> rfl
@[simp] theorem setPair_memptr (s : State) (p : Pair) (v : Word) : (s.setPair p v).memptr = s.memptr := by cases p <;> rfl
@[simp] theorem setPair_q (s : State) (p : Pair) (v : Word) : (s.setPair p v).q = s.q := by cases p <;> rfl
@[simp] theorem setPair_pageA (s : State) (p : Pair) (v : Word) : (s.setPair p v).pageA = s.pageA := by cases p <;> rfl
@[simp] theorem setPair_pageB (s : State) (p : Pair) (v : Word) : (s.setPair p v).pageB = s.pageB := by cases p <;> rfl
@[simp] theorem setPair_fault (s : State) (p : Pair) (v : Word) : (s.setPair p v).fault = s.fault := by cases p <;> rfl
@[simp] theorem setPair_nmiPending (s : State) (p : Pair) (v : Word) : (s.setPair p v).nmiPending = s.nmiPending := by cases p <;> rfl
@[simp] theorem setPair_intPending (s : State) (p : Pair) (v : Word) : (s.setPair p v).intPending = s.intPending := by cases p <;> rfl
@[simp] theorem setPair_intData (s : State) (p : Pair) (v : Word) : (s.setPair p v).intData = s.intData := by cases p <;> rfl
@[simp] theorem setPair_mem (s : State) (p : Pair) (v : Word) : (s.setPair p v).mem = s.mem := by cases p <;> rfl
@[simp] theorem setPair_portInputs (s : State) (p : Pair) (v : Word) : (s.setPair p v).portInputs = s.portInputs := by cases p <;> rfl
@[simp] theorem setPair_portHist (s : State) (p : Pair) (v : Word) : (s.setPair p v).portHist = s.portHist := by cases p <;> rfl
@[simp] theorem setPair_portHooks (s : State) (p : Pair) (v : Word) : (s.setPair p v).portHooks = s.portHooks := by cases p <;> rfl

/-! ### `setPair2` -/

@[simp] theorem setPair2_a_alt (s : State) (p : Pair2) (v : Word) : (s.setPair2 p v).a' = s.a' := by cases p <;> rfl
@[simp] theorem setPair2_f_alt (s : State) (p : Pair2) (v : Word) : (s.setPair2 p v).f' = s.f' := by cases p <;> rfl
@[simp] theorem setPair2_b_alt (s : State) (p : Pair2) (v : Word) : (s.setPair2 p v).b' = s.b' := by cases p <;> rfl
@[simp] theorem setPair2_c_alt (s : State) (p : Pair2) (v : Word) : (s.setPair2 p v).c' = s.c' := by cases p <;> rfl
@[simp] theorem setPair2_d_alt (s : State) (p : Pair2) (v : Word) : (s.setPair2 p v).d' = s.d' := by cases p <;> rfl
@[simp] theorem setPair2_e_alt (s : State) (p : Pair2) (v : Word) : (s.setPair2 p v).e' = s.e' := by cases p <;> rfl
@[simp] theorem setPair2_h_alt (s : State) (p : Pair2) (v : Word) : (s.setPair2 p v).h' = s.h' := by cases p <;> rfl
@[simp] theorem setPair2_l_alt (s : State) (p : Pair2) (v : Word) : (s.setPair2 p v).l' = s.l' := by cases p <;> rfl
@[simp] theorem setPair2_ix (s : State) (p : Pair2) (v : Word) : (s.setPair2 p v).ix = s.ix := by cases p <;> rfl
@[simp] theorem setPair2_iy (s : State) (p : Pair2) (v : Word) : (s.setPair2 p v).iy = s.iy := by cases p <;> rfl
@[simp] theorem setPair2_sp (s : State) (p : Pair2) (v : Word) : (s.setPair2 p v).sp = s.sp := by cases p <;> rfl
@[simp] theorem setPair2_pc (s : State) (p : Pair2) (v : Word) : (s.setPair2 p v).pc = s.pc := by cases p <;> rfl
@[simp] theorem setPair2_i (s : State) (p : Pair2) (v : Word) : (s.setPair2 p v).i = s.i := by cases p <;> rfl
@[simp] theorem setPair2_r (s : State) (p : Pair2) (v : Word) : (s.setPair2 p v).r = s.r := by cases p <;> rfl
@[simp] theorem setPair2_iff1 (s : State) (p : Pair2) (v : Word) : (s.setPair2 p v).iff1 = s.iff1 := by cases p <;> rfl
@[simp] theorem setPair2_iff2 (s : State) (p : Pair2) (v : Word) : (s.setPair2 p v).iff2 = s.iff2 := by cases p <;> rfl
@[simp] theorem setPair2_im (s : State) (p : Pair2) (v : Word) : (s.setPair2 p v).im = s.im := by cases p <;> rfl
@[simp] theorem setPair2_halted (s : State) (p : Pair2) (v : Word) : (s.setPair2 p v).halted = s.halted := by cases p <;> rfl
@[simp] theorem setPair2_skipInt (s : State) (p : Pair2) (v : Word) : (s.setPair2 p v).skipInt = s.skipInt := by cases p <;> rfl
@[simp] theorem setPair2_pfx (s : State) (p : Pair2) (v : Word) : (s.setPair2 p v).pfx = s.pfx := by cases p <;> rfl
@[simp] theorem setPair2_memptr (s : State) (p : Pair2) (v : Word) : (s.setPair2 p v).memptr = s.memptr := by cases p <;> rfl
@[simp] theorem setPair2_q (s : State) (p : Pair2) (v : Word) : (s.setPair2 p v).q = s.q := by cases p <;> rfl
@[simp] theorem setPair2_pageA (s : State) (p : Pair2) (v : Word) : (s.setPair2 p v).pageA = s.pageA := by cases p <;> rfl
@[simp] theorem setPair2_pageB (s : State) (p : Pair2) (v : Word) : (s.setPair2 p v).pageB = s.pageB := by cases p <;> rfl
@[simp] theorem setPair2_fault (s : State) (p : Pair2) (v : Word) : (s.setPair2 p v).fault = s.fault := by cases p <;> rfl
@[simp] theorem setPair2_nmiPending (s : State) (p : Pair2) (v : Word) : (s.setPair2 p v).nmiPending = s.nmiPending := by cases p <;> rfl
@[simp] theorem setPair2_intPending (s : State) (p : Pair2) (v : Word) : (s.setPair2 p v).intPending = s.intPending := by cases p <;> rfl
@[simp] theorem setPair2_intData (s : State) (p : Pair2) (v : Word) : (s.setPair2 p v).intData = s.intData := by cases p <;> rfl
@[simp] theorem setPair2_mem (s : State) (p : Pair2) (v : Word) : (s.setPair2 p v).mem = s.mem := by cases p <;> rfl
@[simp] theorem setPair2_portInputs (s : State) (p : Pair2) (v : Word) : (s.setPair2 p v).portInputs = s.portInputs := by cases p <;> rfl
@[simp] theorem setPair2_portHist (s : State) (p : Pair2) (v : Word) : (s.setPair2 p v).portHist = s.portHist := by cases p <;> rfl
@[simp] theorem setPair2_portHooks (s : State) (p : Pair2) (v : Word) : (s.setPair2 p v).portHooks = s.portHooks := by cases p <;> rfl

/-! ### `setXy` -/

@[simp] theorem setXy_a (s : State) (x : Xy) (v : Word) : (s.setXy x v).a = s.a := by cases x <;> rfl
@[simp] theorem setXy_f (s : State) (x : Xy) (v : Word) : (s.setXy x v).f = s.f := by cases x <;> rfl
@[simp] theorem setXy_b (s : State) (x : Xy) (v : Word) : (s.setXy x v).b = s.b := by cases x <;> rfl
@[simp] theorem setXy_c (s : State) (x : Xy) (v : Word) : (s.setXy x v).c = s.c := by cases x <;> rfl
@[simp] theorem setXy_d (s : State) (x : Xy) (v : Word) : (s.setXy x v).d = s.d := by cases x <;> rfl
@[simp] theorem setXy_e (s : State) (x : Xy) (v : Word) : (s.setXy x v).e = s.e := by cases x <;> rfl
@[simp] theorem setXy_h (s : State) (x : Xy) (v : Word) : (s.setXy x v).h = s.h := by cases x <;> rfl
@[simp] theorem setXy_l (s : State) (x : Xy) (v : Word) : (s.setXy x v).l = s.l := by cases x <;> rfl
@[simp] theorem setXy_a_alt (s : State) (x : Xy) (v : Word) : (s.setXy x v).a' = s.a' := by cases x <;> rfl
@[simp] theorem setXy_f_alt (s : State) (x : Xy) (v : Word) : (s.setXy x v).f' = s.f' := by cases x <;> rfl
@[simp] theorem setXy_b_alt (s : State) (x : Xy) (v : Word) : (s.setXy x v).b' = s.b' := by cases x <;> rfl
@[simp] theorem setXy_c_alt (s : State) (x : Xy) (v : Word) : (s.setXy x v).c' = s.c' := by cases x <;> rfl
@[simp] theorem setXy_d_alt (s : State) (x : Xy) (v : Word) : (s.setXy x v).d' = s.d' := by cases x <;> rfl
@[simp] theorem setXy_e_alt (s : State) (x : Xy) (v : Word) : (s.setXy x v).e' = s.e' := by cases x <;> rfl
@[simp] theorem setXy_h_alt (s : State) (x : Xy) (v : Word) : (s.setXy x v).h' = s.h' := by cases x <;> rfl
@[simp] theorem setXy_l_alt (s : State) (x : Xy) (v : Word) : (s.setXy x v).l' = s.l' := by cases x <;> rfl
@[simp] theorem setXy_sp (s : State) (x : Xy) (v : Word) : (s.setXy x v).sp = s.sp := by cases x <;> rfl
@[simp] theorem setXy_pc (s : State) (x : Xy) (v : Word) : (s.setXy x v).pc = s.pc := by cases x <;> rfl
@[simp] theorem setXy_i (s : State) (x : Xy) (v : Word) : (s.setXy x v).i = s.i := by cases x <;> rfl
@[simp] theorem setXy_r (s : State) (x : Xy) (v : Word) : (s.setXy x v).r = s.r := by cases x <;> rfl
@[simp] theorem setXy_iff1 (s : State) (x : Xy) (v : Word) : (s.setXy x v).iff1 = s.iff1 := by cases x <;> rfl
@[simp] theorem setXy_iff2 (s : State) (x : Xy) (v : Word) : (s.setXy x v).iff2 = s.iff2 := by cases x <;> rfl
@[simp] theorem setXy_im (s : State) (x : Xy) (v : Word) : (s.setXy x v).im = s.im := by cases x <;> rfl
@[simp] theorem setXy_halted (s : State) (x : Xy) (v : Word) : (s.setXy x v).halted = s.halted := by cases x <;> rfl
@[simp] theorem setXy_skipInt (s : State) (x : Xy) (v : Word) : (s.setXy x v).skipInt = s.skipInt := by cases x <;> rfl
@[simp] theorem setXy_pfx (s : State) (x : Xy) (v : Word) : (s.setXy x v).pfx = s.pfx := by cases x <;> rfl
@[simp] theorem setXy_memptr (s : State) (x : Xy) (v : Word) : (s.setXy x v).memptr = s.memptr := by cases x <;> rfl
@[simp] theorem setXy_q (s : State) (x : Xy) (v : Word) : (s.setXy x v).q = s.q := by cases x <;> rfl
@[simp] theorem setXy_pageA (s : State) (x : Xy) (v : Word) : (s.setXy x v).pageA = s.pageA := by cases x <;> rfl
@[simp] theorem setXy_pageB (s : State) (x : Xy) (v : Word) : (s.setXy x v).pageB = s.pageB := by cases x <;> rfl
@[simp] theorem setXy_fault (s : State) (x : Xy) (v : Word) : (s.setXy x v).fault = s.fault := by cases x <;> rfl
@[simp] theorem setXy_nmiPending (s : State) (x : Xy) (v : Word) : (s.setXy x v).nmiPending = s.nmiPending := by cases x <;> rfl
@[simp] theorem setXy_intPending (s : State) (x : Xy) (v : Word) : (s.setXy x v).intPending = s.intPending := by cases x <;> rfl
@[simp] theorem setXy_intData (s : State) (x : Xy) (v : Word) : (s.setXy x v).intData = s.intData := by cases x <;> rfl
@[simp] theorem setXy_mem (s : State) (x : Xy) (v : Word) : (s.setXy x v).mem = s.mem := by cases x <;> rfl
@[simp] theorem setXy_portInputs (s : State) (x : Xy) (v : Word) : (s.setXy x v).portInputs = s.portInputs := by cases x <;> rfl
@[simp] theorem setXy_portHist (s : State) (x : Xy) (v : Word) : (s.setXy x v).portHist = s.portHist := by cases x <;> rfl
@[simp] theorem setXy_portHooks (s : State) (x : Xy) (v : Word) : (s.setXy x v).portHooks = s.portHooks := by cases x <;> rfl

/-! ### `setHalf` -/

@[simp] theorem setHalf_a (s : State) (x : Xy) (k : Half) (v : Byte) : (s.setHalf x k v).a = s.a := by cases x <;> cases k <;> rfl
@[simp] theorem setHalf_f (s : State) (x : Xy) (k : Half) (v : Byte) : (s.setHalf x k v).f = s.f := by cases x <;> cases k <;> rfl
@[simp] theorem setHalf_b (s : State) (x : Xy) (k : Half) (v : Byte) : (s.setHalf x k v).b = s.b := by cases x <;> cases k <;> rfl
@[simp] theorem setHalf_c (s : State) (x : Xy) (k : Half) (v : Byte) : (s.setHalf x k v).c = s.c := by cases x <;> cases k <;> rfl
@[simp] theorem setHalf_d (s : State) (x : Xy) (k : Half) (v : Byte) : (s.setHalf x k v).d = s.d := by cases x <;> cases k <;> rfl
@[simp] theorem setHalf_e (s : State) (x : Xy) (k : Half) (v : Byte) : (s.setHalf x k v).e = s.e := by cases x <;> cases k <;> rfl
@[simp] theorem setHalf_h (s : State) (x : Xy) (k : Half) (v : Byte) : (s.setHalf x k v).h = s.h := by cases x <;> cases k <;> rfl
@[simp] theorem setHalf_l (s : State) (x : Xy) (k : Half) (v : Byte) : (s.setHalf x k v).l = s.l := by cases x <;> cases k <;> rfl
@[simp] theorem setHalf_a_alt (s : State) (x : Xy) (k : Half) (v : Byte) : (s.setHalf x k v).a' = s.a' := by cases x <;> cases k <;> rfl
@[simp] theorem setHalf_f_alt (s : State) (x : Xy) (k : Half) (v : Byte) : (s.setHalf x k v).f' = s.f' := by cases x <;> cases k <;> rfl
@[simp] theorem setHalf_b_alt (s : State) (x : Xy) (k : Half) (v : Byte) : (s.setHalf x k v).b' = s.b' := by cases x <;> cases k <;> rfl
@[simp] theorem setHalf_c_alt (s : State) (x : Xy) (k : Half) (v : Byte) : (s.setHalf x k v).c' = s.c' := by cases x <;> cases k <;> rfl
@[simp] theorem setHalf_d_alt (s : State) (x : Xy) (k : Half) (v : Byte) : (s.setHalf x k v).d' = s.d' := by cases x <;> cases k <;> rfl
@[simp] theorem setHalf_e_alt (s : State) (x : Xy) (k : Half) (v : Byte) : (s.setHalf x k v).e' = s.e' := by cases x <;> cases k <;> rfl
@[simp] theorem setHalf_h_alt (s : State) (x : Xy) (k : Half) (v : Byte) : (s.setHalf x k v).h' = s.h' := by cases x <;> cases k <;> rfl
@[simp] theorem setHalf_l_alt (s : State) (x : Xy) (k : Half) (v : Byte) : (s.setHalf x k v).l' = s.l' := by cases x <;> cases k <;> rfl
@[simp] theorem setHalf_sp (s : State) (x : Xy) (k : Half) (v : Byte) : (s.setHalf x k v).sp = s.sp := by cases x <;> cases k <;> rfl
@[simp] theorem setHalf_pc (s : State) (x : Xy) (k : Half) (v : Byte) : (s.setHalf x k v).pc = s.pc := by cases x <;> cases k <;> rfl
@[simp] theorem setHalf_i (s : State) (x : Xy) (k : Half) (v : Byte) : (s.setHalf x k v).i = s.i := by cases x <;> cases k <;> rfl
@[simp] theorem setHalf_r (s : State) (x : Xy) (k : Half) (v : Byte) : (s.setHalf x k v).r = s.r := by cases x <;> cases k <;> rfl
@[simp] theorem setHalf_iff1 (s : State) (x : Xy) (k : Half) (v : Byte) : (s.setHalf x k v).iff1 = s.iff1 := by cases x <;> cases k <;> rfl
@[simp] theorem setHalf_iff2 (s : State) (x : Xy) (k : Half) (v : Byte) : (s.setHalf x k v).iff2 = s.iff2 := by cases x <;> cases k <;> rfl
@[simp] theorem setHalf_im (s : State) (x : Xy) (k : Half) (v : Byte) : (s.setHalf x k v).im = s.im := by cases x <;> cases k <;> rfl
@[simp] theorem setHalf_halted (s : State) (x : Xy) (k : Half) (v : Byte) : (s.setHalf x k v).halted = s.halted := by cases x <;> cases k <;> rfl
@[simp] theorem setHalf_skipInt (s : State) (x : Xy) (k : Half) (v : Byte) : (s.setHalf x k v).skipInt = s.skipInt := by cases x <;> cases k <;> rfl
@[simp] theorem setHalf_pfx (s : State) (x : Xy) (k : Half) (v : Byte) : (s.setHalf x k v).pfx = s.pfx := by cases x <;> cases k <;> rfl
@[simp] theorem setHalf_memptr (s : State) (x : Xy) (k : Half) (v : Byte) : (s.setHalf x k v).memptr = s.memptr := by cases x <;> cases k <;> rfl
@[simp] theorem setHalf_q (s : State) (x : Xy) (k : Half) (v : Byte) : (s.setHalf x k v).q = s.q := by cases x <;> cases k <;> rfl
@[simp] theorem setHalf_pageA (s : State) (x : Xy) (k : Half) (v : Byte) : (s.setHalf x k v).pageA = s.pageA := by cases x <;> cases k <;> rfl
@[simp] theorem setHalf_pageB (s : State) (x : Xy) (k : Half) (v : Byte) : (s.setHalf x k v).pageB = s.pageB := by cases x <;> cases k <;> rfl
@[simp] theorem setHalf_fault (s : State) (x : Xy) (k : Half) (v : Byte) : (s.setHalf x k v).fault = s.fault := by cases x <;> cases k <;> rfl
@[simp] theorem setHalf_nmiPending (s : State) (x : Xy) (k : Half) (v : Byte) : (s.setHalf x k v).nmiPending = s.nmiPending := by cases x <;> cases k <;> rfl
@[simp] theorem setHalf_intPending (s : State) (x : Xy) (k : Half) (v : Byte) : (s.setHalf x k v).intPending = s.intPending := by cases x <;> cases k <;> rfl
@[simp] theorem setHalf_intData (s : State) (x : Xy) (k : Half) (v : Byte) : (s.setHalf x k v).intData = s.intData := by cases x <;> cases k <;> rfl
@[simp] theorem setHalf_mem (s : State) (x : Xy) (k : Half) (v : Byte) : (s.setHalf x k v).mem = s.mem := by cases x <;> cases k <;> rfl
@[simp] theorem setHalf_portInputs (s : State) (x : Xy) (k : Half) (v : Byte) : (s.setHalf x k v).portInputs = s.portInputs := by cases x <;> cases k <;> rfl
@[simp] theorem setHalf_portHist (s : State) (x : Xy) (k : Half) (v : Byte) : (s.setHalf x k v).portHist = s.portHist := by cases x <;> cases k <;> rfl
@[simp] theorem setHalf_portHooks (s : State) (x : Xy) (k : Half) (v : Byte) : (s.setHalf x k v).portHooks = s.portHooks := by cases x <;> cases k <;> rfl

/-! ### `setMemptr` -/

@[simp] theorem setMemptr_a (s : State) (v : Word) : (s.setMemptr v).a = s.a := rfl
@[simp] theorem setMemptr_f (s : State) (v : Word) : (s.setMemptr v).f = s.f := rfl
@[simp] theorem setMemptr_b (s : State) (v : Word) : (s.setMemptr v).b = s.b := rfl
@[simp] theorem setMemptr_c (s : State) (v : Word) : (s.setMemptr v).c = s.c := rfl
@[simp] theorem setMemptr_d (s : State) (v : Word) : (s.setMemptr v).d = s.d := rfl
@[simp] theorem setMemptr_e (s : State) (v : Word) : (s.setMemptr v).e = s.e := rfl
@[simp] theorem setMemptr_h (s : State) (v : Word) : (s.setMemptr v).h = s.h := rfl
@[simp] theorem setMemptr_l (s : State) (v : Word) : (s.setMemptr v).l = s.l := rfl
@[simp] theorem setMemptr_a_alt (s : State) (v : Word) : (s.setMemptr v).a' = s.a' := rfl
@[simp] theorem setMemptr_f_alt (s : State) (v : Word) : (s.setMemptr v).f' = s.f' := rfl
@[simp] theorem setMemptr_b_alt (s : State) (v : Word) : (s.setMemptr v).b' = s.b' := rfl
@[simp] theorem setMemptr_c_alt (s : State) (v : Word) : (s.setMemptr v).c' = s.c' := rfl
@[simp] theorem setMemptr_d_alt (s : State) (v : Word) : (s.setMemptr v).d' = s.d' := rfl
@[simp] theorem setMemptr_e_alt (s : State) (v : Word) : (s.setMemptr v).e' = s.e' := rfl
@[simp] theorem setMemptr_h_alt (s : State) (v : Word) : (s.setMemptr v).h' = s.h' := rfl
@[simp] theorem setMemptr_l_alt (s : State) (v : Word) : (s.setMemptr v).l' = s.l' := rfl
@[simp] theorem setMemptr_ix (s : State) (v : Word) : (s.setMemptr v).ix = s.ix := rfl
@[simp] theorem setMemptr_iy (s : State) (v : Word) : (s.setMemptr v).iy = s.iy := rfl
@[simp] theorem setMemptr_sp (s : State) (v : Word) : (s.setMemptr v).sp = s.sp := rfl
@[simp] theorem setMemptr_pc (s : State) (v : Word) : (s.setMemptr v).pc = s.pc := rfl
@[simp] theorem setMemptr_i (s : State) (v : Word) : (s.setMemptr v).i = s.i := rfl
@[simp] theorem setMemptr_r (s : State) (v : Word) : (s.setMemptr v).r = s.r := rfl
@[simp] theorem setMemptr_iff1 (s : State) (v : Word) : (s.setMemptr v).iff1 = s.iff1 := rfl
@[simp] theorem setMemptr_iff2 (s : State) (v : Word) : (s.setMemptr v).iff2 = s.iff2 := rfl
@[simp] theorem setMemptr_im (s : State) (v : Word) : (s.setMemptr v).im = s.im := rfl
@[simp] theorem setMemptr_halted (s : State) (v : Word) : (s.setMemptr v).halted = s.halted := rfl
@[simp] theorem setMemptr_skipInt (s : State) (v : Word) : (s.setMemptr v).skipInt = s.skipInt := rfl
@[simp] theorem setMemptr_pfx (s : State) (v : Word) : (s.setMemptr v).pfx = s.pfx := rfl
@[simp] theorem setMemptr_memptr (s : State) (v : Word) : (s.setMemptr v).memptr = v := rfl
@[simp] theorem setMemptr_q (s : State) (v : Word) : (s.setMemptr v).q = s.q := rfl
@[simp] theorem setMemptr_pageA (s : State) (v : Word) : (s.setMemptr v).pageA = s.pageA := rfl
@[simp] theorem setMemptr_pageB (s : State) (v : Word) : (s.setMemptr v).pageB = s.pageB := rfl
@[simp] theorem setMemptr_fault (s : State) (v : Word) : (s.setMemptr v).fault = s.fault := rfl
@[simp] theorem setMemptr_nmiPending (s : State) (v : Word) : (s.setMemptr v).nmiPending = s.nmiPending := rfl
@[simp] theorem setMemptr_intPending (s : State) (v : Word) : (s.setMemptr v).intPending = s.intPending := rfl
@[simp] theorem setMemptr_intData (s : State) (v : Word) : (s.setMemptr v).intData = s.intData := rfl
@[simp] theorem setMemptr_mem (s : State) (v : Word) : (s.setMemptr v).mem = s.mem := rfl
@[simp] theorem setMemptr_portInputs (s : State) (v : Word) : (s.setMemptr v).portInputs = s.portInputs := rfl
@[simp] theorem setMemptr_portHist (s : State) (v : Word) : (s.setMemptr v).portHist = s.portHist := rfl
@[simp] theorem setMemptr_portHooks (s : State) (v : Word) : (s.setMemptr v).portHooks = s.portHooks := rfl

/-! ### `memWrite` -/

@[simp] theorem memWrite_a (s : State) (x : Word) (v : Byte) : (s.memWrite x v).a = s.a := rfl
@[simp] theorem memWrite_f (s : State) (x : Word) (v : Byte) : (s.memWrite x v).f = s.f := rfl
@[simp] theorem memWrite_b (s : State) (x : Word) (v : Byte) : (s.memWrite x v).b = s.b := rfl
@[simp] theorem memWrite_c (s : State) (x : Word) (v : Byte) : (s.memWrite x v).c = s.c := rfl
@[simp] theorem memWrite_d (s : State) (x : Word) (v : Byte) : (s.memWrite x v).d = s.d := rfl
@[simp] theorem memWrite_e (s : State) (x : Word) (v : Byte) : (s.memWrite x v).e = s.e := rfl
@[simp] theorem memWrite_h (s : State) (x : Word) (v : Byte) : (s.memWrite x v).h = s.h := rfl
@[simp] theorem memWrite_l (s : State) (x : Word) (v : Byte) : (s.memWrite x v).l = s.l := rfl
@[simp] theorem memWrite_a_alt (s : State) (x : Word) (v : Byte) : (s.memWrite x v).a' = s.a' := rfl
@[simp] theorem memWrite_f_alt (s : State) (x : Word) (v : Byte) : (s.memWrite x v).f' = s.f' := rfl
@[simp] theorem memWrite_b_alt (s : State) (x : Word) (v : Byte) : (s.memWrite x v).b' = s.b' := rfl
@[simp] theorem memWrite_c_alt (s : State) (x : Word) (v : Byte) : (s.memWrite x v).c' = s.c' := rfl
@[simp] theorem memWrite_d_alt (s : State) (x : Word) (v : Byte) : (s.memWrite x v).d' = s.d' := rfl
@[simp] theorem memWrite_e_alt (s : State) (x : Word) (v : Byte) : (s.memWrite x v).e' = s.e' := rfl
@[simp] theorem memWrite_h_alt (s : State) (x : Word) (v : Byte) : (s.memWrite x v).h' = s.h' := rfl
@[simp] theorem memWrite_l_alt (s : State) (x : Word) (v : Byte) : (s.memWrite x v).l' = s.l' := rfl
@[simp] theorem memWrite_ix (s : State) (x : Word) (v : Byte) : (s.memWrite x v).ix = s.ix := rfl
@[simp] theorem memWrite_iy (s : State) (x : Word) (v : Byte) : (s.memWrite x v).iy = s.iy := rfl
@[simp] theorem memWrite_sp (s : State) (x : Word) (v : Byte) : (s.memWrite x v).sp = s.sp := rfl
@[simp] theorem memWrite_pc (s : State) (x : Word) (v : Byte) : (s.memWrite x v).pc = s.pc := rfl
@[simp] theorem memWrite_i (s : State) (x : Word) (v : Byte) : (s.memWrite x v).i = s.i := rfl
@[simp] theorem memWrite_r (s : State) (x : Word) (v : Byte) : (s.memWrite x v).r = s.r := rfl
@[simp] theorem memWrite_iff1 (s : State) (x : Word) (v : Byte) : (s.memWrite x v).iff1 = s.iff1 := rfl
@[simp] theorem memWrite_iff2 (s : State) (x : Word) (v : Byte) : (s.memWrite x v).iff2 = s.iff2 := rfl
@[simp] theorem memWrite_im (s : State) (x : Word) (v : Byte) : (s.memWrite x v).im = s.im := rfl
@[simp] theorem memWrite_halted (s : State) (x : Word) (v : Byte) : (s.memWrite x v).halted = s.halted := rfl
@[simp] theorem memWrite_skipInt (s : State) (x : Word) (v : Byte) : (s.memWrite x v).skipInt = s.skipInt := rfl
@[simp] theorem memWrite_pfx (s : State) (x : Word) (v : Byte) : (s.memWrite x v).pfx = s.pfx := rfl
@[simp] theorem memWrite_memptr (s : State) (x : Word) (v : Byte) : (s.memWrite x v).memptr = s.memptr := rfl
@[simp] theorem memWrite_q (s : State) (x : Word) (v : Byte) : (s.memWrite x v).q = s.q := rfl
@[simp] theorem memWrite_pageA (s : State) (x : Word) (v : Byte) : (s.memWrite x v).pageA = s.pageA := rfl
@[simp] theorem memWrite_pageB (s : State) (x : Word) (v : Byte) : (s.memWrite x v).pageB = s.pageB := rfl
@[simp] theorem memWrite_fault (s : State) (x : Word) (v : Byte) : (s.memWrite x v).fault = s.fault := rfl
@[simp] theorem memWrite_nmiPending (s : State) (x : Word) (v : Byte) : (s.memWrite x v).nmiPending = s.nmiPending := rfl
@[simp] theorem memWrite_intPending (s : State) (x : Word) (v : Byte) : (s.memWrite x v).intPending = s.intPending := rfl
@[simp] theorem memWrite_intData (s : State) (x : Word) (v : Byte) : (s.memWrite x v).intData = s.intData := rfl
@[simp] theorem memWrite_mem (s : State) (x : Word) (v : Byte) : (s.memWrite x v).mem = s.mem.write x v := rfl
@[simp] theorem memWrite_portInputs (s : State) (x : Word) (v : Byte) : (s.memWrite x v).portInputs = s.portInputs := rfl
@[simp] theorem memWrite_portHist (s : State) (x : Word) (v : Byte) : (s.memWrite x v).portHist = s.portHist := rfl
@[simp] theorem memWrite_portHooks (s : State) (x : Word) (v : Byte) : (s.memWrite x v).portHooks = s.portHooks := rfl

/-! ### `memWrite2` -/

@[simp] theorem memWrite2_a (s : State) (x v : Word) : (s.memWrite2 x v).a = s.a := rfl
@[simp] theorem memWrite2_f (s : State) (x v : Word) : (s.memWrite2 x v).f = s.f := rfl
@[simp] theorem memWrite2_b (s : State) (x v : Word) : (s.memWrite2 x v).b = s.b := rfl
@[simp] theorem memWrite2_c (s : State) (x v : Word) : (s.memWrite2 x v).c = s.c := rfl
@[simp] theorem memWrite2_d (s : State) (x v : Word) : (s.memWrite2 x v).d = s.d := rfl
@[simp] theorem memWrite2_e (s : State) (x v : Word) : (s.memWrite2 x v).e = s.e := rfl
@[simp] theorem memWrite2_h (s : State) (x v : Word) : (s.memWrite2 x v).h = s.h := rfl
@[simp] theorem memWrite2_l (s : State) (x v : Word) : (s.memWrite2 x v).l = s.l := rfl
@[simp] theorem memWrite2_a_alt (s : State) (x v : Word) : (s.memWrite2 x v).a' = s.a' := rfl
@[simp] theorem memWrite2_f_alt (s : State) (x v : Word) : (s.memWrite2 x v).f' = s.f' := rfl
@[simp] theorem memWrite2_b_alt (s : State) (x v : Word) : (s.memWrite2 x v).b' = s.b' := rfl
@[simp] theorem memWrite2_c_alt (s : State) (x v : Word) : (s.memWrite2 x v).c' = s.c' := rfl
@[simp] theorem memWrite2_d_alt (s : State) (x v : Word) : (s.memWrite2 x v).d' = s.d' := rfl
@[simp] theorem memWrite2_e_alt (s : State) (x v : Word) : (s.memWrite2 x v).e' = s.e' := rfl
@[simp] theorem memWrite2_h_alt (s : State) (x v : Word) : (s.memWrite2 x v).h' = s.h' := rfl
@[simp] theorem memWrite2_l_alt (s : State) (x v : Word) : (s.memWrite2 x v).l' = s.l' := rfl
@[simp] theorem memWrite2_ix (s : State) (x v : Word) : (s.memWrite2 x v).ix = s.ix := rfl
@[simp] theorem memWrite2_iy (s : State) (x v : Word) : (s.memWrite2 x v).iy = s.iy := rfl
@[simp] theorem memWrite2_sp (s : State) (x v : Word) : (s.memWrite2 x v).sp = s.sp := rfl
@[simp] theorem memWrite2_pc (s : State) (x v : Word) : (s.memWrite2 x v).pc = s.pc := rfl
@[simp] theorem memWrite2_i (s : State) (x v : Word) : (s.memWrite2 x v).i = s.i := rfl
@[simp] theorem memWrite2_r (s : State) (x v : Word) : (s.memWrite2 x v).r = s.r := rfl
@[simp] theorem memWrite2_iff1 (s : State) (x v : Word) : (s.memWrite2 x v).iff1 = s.iff1 := rfl
@[simp] theorem memWrite2_iff2 (s : State) (x v : Word) : (s.memWrite2 x v).iff2 = s.iff2 := rfl
@[simp] theorem memWrite2_im (s : State) (x v : Word) : (s.memWrite2 x v).im = s.im := rfl
@[simp] theorem memWrite2_halted (s : State) (x v : Word) : (s.memWrite2 x v).halted = s.halted := rfl
@[simp] theorem memWrite2_skipInt (s : State) (x v : Word) : (s.memWrite2 x v).skipInt = s.skipInt := rfl
@[simp] theorem memWrite2_pfx (s : State) (x v : Word) : (s.memWrite2 x v).pfx = s.pfx := rfl
@[simp] theorem memWrite2_memptr (s : State) (x v : Word) : (s.memWrite2 x v).memptr = s.memptr := rfl
@[simp] theorem memWrite2_q (s : State) (x v : Word) : (s.memWrite2 x v).q = s.q := rfl
@[simp] theorem memWrite2_pageA (s : State) (x v : Word) : (s.memWrite2 x v).pageA = s.pageA := rfl
@[simp] theorem memWrite2_pageB (s : State) (x v : Word) : (s.memWrite2 x v).pageB = s.pageB := rfl
@[simp] theorem memWrite2_fault (s : State) (x v : Word) : (s.memWrite2 x v).fault = s.fault := rfl
@[simp] theorem memWrite2_nmiPending (s : State) (x v : Word) : (s.memWrite2 x v).nmiPending = s.nmiPending := rfl
@[simp] theorem memWrite2_intPending (s : State) (x v : Word) : (s.memWrite2 x v).intPending = s.intPending := rfl
@[simp] theorem memWrite2_intData (s : State) (x v : Word) : (s.memWrite2 x v).intData = s.intData := rfl
@[simp] theorem memWrite2_portInputs (s : State) (x v : Word) : (s.memWrite2 x v).portInputs = s.portInputs := rfl
@[simp] theorem memWrite2_portHist (s : State) (x v : Word) : (s.memWrite2 x v).portHist = s.portHist := rfl
@[simp] theorem memWrite2_portHooks (s : State) (x v : Word) : (s.memWrite2 x v).portHooks = s.portHooks := rfl

/-! ### `push16` -/

@[simp] theorem push16_a (s : State) (v : Word) : (s.push16 v).a = s.a := rfl
@[simp] theorem push16_f (s : State) (v : Word) : (s.push16 v).f = s.f := rfl
@[simp] theorem push16_b (s : State) (v : Word) : (s.push16 v).b = s.b := rfl
@[simp] theorem push16_c (s : State) (v : Word) : (s.push16 v).c = s.c := rfl
@[simp] theorem push16_d (s : State) (v : Word) : (s.push16 v).d = s.d := rfl
@[simp] theorem push16_e (s : State) (v : Word) : (s.push16 v).e = s.e := rfl
@[simp] theorem push16_h (s : State) (v : Word) : (s.push16 v).h = s.h := rfl
@[simp] theorem push16_l (s : State) (v : Word) : (s.push16 v).l = s.l := rfl
@[simp] theorem push16_a_alt (s : State) (v : Word) : (s.push16 v).a' = s.a' := rfl
@[simp] theorem push16_f_alt (s : State) (v : Word) : (s.push16 v).f' = s.f' := rfl
@[simp] theorem push16_b_alt (s : State) (v : Word) : (s.push16 v).b' = s.b' := rfl
@[simp] theorem push16_c_alt (s : State) (v : Word) : (s.push16 v).c' = s.c' := rfl
@[simp] theorem push16_d_alt (s : State) (v : Word) : (s.push16 v).d' = s.d' := rfl
@[simp] theorem push16_e_alt (s : State) (v : Word) : (s.push16 v).e' = s.e' := rfl
@[simp] theorem push16_h_alt (s : State) (v : Word) : (s.push16 v).h' = s.h' := rfl
@[simp] theorem push16_l_alt (s : State) (v : Word) : (s.push16 v).l' = s.l' := rfl
@[simp] theorem push16_ix (s : State) (v : Word) : (s.push16 v).ix = s.ix := rfl
@[simp] theorem push16_iy (s : State) (v : Word) : (s.push16 v).iy = s.iy := rfl
@[simp] theorem push16_pc (s : State) (v : Word) : (s.push16 v).pc = s.pc := rfl
@[simp] theorem push16_i (s : State) (v : Word) : (s.push16 v).i = s.i := rfl
@[simp] theorem push16_r (s : State) (v : Word) : (s.push16 v).r = s.r := rfl
@[simp] theorem push16_iff1 (s : State) (v : Word) : (s.push16 v).iff1 = s.iff1 := rfl
@[simp] theorem push16_iff2 (s : State) (v : Word) : (s.push16 v).iff2 = s.iff2 := rfl
@[simp] theorem push16_im (s : State) (v : Word) : (s.push16 v).im = s.im := rfl
@[simp] theorem push16_halted (s : State) (v : Word) : (s.push16 v).halted = s.halted := rfl
@[simp] theorem push16_skipInt (s : State) (v : Word) : (s.push16 v).skipInt = s.skipInt := rfl
@[simp] theorem push16_pfx (s : State) (v : Word) : (s.push16 v).pfx = s.pfx := rfl
@[simp] theorem push16_memptr (s : State) (v : Word) : (s.push16 v).memptr = s.memptr := rfl
@[simp] theorem push16_q (s : State) (v : Word) : (s.push16 v).q = s.q := rfl
@[simp] theorem push16_pageA (s : State) (v : Word) : (s.push16 v).pageA = s.pageA := rfl
@[simp] theorem push16_pageB (s : State) (v : Word) : (s.push16 v).pageB = s.pageB := rfl
@[simp] theorem push16_fault (s : State) (v : Word) : (s.push16 v).fault = s.fault := rfl
@[simp] theorem push16_nmiPending (s : State) (v : Word) : (s.push16 v).nmiPending = s.nmiPending := rfl
@[simp] theorem push16_intPending (s : State) (v : Word) : (s.push16 v).intPending = s.intPending := rfl
@[simp] theorem push16_intData (s : State) (v : Word) : (s.push16 v).intData = s.intData := rfl
@[simp] theorem push16_portInputs (s : State) (v : Word) : (s.push16 v).portInputs = s.portInputs := rfl
@[simp] theorem push16_portHist (s : State) (v : Word) : (s.push16 v).portHist = s.portHist := rfl
@[simp] theorem push16_portHooks (s : State) (v : Word) : (s.push16 v).portHooks = s.portHooks := rfl

/-! ### `popped` -/

@[simp] theorem popped_a (s : State) : (s.popped).a = s.a := rfl
@[simp] theorem popped_f (s : State) : (s.popped).f = s.f := rfl
@[simp] theorem popped_b (s : State) : (s.popped).b = s.b := rfl
@[simp] theorem popped_c (s : State) : (s.popped).c = s.c := rfl
@[simp] theorem popped_d (s : State) : (s.popped).d = s.d := rfl
@[simp] theorem popped_e (s : State) : (s.popped).e = s.e := rfl
@[simp] theorem popped_h (s : State) : (s.popped).h = s.h := rfl
@[simp] theorem popped_l (s : State) : (s.popped).l = s.l := rfl
@[simp] theorem popped_a_alt (s : State) : (s.popped).a' = s.a' := rfl
@[simp] theorem popped_f_alt (s : State) : (s.popped).f' = s.f' := rfl
@[simp] theorem popped_b_alt (s : State) : (s.popped).b' = s.b' := rfl
@[simp] theorem popped_c_alt (s : State) : (s.popped).c' = s.c' := rfl
@[simp] theorem popped_d_alt (s : State) : (s.popped).d' = s.d' := rfl
@[simp] theorem popped_e_alt (s : State) : (s.popped).e' = s.e' := rfl
@[simp] theorem popped_h_alt (s : State) : (s.popped).h' = s.h' := rfl
@[simp] theorem popped_l_alt (s : State) : (s.popped).l' = s.l' := rfl
@[simp] theorem popped_ix (s : State) : (s.popped).ix = s.ix := rfl
@[simp] theorem popped_iy (s : State) : (s.popped).iy = s.iy := rfl
@[simp] theorem popped_sp (s : State) : (s.popped).sp = s.sp + 2 := rfl
@[simp] theorem popped_pc (s : State) : (s.popped).pc = s.pc := rfl
@[simp] theorem popped_i (s : State) : (s.popped).i = s.i := rfl
@[simp] theorem popped_r (s : State) : (s.popped).r = s.r := rfl
@[simp] theorem popped_iff1 (s : State) : (s.popped).iff1 = s.iff1 := rfl
@[simp] theorem popped_iff2 (s : State) : (s.popped).iff2 = s.iff2 := rfl
@[simp] theorem popped_im (s : State) : (s.popped).im = s.im := rfl
@[simp] theorem popped_halted (s : State) : (s.popped).halted = s.halted := rfl
@[simp] theorem popped_skipInt (s : State) : (s.popped).skipInt = s.skipInt := rfl
@[simp] theorem popped_pfx (s : State) : (s.popped).pfx = s.pfx := rfl
@[simp] theorem popped_memptr (s : State) : (s.popped).memptr = s.memptr := rfl
@[simp] theorem popped_q (s : State) : (s.popped).q = s.q := rfl
@[simp] theorem popped_pageA (s : State) : (s.popped).pageA = s.pageA := rfl
@[simp] theorem popped_pageB (s : State) : (s.popped).pageB = s.pageB := rfl
@[simp] theorem popped_fault (s : State) : (s.popped).fault = s.fault := rfl
@[simp] theorem popped_nmiPending (s : State) : (s.popped).nmiPending = s.nmiPending := rfl
@[simp] theorem popped_intPending (s : State) : (s.popped).intPending = s.intPending := rfl
@[simp] theorem popped_intData (s : State) : (s.popped).intData = s.intData := rfl
@[simp] theorem popped_mem (s : State) : (s.popped).mem = s.mem := rfl
@[simp] theorem popped_portInputs (s : State) : (s.popped).portInputs = s.portInputs := rfl
@[simp] theorem popped_portHist (s : State) : (s.popped).portHist = s.portHist := rfl
@[simp] theorem popped_portHooks (s : State) : (s.popped).portHooks = s.portHooks := rfl

/-! ### `afterPortRead` -/

@[simp] theorem afterPortRead_a (s : State) (pa : Word) : (s.afterPortRead pa).a = s.a := rfl
@[simp] theorem afterPortRead_f (s : State) (pa : Word) : (s.afterPortRead pa).f = s.f := rfl
@[simp] theorem afterPortRead_b (s : State) (pa : Word) : (s.afterPortRead pa).b = s.b := rfl
@[simp] theorem afterPortRead_c (s : State) (pa : Word) : (s.afterPortRead pa).c = s.c := rfl
@[simp] theorem afterPortRead_d (s : State) (pa : Word) : (s.afterPortRead pa).d = s.d := rfl
@[simp] theorem afterPortRead_e (s : State) (pa : Word) : (s.afterPortRead pa).e = s.e := rfl
@[simp] theorem afterPortRead_h (s : State) (pa : Word) : (s.afterPortRead pa).h = s.h := rfl
@[simp] theorem afterPortRead_l (s : State) (pa : Word) : (s.afterPortRead pa).l = s.l := rfl
@[simp] theorem afterPortRead_a_alt (s : State) (pa : Word) : (s.afterPortRead pa).a' = s.a' := rfl
@[simp] theorem afterPortRead_f_alt (s : State) (pa : Word) : (s.afterPortRead pa).f' = s.f' := rfl
@[simp] theorem afterPortRead_b_alt (s : State) (pa : Word) : (s.afterPortRead pa).b' = s.b' := rfl
@[simp] theorem afterPortRead_c_alt (s : State) (pa : Word) : (s.afterPortRead pa).c' = s.c' := rfl
@[simp] theorem afterPortRead_d_alt (s : State) (pa : Word) : (s.afterPortRead pa).d' = s.d' := rfl
@[simp] theorem afterPortRead_e_alt (s : State) (pa : Word) : (s.afterPortRead pa).e' = s.e' := rfl
@[simp] theorem afterPortRead_h_alt (s : State) (pa : Word) : (s.afterPortRead pa).h' = s.h' := rfl
@[simp] theorem afterPortRead_l_alt (s : State) (pa : Word) : (s.afterPortRead pa).l' = s.l' := rfl
@[simp] theorem afterPortRead_ix (s : State) (pa : Word) : (s.afterPortRead pa).ix = s.ix := rfl
@[simp] theorem afterPortRead_iy (s : State) (pa : Word) : (s.afterPortRead pa).iy = s.iy := rfl
@[simp] theorem afterPortRead_sp (s : State) (pa : Word) : (s.afterPortRead pa).sp = s.sp := rfl
@[simp] theorem afterPortRead_pc (s : State) (pa : Word) : (s.afterPortRead pa).pc = s.pc := rfl
@[simp] theorem afterPortRead_i (s : State) (pa : Word) : (s.afterPortRead pa).i = s.i := rfl
@[simp] theorem afterPortRead_r (s : State) (pa : Word) : (s.afterPortRead pa).r = s.r := rfl
@[simp] theorem afterPortRead_iff1 (s : State) (pa : Word) : (s.afterPortRead pa).iff1 = s.iff1 := rfl
@[simp] theorem afterPortRead_iff2 (s : State) (pa : Word) : (s.afterPortRead pa).iff2 = s.iff2 := rfl
@[simp] theorem afterPortRead_im (s : State) (pa : Word) : (s.afterPortRead pa).im = s.im := rfl
@[simp] theorem afterPortRead_halted (s : State) (pa : Word) : (s.afterPortRead pa).halted = s.halted := rfl
@[simp] theorem afterPortRead_skipInt (s : State) (pa : Word) : (s.afterPortRead pa).skipInt = s.skipInt := rfl
@[simp] theorem afterPortRead_pfx (s : State) (pa : Word) : (s.afterPortRead pa).pfx = s.pfx := rfl
@[simp] theorem afterPortRead_memptr (s : State) (pa : Word) : (s.afterPortRead pa).memptr = s.memptr := rfl
@[simp] theorem afterPortRead_q (s : State) (pa : Word) : (s.afterPortRead pa).q = s.q := rfl
@[simp] theorem afterPortRead_pageA (s : State) (pa : Word) : (s.afterPortRead pa).pageA = s.pageA := rfl
@[simp] theorem afterPortRead_pageB (s : State) (pa : Word) : (s.afterPortRead pa).pageB = s.pageB := rfl
@[simp] theorem afterPortRead_fault (s : State) (pa : Word) : (s.afterPortRead pa).fault = s.fault := rfl
@[simp] theorem afterPortRead_nmiPending (s : State) (pa : Word) : (s.afterPortRead pa).nmiPending = s.nmiPending := rfl
@[simp] theorem afterPortRead_intPending (s : State) (pa : Word) : (s.afterPortRead pa).intPending = s.intPending := rfl
@[simp] theorem afterPortRead_intData (s : State) (pa : Word) : (s.afterPortRead pa).intData = s.intData := rfl
@[simp] theorem afterPortRead_mem (s : State) (pa : Word) : (s.afterPortRead pa).mem = s.mem := rfl
@[simp] theorem afterPortRead_portInputs (s : State) (pa : Word) : (s.afterPortRead pa).portInputs = s.portInputs.tail := rfl
@[simp] theorem afterPortRead_portHist (s : State) (pa : Word) : (s.afterPortRead pa).portHist = .read pa (s.portValue pa) :: s.portHist := rfl
@[simp] theorem afterPortRead_portHooks (s : State) (pa : Word) : (s.afterPortRead pa).portHooks = s.portHooks := rfl

/-! ### `portWrite` -/

@[simp] theorem portWrite_a (s : State) (pa : Word) (v : Byte) : (s.portWrite pa v).a = s.a := rfl
@[simp] theorem portWrite_f (s : State) (pa : Word) (v : Byte) : (s.portWrite pa v).f = s.f := rfl
@[simp] theorem portWrite_b (s : State) (pa : Word) (v : Byte) : (s.portWrite pa v).b = s.b := rfl
@[simp] theorem portWrite_c (s : State) (pa : Word) (v : Byte) : (s.portWrite pa v).c = s.c := rfl
@[simp] theorem portWrite_d (s : State) (pa : Word) (v : Byte) : (s.portWrite pa v).d = s.d := rfl
@[simp] theorem portWrite_e (s : State) (pa : Word) (v : Byte) : (s.portWrite pa v).e = s.e := rfl
@[simp] theorem portWrite_h (s : State) (pa : Word) (v : Byte) : (s.portWrite pa v).h = s.h := rfl
@[simp] theorem portWrite_l (s : State) (pa : Word) (v : Byte) : (s.portWrite pa v).l = s.l := rfl
@[simp] theorem portWrite_a_alt (s : State) (pa : Word) (v : Byte) : (s.portWrite pa v).a' = s.a' := rfl
@[simp] theorem portWrite_f_alt (s : State) (pa : Word) (v : Byte) : (s.portWrite pa v).f' = s.f' := rfl
@[simp] theorem portWrite_b_alt (s : State) (pa : Word) (v : Byte) : (s.portWrite pa v).b' = s.b' := rfl
@[simp] theorem portWrite_c_alt (s : State) (pa : Word) (v : Byte) : (s.portWrite pa v).c' = s.c' := rfl
@[simp] theorem portWrite_d_alt (s : State) (pa : Word) (v : Byte) : (s.portWrite pa v).d' = s.d' := rfl
@[simp] theorem portWrite_e_alt (s : State) (pa : Word) (v : Byte) : (s.portWrite pa v).e' = s.e' := rfl
@[simp] theorem portWrite_h_alt (s : State) (pa : Word) (v : Byte) : (s.portWrite pa v).h' = s.h' := rfl
@[simp] theorem portWrite_l_alt (s : State) (pa : Word) (v : Byte) : (s.portWrite pa v).l' = s.l' := rfl
@[simp] theorem portWrite_ix (s : State) (pa : Word) (v : Byte) : (s.portWrite pa v).ix = s.ix := rfl
@[simp] theorem portWrite_iy (s : State) (pa : Word) (v : Byte) : (s.portWrite pa v).iy = s.iy := rfl
@[simp] theorem portWrite_sp (s : State) (pa : Word) (v : Byte) : (s.portWrite pa v).sp = s.sp := rfl
@[simp] theorem portWrite_pc (s : State) (pa : Word) (v : Byte) : (s.portWrite pa v).pc = s.pc := rfl
@[simp] theorem portWrite_i (s : State) (pa : Word) (v : Byte) : (s.portWrite pa v).i = s.i := rfl
@[simp] theorem portWrite_r (s : State) (pa : Word) (v : Byte) : (s.portWrite pa v).r = s.r := rfl
@[simp] theorem portWrite_iff1 (s : State) (pa : Word) (v : Byte) : (s.portWrite pa v).iff1 = s.iff1 := rfl
@[simp] theorem portWrite_iff2 (s : State) (pa : Word) (v : Byte) : (s.portWrite pa v).iff2 = s.iff2 := rfl
@[simp] theorem portWrite_im (s : State) (pa : Word) (v : Byte) : (s.portWrite pa v).im = s.im := rfl
@[simp] theorem portWrite_halted (s : State) (pa : Word) (v : Byte) : (s.portWrite pa v).halted = s.halted := rfl
@[simp] theorem portWrite_skipInt (s : State) (pa : Word) (v : Byte) : (s.portWrite pa v).skipInt = s.skipInt := rfl
@[simp] theorem portWrite_pfx (s : State) (pa : Word) (v : Byte) : (s.portWrite pa v).pfx = s.pfx := rfl
@[simp] theorem portWrite_memptr (s : State) (pa : Word) (v : Byte) : (s.portWrite pa v).memptr = s.memptr := rfl
@[simp] theorem portWrite_q (s : State) (pa : Word) (v : Byte) : (s.portWrite pa v).q = s.q := rfl
@[simp] theorem portWrite_pageA (s : State) (pa : Word) (v : Byte) : (s.portWrite pa v).pageA = if Config.pagingPortA pa then v else s.pageA := rfl
@[simp] theorem portWrite_pageB (s : State) (pa : Word) (v : Byte) : (s.portWrite pa v).pageB = if Config.pagingPortB pa then v else s.pageB := rfl
@[simp] theorem portWrite_fault (s : State) (pa : Word) (v : Byte) : (s.portWrite pa v).fault = s.fault := rfl
@[simp] theorem portWrite_nmiPending (s : State) (pa : Word) (v : Byte) : (s.portWrite pa v).nmiPending = s.nmiPending := rfl
@[simp] theorem portWrite_intPending (s : State) (pa : Word) (v : Byte) : (s.portWrite pa v).intPending = s.intPending := rfl
@[simp] theorem portWrite_intData (s : State) (pa : Word) (v : Byte) : (s.portWrite pa v).intData = s.intData := rfl
@[simp] theorem portWrite_mem (s : State) (pa : Word) (v : Byte) : (s.portWrite pa v).mem = s.hookedMem := rfl
@[simp] theorem portWrite_portInputs (s : State) (pa : Word) (v : Byte) : (s.portWrite pa v).portInputs = s.portInputs := rfl
@[simp] theorem portWrite_portHist (s : State) (pa : Word) (v : Byte) : (s.portWrite pa v).portHist = .write pa v :: s.portHist := rfl
@[simp] theorem portWrite_portHooks (s : State) (pa : Word) (v : Byte) : (s.portWrite pa v).portHooks = s.portHooks.tail := rfl

/-! ### `enterHandler` -/

@[simp] theorem enterHandler_a (s : State) (target : State → Word) : (s.enterHandler target).a = s.a := rfl
@[simp] theorem enterHandler_f (s : State) (target : State → Word) : (s.enterHandler target).f = s.f := rfl
@[simp] theorem enterHandler_b (s : State) (target : State → Word) : (s.enterHandler target).b = s.b := rfl
@[simp] theorem enterHandler_c (s : State) (target : State → Word) : (s.enterHandler target).c = s.c := rfl
@[simp] theorem enterHandler_d (s : State) (target : State → Word) : (s.enterHandler target).d = s.d := rfl
@[simp] theorem enterHandler_e (s : State) (target : State → Word) : (s.enterHandler target).e = s.e := rfl
@[simp] theorem enterHandler_h (s : State) (target : State → Word) : (s.enterHandler target).h = s.h := rfl
@[simp] theorem enterHandler_l (s : State) (target : State → Word) : (s.enterHandler target).l = s.l := rfl
@[simp] theorem enterHandler_a_alt (s : State) (target : State → Word) : (s.enterHandler target).a' = s.a' := rfl
@[simp] theorem enterHandler_f_alt (s : State) (target : State → Word) : (s.enterHandler target).f' = s.f' := rfl
@[simp] theorem enterHandler_b_alt (s : State) (target : State → Word) : (s.enterHandler target).b' = s.b' := rfl
@[simp] theorem enterHandler_c_alt (s : State) (target : State → Word) : (s.enterHandler target).c' = s.c' := rfl
@[simp] theorem enterHandler_d_alt (s : State) (target : State → Word) : (s.enterHandler target).d' = s.d' := rfl
@[simp] theorem enterHandler_e_alt (s : State) (target : State → Word) : (s.enterHandler target).e' = s.e' := rfl
@[simp] theorem enterHandler_h_alt (s : State) (target : State → Word) : (s.enterHandler target).h' = s.h' := rfl
@[simp] theorem enterHandler_l_alt (s : State) (target : State → Word) : (s.enterHandler target).l' = s.l' := rfl
@[simp] theorem enterHandler_ix (s : State) (target : State → Word) : (s.enterHandler target).ix = s.ix := rfl
@[simp] theorem enterHandler_iy (s : State) (target : State → Word) : (s.enterHandler target).iy = s.iy := rfl
@[simp] theorem enterHandler_i (s : State) (target : State → Word) : (s.enterHandler target).i = s.i := rfl
@[simp] theorem enterHandler_r (s : State) (target : State → Word) : (s.enterHandler target).r = s.r := rfl
@[simp] theorem enterHandler_iff1 (s : State) (target : State → Word) : (s.enterHandler target).iff1 = s.iff1 := rfl
@[simp] theorem enterHandler_iff2 (s : State) (target : State → Word) : (s.enterHandler target).iff2 = s.iff2 := rfl
@[simp] theorem enterHandler_im (s : State) (target : State → Word) : (s.enterHandler target).im = s.im := rfl
@[simp] theorem enterHandler_halted (s : State) (target : State → Word) : (s.enterHandler target).halted = s.halted := rfl
@[simp] theorem enterHandler_skipInt (s : State) (target : State → Word) : (s.enterHandler target).skipInt = s.skipInt := rfl
@[simp] theorem enterHandler_pfx (s : State) (target : State → Word) : (s.enterHandler target).pfx = s.pfx := rfl
@[simp] theorem enterHandler_q (s : State) (target : State → Word) : (s.enterHandler target).q = s.q := rfl
@[simp] theorem enterHandler_pageA (s : State) (target : State → Word) : (s.enterHandler target).pageA = s.pageA := rfl
@[simp] theorem enterHandler_pageB (s : State) (target : State → Word) : (s.enterHandler target).pageB = s.pageB := rfl
@[simp] theorem enterHandler_fault (s : State) (target : State → Word) : (s.enterHandler target).fault = s.fault := rfl
@[simp] theorem enterHandler_nmiPending (s : State) (target : State → Word) : (s.enterHandler target).nmiPending = s.nmiPending := rfl
@[simp] theorem enterHandler_intPending (s : State) (target : State → Word) : (s.enterHandler target).intPending = s.intPending := rfl
@[simp] theorem enterHandler_intData (s : State) (target : State → Word) : (s.enterHandler target).intData = s.intData := rfl
@[simp] theorem enterHandler_portInputs (s : State) (target : State → Word) : (s.enterHandler target).portInputs = s.portInputs := rfl
@[simp] theorem enterHandler_portHist (s : State) (target : State → Word) : (s.enterHandler target).portHist = s.portHist := rfl
@[simp] theorem enterHandler_portHooks (s : State) (target : State → Word) : (s.enterHandler target).portHooks = s.portHooks := rfl

/-! ### `raiseUnimplemented` -/

@[simp] theorem raiseUnimplemented_a (s : State) (idx : Nat) : (s.raiseUnimplemented idx).a = s.a := rfl
@[simp] theorem raiseUnimplemented_f (s : State) (idx : Nat) : (s.raiseUnimplemented idx).f = s.f := rfl
@[simp] theorem raiseUnimplemented_b (s : State) (idx : Nat) : (s.raiseUnimplemented idx).b = s.b := rfl
@[simp] theorem raiseUnimplemented_c (s : State) (idx : Nat) : (s.raiseUnimplemented idx).c = s.c := rfl
@[simp] theorem raiseUnimplemented_d (s : State) (idx : Nat) : (s.raiseUnimplemented idx).d = s.d := rfl
@[simp] theorem raiseUnimplemented_e (s : State) (idx : Nat) : (s.raiseUnimplemented idx).e = s.e := rfl
@[simp] theorem raiseUnimplemented_h (s : State) (idx : Nat) : (s.raiseUnimplemented idx).h = s.h := rfl
@[simp] theorem raiseUnimplemented_l (s : State) (idx : Nat) : (s.raiseUnimplemented idx).l = s.l := rfl
@[simp] theorem raiseUnimplemented_a_alt (s : State) (idx : Nat) : (s.raiseUnimplemented idx).a' = s.a' := rfl
@[simp] theorem raiseUnimplemented_f_alt (s : State) (idx : Nat) : (s.raiseUnimplemented idx).f' = s.f' := rfl
@[simp] theorem raiseUnimplemented_b_alt (s : State) (idx : Nat) : (s.raiseUnimplemented idx).b' = s.b' := rfl
@[simp] theorem raiseUnimplemented_c_alt (s : State) (idx : Nat) : (s.raiseUnimplemented idx).c' = s.c' := rfl
@[simp] theorem raiseUnimplemented_d_alt (s : State) (idx : Nat) : (s.raiseUnimplemented idx).d' = s.d' := rfl
@[simp] theorem raiseUnimplemented_e_alt (s : State) (idx : Nat) : (s.raiseUnimplemented idx).e' = s.e' := rfl
@[simp] theorem raiseUnimplemented_h_alt (s : State) (idx : Nat) : (s.raiseUnimplemented idx).h' = s.h' := rfl
@[simp] theorem raiseUnimplemented_l_alt (s : State) (idx : Nat) : (s.raiseUnimplemented idx).l' = s.l' := rfl
@[simp] theorem raiseUnimplemented_ix (s : State) (idx : Nat) : (s.raiseUnimplemented idx).ix = s.ix := rfl
@[simp] theorem raiseUnimplemented_iy (s : State) (idx : Nat) : (s.raiseUnimplemented idx).iy = s.iy := rfl
@[simp] theorem raiseUnimplemented_sp (s : State) (idx : Nat) : (s.raiseUnimplemented idx).sp = s.sp := rfl
@[simp] theorem raiseUnimplemented_pc (s : State) (idx : Nat) : (s.raiseUnimplemented idx).pc = s.pc := rfl
@[simp] theorem raiseUnimplemented_i (s : State) (idx : Nat) : (s.raiseUnimplemented idx).i = s.i := rfl
@[simp] theorem raiseUnimplemented_r (s : State) (idx : Nat) : (s.raiseUnimplemented idx).r = s.r := rfl
@[simp] theorem raiseUnimplemented_iff1 (s : State) (idx : Nat) : (s.raiseUnimplemented idx).iff1 = s.iff1 := rfl
@[simp] theorem raiseUnimplemented_iff2 (s : State) (idx : Nat) : (s.raiseUnimplemented idx).iff2 = s.iff2 := rfl
@[simp] theorem raiseUnimplemented_im (s : State) (idx : Nat) : (s.raiseUnimplemented idx).im = s.im := rfl
@[simp] theorem raiseUnimplemented_halted (s : State) (idx : Nat) : (s.raiseUnimplemented idx).halted = s.halted := rfl
@[simp] theorem raiseUnimplemented_skipInt (s : State) (idx : Nat) : (s.raiseUnimplemented idx).skipInt = s.skipInt := rfl
@[simp] theorem raiseUnimplemented_pfx (s : State) (idx : Nat) : (s.raiseUnimplemented idx).pfx = none := rfl
@[simp] theorem raiseUnimplemented_memptr (s : State) (idx : Nat) : (s.raiseUnimplemented idx).memptr = s.memptr := rfl
@[simp] theorem raiseUnimplemented_q (s : State) (idx : Nat) : (s.raiseUnimplemented idx).q = s.q := rfl
@[simp] theorem raiseUnimplemented_pageA (s : State) (idx : Nat) : (s.raiseUnimplemented idx).pageA = s.pageA := rfl
@[simp] theorem raiseUnimplemented_pageB (s : State) (idx : Nat) : (s.raiseUnimplemented idx).pageB = s.pageB := rfl
@[simp] theorem raiseUnimplemented_fault (s : State) (idx : Nat) : (s.raiseUnimplemented idx).fault = some idx := rfl
@[simp] theorem raiseUnimplemented_nmiPending (s : State) (idx : Nat) : (s.raiseUnimplemented idx).nmiPending = s.nmiPending := rfl
@[simp] theorem raiseUnimplemented_intPending (s : State) (idx : Nat) : (s.raiseUnimplemented idx).intPending = s.intPending := rfl
@[simp] theorem raiseUnimplemented_intData (s : State) (idx : Nat) : (s.raiseUnimplemented idx).intData = s.intData := rfl
@[simp] theorem raiseUnimplemented_mem (s : State) (idx : Nat) : (s.raiseUnimplemented idx).mem = s.mem := rfl
@[simp] theorem raiseUnimplemented_portInputs (s : State) (idx : Nat) : (s.raiseUnimplemented idx).portInputs = s.portInputs := rfl
@[simp] theorem raiseUnimplemented_portHist (s : State) (idx : Nat) : (s.raiseUnimplemented idx).portHist = s.portHist := rfl
@[simp] theorem raiseUnimplemented_portHooks (s : State) (idx : Nat) : (s.raiseUnimplemented idx).portHooks = s.portHooks := rfl

/-! ### Registers written through an operand -/

theorem r8_setR8 (s : State) (r k : R8) (v : Byte) :
    (s.setR8 r v).r8 k = if k = r then v else s.r8 k := by
  cases r <;> cases k <;> rfl

@[simp] theorem r8_setR8_self (s : State) (r : R8) (v : Byte) : (s.setR8 r v).r8 r = v := by
  cases r <;> rfl

theorem r8_setR8_other (s : State) {r k : R8} (v : Byte) (h : k ≠ r) : (s.setR8 r v).r8 k = s.r8 k := by
  rw [r8_setR8, if_neg h]

@[simp] theorem xy_setXy_self (s : State) (x : Xy) (v : Word) : (s.setXy x v).xy x = v := by
  cases x <;> rfl

theorem xy_setXy_other (s : State) {x y : Xy} (v : Word) (h : y ≠ x) : (s.setXy x v).xy y = s.xy y := by
  cases x <;> cases y <;> first | rfl | exact absurd rfl h

end Sys2Proof.Machine
end

