-- ==== Sys2Proof/Laws/Claims.lean ====
section
/-! SUPPORT. What the named updates give of the terms claims are stated in (Sys2Proof/Safety.lean): one
register written, one index register, one half, one pair, and the bytes that a store, a push or an
exchange with the stack writes. -/

namespace Sys2Proof.Machine

/-! ### Memory through a record that keeps it -/

theorem memRead_of_mem {s t : State} (h : t.mem = s.mem) (a : Word) : t.memRead a = s.memRead a := by
  simp only [State.memRead, h]

theorem sameMemoryBut_of_mem {s t u : State} {l : List Word} (h : u.mem = t.mem)
    (hs : sameMemoryBut s t l) : sameMemoryBut s u l := fun a ha => by
  rw [memRead_of_mem h, hs a ha]

/-! ### Registers -/

theorem writesR8_of {s t : State} {r : R8} {v : Byte}
    (h : ∀ k, t.r8 k = (s.setR8 r v).r8 k) : writesR8 s t r v :=
  ⟨by rw [h, r8_setR8_self], fun k hk => by rw [h, r8_setR8_other s v hk]⟩

theorem writesXy_of {s t : State} {x : Xy} {v : Word}
    (h : ∀ k, t.xy k = (s.setXy x v).xy k) : writesXy s t x v :=
  ⟨by rw [h, xy_setXy_self], fun k hk => by rw [h, xy_setXy_other s v hk]⟩

theorem writesHalf_of {s t : State} {x : Xy} {k : Half} {v : Byte}
    (e : ∀ y, t.xy y = (s.setHalf x k v).xy y) : writesHalf s t x k v := by
  constructor
  · cases x <;> cases k <;> simp [State.half, e] <;> simp [State.setHalf, State.setXy, State.xy]
  · intro y j hyj
    cases x <;> cases k <;> cases y <;> cases j <;>
      first
      | exact absurd rfl hyj
      | (simp [State.half, e]; simp [State.setHalf, State.setXy, State.xy])

theorem writesPair_of {s t : State} {p : Pair} {v : Word}
    (e : ∀ k, t.pair k = (s.setPair p v).pair k) : writesPair s t p v := by
  constructor
  · rw [e]
    cases p <;>
      simp [State.setPair, State.pair, State.setBc, State.setDe, State.setHl, State.bc, State.de, State.hl]
  · intro k hk
    rw [e]
    cases p <;> cases k <;> first | exact absurd rfl hk | rfl

/-! ### The port-write hook -/

theorem read_expose (m : Memory) (changes : List MemChange) (x : Word) :
    (m.expose changes).read x = exposedByte changes x (m.read x) := by
  induction changes generalizing m with
  | nil => rfl
  | cons c rest ih => simp only [Memory.expose, exposedByte, ih, Memory.read_write]

theorem hookRan_of {s t : State} (hm : t.mem = s.hookedMem) (hh : t.portHooks = s.portHooks.tail) :
    hookRan s t :=
  ⟨fun x => by simp only [State.memRead, hm, State.hookedMem, read_expose], hh,
    fun h => by simp [hm, State.hookedMem, h, Memory.expose]⟩

/-! ### Jumps, without unfolding the match over the forms -/

theorem plainJumpTarget_jr (s : State) (e : Byte) : plainJumpTarget s (.jr_e e) = some (s.relTarget e) := rfl

theorem plainJumpTarget_jrCc (s : State) (cc : JrCond) (e : Byte) :
    plainJumpTarget s (.jrCc cc e) =
      if condHolds (jrCondition cc) s.f then some (s.relTarget e) else none := rfl

theorem plainJumpTarget_jp (s : State) (nn : Word) : plainJumpTarget s (.jp_nn nn) = some nn := rfl

theorem plainJumpTarget_jpCc (s : State) (cc : Cond) (nn : Word) :
    plainJumpTarget s (.jpCc cc nn) = if condHolds cc s.f then some nn else none := rfl

theorem plainJumpTarget_jpHl (s : State) : plainJumpTarget s .jp_hl = some s.hl := rfl

theorem xyJumpTarget_jpXy (s : State) (xy : Xy) : xyJumpTarget s (.jpXy xy) = some (s.xy xy) := rfl

/-! ### Stores -/

theorem sameMemoryBut_memWrite (s : State) (a : Word) (v : Byte) :
    sameMemoryBut s (s.memWrite a v) [a] := fun x hx => by
  rw [memRead_memWrite, if_neg (by simpa using hx)]

theorem memRead_memWrite2_lo (s : State) (a v : Word) : (s.memWrite2 a v).memRead a = loByte v := by
  rw [memRead_memWrite2, if_neg (add_one_ne a).symm, if_pos rfl]

theorem memRead_memWrite2_hi (s : State) (a v : Word) :
    (s.memWrite2 a v).memRead (a + 1) = hiByte v := by
  rw [memRead_memWrite2, if_pos rfl]

theorem sameMemoryBut_memWrite2 (s : State) (a v : Word) :
    sameMemoryBut s (s.memWrite2 a v) [a, a + 1] := fun x hx => by
  simp only [List.mem_cons, List.not_mem_nil, or_false, not_or] at hx
  rw [memRead_memWrite2, if_neg hx.2, if_neg hx.1]

theorem sub_two_ne_sub_one (a : Word) : a - 1 ≠ a - 2 := by bv_omega

theorem memRead_push16_hi (s : State) (v : Word) : (s.push16 v).memRead (s.sp - 1) = hiByte v := by
  rw [memRead_push16, if_neg (sub_two_ne_sub_one _), if_pos rfl]

theorem memRead_push16_lo (s : State) (v : Word) : (s.push16 v).memRead (s.sp - 2) = loByte v := by
  rw [memRead_push16, if_pos rfl]

theorem sameMemoryBut_push16 (s : State) (v : Word) :
    sameMemoryBut s (s.push16 v) [s.sp - 1, s.sp - 2] := fun x hx => by
  simp only [List.mem_cons, List.not_mem_nil, or_false, not_or] at hx
  rw [memRead_push16, if_neg hx.2, if_neg hx.1]

/-- A push changes SP and memory alone. -/
theorem push16_eq (s : State) (v : Word) :
    s.push16 v = { s with mem := (s.push16 v).mem, sp := s.sp - 2 } := by
  have h := push16_sp s v
  simp only [State.push16, State.memWrite] at h ⊢
  rw [h]

end Sys2Proof.Machine
end

