-- ==== Sys2Proof/Laws/Effects.lean ====
section
/-! SUPPORT. One lemma per shared operation: the next state it answers, as one record update of the state it
starts from. -/

namespace Sys2Proof.Machine

/-! ### How an action ends -/

theorem done_eq (s : State) (len : Word) : s.done len = .next { s with q := 0, pc := s.pc + len } := rfl

theorem doneFlags_eq (s : State) (g : Byte) (len : Word) :
    s.doneFlags g len = .next { s with f := g, q := g, pc := s.pc + len } := rfl

theorem goto_eq (s : State) (target : Word) : s.goto target = .next { s with q := 0, pc := target } := rfl

theorem gotoFlags_eq (s : State) (g : Byte) (target : Word) :
    s.gotoFlags g target = .next { s with f := g, q := g, pc := target } := rfl

/-! ### Loads and exchanges -/

theorem loadRegReg_eq (dst src : R8) (s : State) :
    loadRegReg dst src s = .next { s.setR8 dst (s.r8 src) with q := 0, pc := s.pc + 1 } := by
  simp only [loadRegReg, done_eq, setR8_pc]

theorem loadRegImm_eq (r : R8) (n : Byte) (s : State) :
    loadRegImm r n s = .next { s.setR8 r n with q := 0, pc := s.pc + 2 } := by
  simp only [loadRegImm, done_eq, setR8_pc]

theorem loadRegHl_eq (r : R8) (s : State) :
    loadRegHl r s = .next { s.setR8 r (s.memRead s.hl) with q := 0, pc := s.pc + 1 } := by
  simp only [loadRegHl, done_eq, setR8_pc]

theorem loadRegIdx_eq (r : R8) (xy : Xy) (d : Byte) (s : State) :
    loadRegIdx r xy d s = .next { s.setR8 r (s.memRead (s.ea xy d)) with
      memptr := s.ea xy d, q := 0, pc := s.pc + 2 } := by
  simp only [loadRegIdx, done_eq, State.setMemptr, setR8_pc]

theorem storeHlReg_eq (r : R8) (s : State) :
    storeHlReg r s = .next { s with
      mem := (s.memWrite s.hl (s.r8 r)).mem, q := 0, pc := s.pc + 1 } := rfl

theorem storeHlImm_eq (n : Byte) (s : State) :
    storeHlImm n s = .next { s with mem := (s.memWrite s.hl n).mem, q := 0, pc := s.pc + 2 } := rfl

theorem storeIdxReg_eq (xy : Xy) (d : Byte) (r : R8) (s : State) :
    storeIdxReg xy d r s = .next { s with
      mem := (s.memWrite (s.ea xy d) (s.r8 r)).mem, memptr := s.ea xy d, q := 0, pc := s.pc + 2 } := rfl

theorem storeIdxImm_eq (xy : Xy) (d n : Byte) (s : State) :
    storeIdxImm xy d n s = .next { s with
      mem := (s.memWrite (s.ea xy d) n).mem, memptr := s.ea xy d, q := 0, pc := s.pc + 3 } := rfl

theorem loadAFrom_eq (addr len : Word) (s : State) :
    loadAFrom addr len s = .next { s with
      a := s.memRead addr, memptr := addr + 1, q := 0, pc := s.pc + len } := rfl

theorem storeATo_eq (addr len : Word) (s : State) :
    storeATo addr len s = .next { s with
      mem := (s.memWrite addr s.a).mem, memptr := mkWord s.a (loByte addr + 1), q := 0,
      pc := s.pc + len } := rfl

theorem loadPlainHalf_eq (r : Plain) (xy : Xy) (k : Half) (s : State) :
    loadPlainHalf r xy k s = .next { s.setR8 (plainR8 r) (s.half xy k) with q := 0, pc := s.pc + 1 } := by
  simp only [loadPlainHalf, done_eq, setR8_pc]

theorem loadHalfPlain_eq (xy : Xy) (k : Half) (r : Plain) (s : State) :
    loadHalfPlain xy k r s = .next { s.setHalf xy k (s.r8 (plainR8 r)) with
      q := 0, pc := s.pc + 1 } := by
  simp only [loadHalfPlain, done_eq, setHalf_pc]

theorem loadHalfHalf_eq (xy : Xy) (k j : Half) (s : State) :
    loadHalfHalf xy k j s = .next { s.setHalf xy k (s.half xy j) with q := 0, pc := s.pc + 1 } := by
  simp only [loadHalfHalf, done_eq, setHalf_pc]

theorem loadHalfImm_eq (xy : Xy) (k : Half) (n : Byte) (s : State) :
    loadHalfImm xy k n s = .next { s.setHalf xy k n with q := 0, pc := s.pc + 2 } := by
  simp only [loadHalfImm, done_eq, setHalf_pc]

theorem loadIA_eq (s : State) : loadIA s = .next { s with i := s.a, q := 0, pc := s.pc + 1 } := rfl

theorem loadRA_eq (s : State) : loadRA s = .next { s with r := s.a, q := 0, pc := s.pc + 1 } := rfl

theorem loadAI_eq (s : State) :
    loadAI s = .next { s with
      a := s.i, f := loadIrFlags s.i s.iff2 s.f, q := loadIrFlags s.i s.iff2 s.f, pc := s.pc + 1 } := rfl

theorem loadAR_eq (s : State) :
    loadAR s = .next { s with
      a := s.r, f := loadIrFlags s.r s.iff2 s.f, q := loadIrFlags s.r s.iff2 s.f, pc := s.pc + 1 } := rfl

theorem loadPairImm_eq (p : Pair) (nn : Word) (s : State) :
    loadPairImm p nn s = .next { s.setPair p nn with q := 0, pc := s.pc + 3 } := by
  simp only [loadPairImm, done_eq, setPair_pc]

theorem loadXyImm_eq (xy : Xy) (nn : Word) (s : State) :
    loadXyImm xy nn s = .next { s.setXy xy nn with q := 0, pc := s.pc + 3 } := by
  simp only [loadXyImm, done_eq, setXy_pc]

theorem loadHlDirect_eq (nn : Word) (s : State) :
    loadHlDirect nn s = .next { s with
      h := s.memRead (nn + 1), l := s.memRead nn, memptr := nn + 1, q := 0, pc := s.pc + 3 } := by
  simp only [loadHlDirect, State.setHl, State.setMemptr, State.memRead2, hiByte_mkWord, loByte_mkWord,
    done_eq]

theorem loadPairDirect_eq (p : Pair) (nn : Word) (s : State) :
    loadPairDirect p nn s = .next { s.setPair p (s.memRead2 nn) with
      memptr := nn + 1, q := 0, pc := s.pc + 3 } := by
  simp only [loadPairDirect, done_eq, State.setMemptr, setPair_pc]

theorem loadXyDirect_eq (xy : Xy) (nn : Word) (s : State) :
    loadXyDirect xy nn s = .next { s.setXy xy (s.memRead2 nn) with
      memptr := nn + 1, q := 0, pc := s.pc + 3 } := by
  simp only [loadXyDirect, done_eq, State.setMemptr, setXy_pc]

theorem storeWordAt_eq (nn v : Word) (s : State) :
    storeWordAt nn v s = .next { s with
      mem := (s.memWrite2 nn v).mem, memptr := nn + 1, q := 0, pc := s.pc + 3 } := by
  simp only [storeWordAt, done_eq, State.setMemptr, State.memWrite2, State.memWrite]

theorem loadSpHl_eq (s : State) : loadSpHl s = .next { s with sp := s.hl, q := 0, pc := s.pc + 1 } := rfl

theorem loadSpXy_eq (xy : Xy) (s : State) :
    loadSpXy xy s = .next { s with sp := s.xy xy, q := 0, pc := s.pc + 1 } := rfl

theorem exchangeDeHl_eq (s : State) :
    exchangeDeHl s = .next { s with d := s.h, e := s.l, h := s.d, l := s.e, q := 0, pc := s.pc + 1 } := rfl

theorem exchangeAf_eq (s : State) :
    exchangeAf s = .next { s with a := s.a', f := s.f', a' := s.a, f' := s.f, q := 0, pc := s.pc + 1 } := rfl

theorem exchangeBanks_eq (s : State) :
    exchangeBanks s = .next { s with
      b := s.b', c := s.c', d := s.d', e := s.e', h := s.h', l := s.l'
      b' := s.b, c' := s.c, d' := s.d, e' := s.e, h' := s.h, l' := s.l
      q := 0, pc := s.pc + 1 } := rfl

theorem memRead_exchangeAtSp_lo (s : State) (v : Word) : (exchangeAtSp v s).memRead s.sp = loByte v := by
  simp only [exchangeAtSp, memRead_memWrite_self]

theorem memRead_exchangeAtSp_hi (s : State) (v : Word) :
    (exchangeAtSp v s).memRead (s.sp + 1) = hiByte v := by
  rw [exchangeAtSp, memRead_memWrite, if_neg (add_one_ne _), memRead_memWrite_self]

theorem sameMemoryBut_exchangeAtSp (s : State) (v : Word) :
    sameMemoryBut s (exchangeAtSp v s) [s.sp, s.sp + 1] := fun x hx => by
  simp only [List.mem_cons, List.not_mem_nil, or_false, not_or] at hx
  rw [exchangeAtSp, memRead_memWrite, if_neg hx.1, memRead_memWrite, if_neg hx.2]

theorem exchangeStackHl_eq (s : State) :
    exchangeStackHl s = .next { s with
      mem := (exchangeAtSp s.hl s).mem, h := s.memRead (s.sp + 1), l := s.memRead s.sp
      memptr := s.memRead2 s.sp, q := 0, pc := s.pc + 1 } := by
  simp only [exchangeStackHl, exchangeAtSp, State.setHl, State.setMemptr, State.memWrite,
    State.memRead2, hiByte_mkWord, loByte_mkWord, done_eq]

theorem exchangeStackXy_eq (xy : Xy) (s : State) :
    exchangeStackXy xy s = .next { s.setXy xy (s.memRead2 s.sp) with
      mem := (exchangeAtSp (s.xy xy) s).mem, memptr := s.memRead2 s.sp, q := 0, pc := s.pc + 1 } := by
  cases xy <;>
    simp only [exchangeStackXy, exchangeAtSp, State.setXy, State.setMemptr, State.memWrite, done_eq]

/-! ### 8-bit arithmetic and logic -/

/-- The MEMPTR that an accumulator operation leaves (R260). -/
theorem latchSrc8_eq (src : Src8) (s : State) :
    latchSrc8 src s = { s with memptr := match src with
      | .idx x d => s.ea x d
      | _ => s.memptr } := by
  cases src <;> rfl

theorem aluAccumulator_eq (op : AluOp) (src : Src8) (s : State) :
    aluAccumulator op src s = .next { s with
      a := (alu8 op s.a (readSrc8 src s) s.f).r
      f := (alu8 op s.a (readSrc8 src s) s.f).f
      q := (alu8 op s.a (readSrc8 src s) s.f).f
      memptr := match src with
        | .idx x d => s.ea x d
        | _ => s.memptr
      pc := s.pc + lenSrc8 src } := by
  simp only [aluAccumulator, doneFlags_eq, latchSrc8_eq]

theorem writeDst8_pc (dst : Dst8) (v : Byte) (s : State) : (writeDst8 dst v s).pc = s.pc := by
  cases dst <;> simp only [writeDst8, setR8_pc, memWrite_pc, setMemptr_pc, setHalf_pc]

theorem increment8_eq (dst : Dst8) (s : State) :
    increment8 dst s = .next { writeDst8 dst (inc8 (readDst8 dst s) s.f).r s with
      f := (inc8 (readDst8 dst s) s.f).f, q := (inc8 (readDst8 dst s) s.f).f
      pc := s.pc + lenDst8 dst } := by
  simp only [increment8, doneFlags_eq, writeDst8_pc]

theorem decrement8_eq (dst : Dst8) (s : State) :
    decrement8 dst s = .next { writeDst8 dst (dec8 (readDst8 dst s) s.f).r s with
      f := (dec8 (readDst8 dst s) s.f).f, q := (dec8 (readDst8 dst s) s.f).f
      pc := s.pc + lenDst8 dst } := by
  simp only [decrement8, doneFlags_eq, writeDst8_pc]

/-! ### 16-bit arithmetic, DAA, CPL, NEG -/

theorem addHlPair_eq (p : Pair) (s : State) :
    addHlPair p s = .next { s with
      h := hiByte (addPair16 s.hl (s.pair p) s.f).r, l := loByte (addPair16 s.hl (s.pair p) s.f).r
      f := (addPair16 s.hl (s.pair p) s.f).f, q := (addPair16 s.hl (s.pair p) s.f).f
      memptr := s.hl + 1, pc := s.pc + 1 } := rfl

theorem addXyPair_eq (xy : Xy) (p : AddPair) (s : State) :
    addXyPair xy p s = .next { s.setXy xy (addPair16 (s.xy xy) (s.addPair xy p) s.f).r with
      f := (addPair16 (s.xy xy) (s.addPair xy p) s.f).f
      q := (addPair16 (s.xy xy) (s.addPair xy p) s.f).f
      memptr := s.xy xy + 1, pc := s.pc + 1 } := by
  simp only [addXyPair, State.setMemptr, doneFlags_eq, setXy_pc]

theorem adcHlPair_eq (p : Pair) (s : State) :
    adcHlPair p s = .next { s with
      h := hiByte (add16 s.hl (s.pair p) (flagC s.f)).r, l := loByte (add16 s.hl (s.pair p) (flagC s.f)).r
      f := sumFlags16 (add16 s.hl (s.pair p) (flagC s.f)) false
      q := sumFlags16 (add16 s.hl (s.pair p) (flagC s.f)) false
      memptr := s.hl + 1, pc := s.pc + 1 } := rfl

theorem sbcHlPair_eq (p : Pair) (s : State) :
    sbcHlPair p s = .next { s with
      h := hiByte (sub16 s.hl (s.pair p) (flagC s.f)).r, l := loByte (sub16 s.hl (s.pair p) (flagC s.f)).r
      f := sumFlags16 (sub16 s.hl (s.pair p) (flagC s.f)) true
      q := sumFlags16 (sub16 s.hl (s.pair p) (flagC s.f)) true
      memptr := s.hl + 1, pc := s.pc + 1 } := rfl

theorem incrementPair_eq (p : Pair) (s : State) :
    incrementPair p s = .next { s.setPair p (s.pair p + 1) with q := 0, pc := s.pc + 1 } := by
  simp only [incrementPair, done_eq, setPair_pc]

theorem decrementPair_eq (p : Pair) (s : State) :
    decrementPair p s = .next { s.setPair p (s.pair p - 1) with q := 0, pc := s.pc + 1 } := by
  simp only [decrementPair, done_eq, setPair_pc]

theorem incrementXy_eq (xy : Xy) (s : State) :
    incrementXy xy s = .next { s.setXy xy (s.xy xy + 1) with q := 0, pc := s.pc + 1 } := by
  simp only [incrementXy, done_eq, setXy_pc]

theorem decrementXy_eq (xy : Xy) (s : State) :
    decrementXy xy s = .next { s.setXy xy (s.xy xy - 1) with q := 0, pc := s.pc + 1 } := by
  simp only [decrementXy, done_eq, setXy_pc]

theorem decimalAdjust_eq (s : State) :
    decimalAdjust s = .next { s with
      a := (daa8 s.a s.f).r, f := (daa8 s.a s.f).f, q := (daa8 s.a s.f).f, pc := s.pc + 1 } := rfl

theorem complementA_eq (s : State) :
    complementA s = .next { s with
      a := ~~~s.a, f := (cpl8 s.a s.f).f, q := (cpl8 s.a s.f).f, pc := s.pc + 1 } := rfl

theorem negate_eq (y : BitNo) (s : State) :
    negate y s = .next { s with
      a := (sub8 0 s.a false).r, f := (neg8 s.a).f, q := (neg8 s.a).f, pc := s.pc + 1 } := rfl

/-! ### Rotates, shifts, bits -/

theorem rotateA_eq (op : RotOp) (s : State) :
    rotateA op s = .next { s with
      a := (rotAOut op s.a s.f).r, f := (rotAOut op s.a s.f).f, q := (rotAOut op s.a s.f).f
      pc := s.pc + 1 } := rfl

theorem writeM8_pc (m : M8) (v : Byte) (s : State) : (writeM8 m v s).pc = s.pc := by
  cases m <;> simp only [writeM8, setR8_pc, memWrite_pc, setMemptr_pc]

theorem rotateShift_eq (op : RotOp) (m : M8) (s : State) :
    rotateShift op m s = .next { writeM8 m (rotOut op (readM8 m s) s.f).r s with
      f := (rotOut op (readM8 m s) s.f).f, q := (rotOut op (readM8 m s) s.f).f
      pc := s.pc + lenM8 m } := by
  simp only [rotateShift, doneFlags_eq, writeM8_pc]

theorem latchM8_eq (m : M8) (s : State) :
    latchM8 m s = { s with memptr := match m with
      | .idx x d => s.ea x d
      | .idxCopy x d _ => s.ea x d
      | _ => s.memptr } := by
  cases m <;> rfl

theorem bitTest_eq (b : BitNo) (m : M8) (s : State) :
    bitTest b m s = .next { s with
      f := bitFlags b (readM8 m s) (bitXySource m s) s.f
      q := bitFlags b (readM8 m s) (bitXySource m s) s.f
      memptr := match m with
        | .idx x d => s.ea x d
        | .idxCopy x d _ => s.ea x d
        | _ => s.memptr
      pc := s.pc + lenM8 m } := by
  simp only [bitTest, doneFlags_eq, latchM8_eq]

theorem bitReset_eq (b : BitNo) (m : M8) (s : State) :
    bitReset b m s = .next { writeM8 m (resBit b (readM8 m s)) s with q := 0, pc := s.pc + lenM8 m } := by
  simp only [bitReset, done_eq, writeM8_pc]

theorem bitSet_eq (b : BitNo) (m : M8) (s : State) :
    bitSet b m s = .next { writeM8 m (setBit b (readM8 m s)) s with q := 0, pc := s.pc + lenM8 m } := by
  simp only [bitSet, done_eq, writeM8_pc]

/-! ### Block transfer and search, RLD and RRD -/

theorem blockLoadMove_eq (dir : Dir) (s : State) :
    blockLoadMove dir s = { s with
      mem := (s.memWrite s.de (s.memRead s.hl)).mem
      h := hiByte (s.hl + dirStep dir), l := loByte (s.hl + dirStep dir)
      d := hiByte (s.de + dirStep dir), e := loByte (s.de + dirStep dir)
      b := hiByte (s.bc - 1), c := loByte (s.bc - 1) } := by
  simp only [blockLoadMove, State.setHl, State.setDe, State.setBc, State.memWrite]

theorem blockLoadRepeat_eq (dir : Dir) (s : State) :
    blockLoadRepeat dir s =
      if s.bc - 1 ≠ 0 then
        .next { blockLoadMove dir s with
          f := blockLoadF s, q := blockLoadF s, memptr := s.pc, pc := s.pc - 1 }
      else
        .next { blockLoadMove dir s with f := blockLoadF s, q := blockLoadF s, pc := s.pc + 1 } := by
  simp only [blockLoadRepeat, blockLoadOnce, doneFlags_eq, gotoFlags_eq, State.setMemptr, blockLoadMove_eq]

theorem blockLoadOnce_eq (dir : Dir) (s : State) :
    blockLoadOnce dir s =
      .next { blockLoadMove dir s with f := blockLoadF s, q := blockLoadF s, pc := s.pc + 1 } := by
  simp only [blockLoadOnce, doneFlags_eq, blockLoadMove_eq]

theorem blockCompareMove_eq (dir : Dir) (s : State) :
    blockCompareMove dir s = { s with
      h := hiByte (s.hl + dirStep dir), l := loByte (s.hl + dirStep dir)
      b := hiByte (s.bc - 1), c := loByte (s.bc - 1), memptr := s.memptr + dirStep dir } := rfl

theorem blockCompareOnce_eq (dir : Dir) (s : State) :
    blockCompareOnce dir s =
      .next { blockCompareMove dir s with f := blockCompareF s, q := blockCompareF s, pc := s.pc + 1 } := rfl

theorem blockCompareRepeat_eq (dir : Dir) (s : State) :
    blockCompareRepeat dir s =
      if s.bc - 1 ≠ 0 ∧ (sub8 s.a (s.memRead s.hl) false).r ≠ 0 then
        .next { blockCompareMove dir s with
          f := blockCompareF s, q := blockCompareF s, memptr := s.pc, pc := s.pc - 1 }
      else
        .next { blockCompareMove dir s with
          f := blockCompareF s, q := blockCompareF s, pc := s.pc + 1 } := rfl

theorem rotateDigitLeft_eq (s : State) :
    rotateDigitLeft s = .next { s with
      mem := (s.memWrite s.hl (loNibble (s.memRead s.hl) ++ loNibble s.a)).mem
      a := hiNibble s.a ++ hiNibble (s.memRead s.hl)
      f := logicKeepCarry (hiNibble s.a ++ hiNibble (s.memRead s.hl)) s.f
      q := logicKeepCarry (hiNibble s.a ++ hiNibble (s.memRead s.hl)) s.f
      memptr := s.hl + 1, pc := s.pc + 1 } := rfl

theorem rotateDigitRight_eq (s : State) :
    rotateDigitRight s = .next { s with
      mem := (s.memWrite s.hl (loNibble s.a ++ hiNibble (s.memRead s.hl))).mem
      a := hiNibble s.a ++ loNibble (s.memRead s.hl)
      f := logicKeepCarry (hiNibble s.a ++ loNibble (s.memRead s.hl)) s.f
      q := logicKeepCarry (hiNibble s.a ++ loNibble (s.memRead s.hl)) s.f
      memptr := s.hl + 1, pc := s.pc + 1 } := rfl

/-! ### Control transfer and the stack -/

theorem jumpTo_eq (nn : Word) (s : State) : jumpTo nn s = .next { s with memptr := nn, q := 0, pc := nn } := rfl

theorem jumpIf_eq (cc : Cond) (nn : Word) (s : State) :
    jumpIf cc nn s = .next { s with
      memptr := nn, q := 0, pc := if condHolds cc s.f then nn else s.pc + 3 } := by
  simp only [jumpIf, State.setMemptr, goto_eq, done_eq]
  split <;> rfl

theorem jumpRelative_eq (e : Byte) (s : State) :
    jumpRelative e s = .next { s with memptr := s.relTarget e, q := 0, pc := s.relTarget e } := rfl

theorem jumpRelativeIf_eq (cc : JrCond) (e : Byte) (s : State) :
    jumpRelativeIf cc e s =
      if condHolds (jrCondition cc) s.f then
        .next { s with memptr := s.relTarget e, q := 0, pc := s.relTarget e }
      else .next { s with q := 0, pc := s.pc + 2 } := rfl

theorem decrementJump_eq (e : Byte) (s : State) :
    decrementJump e s =
      if s.b - 1 ≠ 0 then
        .next { s with b := s.b - 1, memptr := s.relTarget e, q := 0, pc := s.relTarget e }
      else .next { s with b := s.b - 1, q := 0, pc := s.pc + 2 } := rfl

theorem jumpHl_eq (s : State) : jumpHl s = .next { s with q := 0, pc := s.hl } := rfl

theorem jumpXy_eq (xy : Xy) (s : State) : jumpXy xy s = .next { s with q := 0, pc := s.xy xy } := rfl

/-- A push changes SP and memory alone; `u` keeps both. -/
theorem push16_of {s u : State} (v : Word) (hm : u.mem = s.mem) (hs : u.sp = s.sp) :
    u.push16 v = { u with mem := (s.push16 v).mem, sp := s.sp - 2 } := by
  have h : s.sp - 1 - 1 = s.sp - 2 := by bv_omega
  simp only [State.push16, State.memWrite, hm, hs, h]

theorem callTo_eq (nn : Word) (s : State) :
    callTo nn s = .next { s with
      mem := (s.push16 (s.pc + 3)).mem, sp := s.sp - 2, memptr := nn, q := 0, pc := nn } := by
  rw [callTo, push16_of (s := s) (u := s.setMemptr nn) _ rfl rfl]; rfl

theorem callIf_eq (cc : Cond) (nn : Word) (s : State) :
    callIf cc nn s =
      if condHolds cc s.f then
        .next { s with
          mem := (s.push16 (s.pc + 3)).mem, sp := s.sp - 2, memptr := nn, q := 0, pc := nn }
      else .next { s with memptr := nn, q := 0, pc := s.pc + 3 } := by
  rw [callIf, push16_of (s := s) (u := s.setMemptr nn) _ rfl rfl]; rfl

theorem restart_eq (p : Rst) (s : State) :
    restart p s = .next { s with
      mem := (s.push16 (s.pc + 1)).mem, sp := s.sp - 2, memptr := rstTarget p, q := 0
      pc := rstTarget p } := by
  rw [restart, push16_eq]; rfl

theorem returnAlways_eq (s : State) :
    returnAlways s = .next { s with
      sp := s.sp + 2, memptr := s.popValue, q := 0, pc := s.popValue } := rfl

theorem returnIf_eq (cc : Cond) (s : State) :
    returnIf cc s =
      if condHolds cc s.f then
        .next { s with sp := s.sp + 2, memptr := s.popValue, q := 0, pc := s.popValue }
      else .next { s with q := 0, pc := s.pc + 1 } := rfl

theorem returnFromHandler_eq (y : BitNo) (s : State) :
    returnFromHandler y s = .next { s with
      sp := s.sp + 2, memptr := s.popValue, iff1 := s.iff2, q := 0, pc := s.popValue } := rfl

theorem pushPair_eq (qq : Pair2) (s : State) :
    pushPair qq s = .next { s with
      mem := (s.push16 (s.pair2 qq)).mem, sp := s.sp - 2, q := 0, pc := s.pc + 1 } := by
  rw [pushPair, push16_eq]; rfl

theorem pushXyReg_eq (xy : Xy) (s : State) :
    pushXyReg xy s = .next { s with
      mem := (s.push16 (s.xy xy)).mem, sp := s.sp - 2, q := 0, pc := s.pc + 1 } := by
  rw [pushXyReg, push16_eq]; rfl

theorem popPair_eq (qq : Pair2) (s : State) :
    popPair qq s = .next { s.setPair2 qq s.popValue with sp := s.sp + 2, q := 0, pc := s.pc + 1 } := by
  cases qq <;> rfl

theorem popXyReg_eq (xy : Xy) (s : State) :
    popXyReg xy s = .next { s.setXy xy s.popValue with sp := s.sp + 2, q := 0, pc := s.pc + 1 } := by
  cases xy <;> rfl

/-! ### Ports -/

theorem inAPort_eq (n : Byte) (s : State) :
    inAPort n s = .next { s with
      a := s.portValue (mkWord s.a n), memptr := mkWord s.a n + 1, q := 0, pc := s.pc + 2
      portInputs := s.portInputs.tail
      portHist := .read (mkWord s.a n) (s.portValue (mkWord s.a n)) :: s.portHist } := rfl

theorem inRegC_eq (r : R8) (s : State) :
    inRegC r s = .next { s.setR8 r (s.portValue s.bc) with
      f := logicKeepCarry (s.portValue s.bc) s.f, q := logicKeepCarry (s.portValue s.bc) s.f
      memptr := s.bc + 1, pc := s.pc + 1
      portInputs := s.portInputs.tail, portHist := .read s.bc (s.portValue s.bc) :: s.portHist } := by
  cases r <;> rfl

theorem inFlagsC_eq (s : State) :
    inFlagsC s = .next { s with
      f := logicKeepCarry (s.portValue s.bc) s.f, q := logicKeepCarry (s.portValue s.bc) s.f
      memptr := s.bc + 1, pc := s.pc + 1
      portInputs := s.portInputs.tail, portHist := .read s.bc (s.portValue s.bc) :: s.portHist } := rfl

theorem hookedMem_of_nil {s : State} (h : s.portHooks = []) : s.hookedMem = s.mem := by
  simp only [State.hookedMem, h, List.headD_nil, Memory.expose]

theorem outPortA_eq (n : Byte) (s : State) :
    outPortA n s = .next { s.portWrite (mkWord s.a n) s.a with
      memptr := mkWord s.a (n + 1), q := 0, pc := s.pc + 2 } := rfl

theorem outC_eq (v : Byte) (s : State) :
    outC v s = .next { s.portWrite s.bc v with memptr := s.bc + 1, q := 0, pc := s.pc + 1 } := rfl

theorem blockInMove_eq (dir : Dir) (s : State) :
    blockInMove dir s = { s with
      mem := (s.memWrite s.hl (s.portValue s.bc)).mem
      h := hiByte (s.hl + dirStep dir), l := loByte (s.hl + dirStep dir), b := s.b - 1
      memptr := s.bc + dirStep dir
      portInputs := s.portInputs.tail, portHist := .read s.bc (s.portValue s.bc) :: s.portHist } := by
  simp only [blockInMove, State.afterPortRead, State.memWrite, State.setHl, State.setMemptr]

theorem blockInOnce_eq (dir : Dir) (s : State) :
    blockInOnce dir s =
      .next { blockInMove dir s with f := blockInF dir s, q := blockInF dir s, pc := s.pc + 1 } := by
  simp only [blockInOnce, doneFlags_eq, blockInMove_eq]

theorem blockInRepeat_eq (dir : Dir) (s : State) :
    blockInRepeat dir s = .next { blockInMove dir s with
      f := blockInF dir s, q := blockInF dir s
      pc := if s.b - 1 ≠ 0 then s.pc - 1 else s.pc + 1 } := by
  simp only [blockInRepeat, blockInOnce_eq, gotoFlags_eq]
  split <;> rfl

theorem blockOutMove_eq (dir : Dir) (s : State) :
    blockOutMove dir s = { s.portWrite (outBc s) (s.memRead s.hl) with
      h := hiByte (s.hl + dirStep dir), l := loByte (s.hl + dirStep dir), b := s.b - 1
      memptr := outBc s + dirStep dir } := by
  simp only [blockOutMove, State.portWrite, State.hookedMem, State.setHl, State.setMemptr]

theorem blockOutOnce_eq (dir : Dir) (s : State) :
    blockOutOnce dir s =
      .next { blockOutMove dir s with f := blockOutF dir s, q := blockOutF dir s, pc := s.pc + 1 } := by
  simp only [blockOutOnce, doneFlags_eq, blockOutMove_eq, portWrite_pc]

theorem blockOutRepeat_eq (dir : Dir) (s : State) :
    blockOutRepeat dir s = .next { blockOutMove dir s with
      f := blockOutF dir s, q := blockOutF dir s
      pc := if s.b - 1 ≠ 0 then s.pc - 1 else s.pc + 1 } := by
  simp only [blockOutRepeat, blockOutOnce_eq, gotoFlags_eq]
  split <;> rfl

/-! ### Control latches -/

theorem noOperation_eq (s : State) : noOperation s = .next { s with q := 0, pc := s.pc + 1 } := rfl

theorem haltCore_eq (s : State) : haltCore s = .next { s with halted := true, q := 0, pc := s.pc + 1 } := rfl

theorem disableInterrupts_eq (s : State) :
    disableInterrupts s = .next { s with iff1 := false, iff2 := false, q := 0, pc := s.pc + 1 } := rfl

theorem enableInterrupts_eq (s : State) :
    enableInterrupts s = .next { s with
      iff1 := true, iff2 := true, skipInt := true, q := 0, pc := s.pc + 1 } := rfl

theorem interruptMode_eq (y : BitNo) (s : State) :
    interruptMode y s = .next { s with im := imMode y, q := 0, pc := s.pc + 1 } := rfl

theorem setCarry_eq (s : State) :
    setCarry s = .next { s with
      f := scfFlags s.q s.f s.a, q := scfFlags s.q s.f s.a, pc := s.pc + 1 } := rfl

theorem complementCarry_eq (s : State) :
    complementCarry s = .next { s with
      f := ccfFlags s.q s.f s.a, q := ccfFlags s.q s.f s.a, pc := s.pc + 1 } := rfl

end Sys2Proof.Machine
end

