-- ==== Sys2Proof/Laws/Controller.lean ====
section
/-! SUPPORT. What the interrupt controller and the engine step can do: one equation per acceptance and one
per outcome of a step. -/

namespace Sys2Proof.Machine

/-! ### Taking an interrupt -/

/-- The transfer of a vectored entry: memory, SP, PC and MEMPTR change, nothing else. -/
theorem enterHandler_eq (s : State) (target : State → Word) :
    s.enterHandler target = { s with
      mem := (s.push16 s.pc).mem, sp := s.sp - 2
      pc := target (s.push16 s.pc), memptr := target (s.push16 s.pc) } := by
  simp only [State.enterHandler]
  rw [push16_eq]

theorem push16_mem_of {s u : State} (v : Word) (hm : u.mem = s.mem) (hs : u.sp = s.sp) :
    (u.push16 v).mem = (s.push16 v).mem := by
  simp only [State.push16, State.memWrite, hm, hs]

theorem memRead2_of_mem {s t : State} (h : t.mem = s.mem) (a : Word) : t.memRead2 a = s.memRead2 a := by
  simp only [State.memRead2, memRead_of_mem h]

theorem acceptNmi_eq (s : State) :
    s.acceptNmi = { s with
      mem := (s.push16 s.pc).mem, sp := s.sp - 2, pc := 0x0066, memptr := 0x0066
      iff2 := s.iff1, iff1 := false, halted := false, nmiPending := false, q := 0 } := by
  simp only [State.acceptNmi, enterHandler_eq]
  rw [push16_of (s := s) (u := { s with halted := false }) _ rfl rfl]

/-- The target of a maskable interrupt, found in memory `m` (the memory after the push); none where
control is not transferred. -/
def intTarget (s : State) (m : State) : Option Word :=
  match s.im with
  | .im0 =>
    if s.intData &&& 0xC7 = 0xC7 then some (mkWord 0x00 (s.intData &&& 0x38))
    else if s.intData = 0xCD then some (m.memRead2 s.pc)
    else none
  | .im1 => some 0x0038
  | .im2 => some (m.memRead2 (mkWord s.i s.intData))

theorem acceptInt_eq (s : State) :
    s.acceptInt = match intTarget s (s.push16 s.pc) with
      | some a => { s with
        mem := (s.push16 s.pc).mem, sp := s.sp - 2, pc := a, memptr := a
        iff1 := false, iff2 := false, halted := false, intPending := false, q := 0 }
      | none => { s with iff1 := false, iff2 := false, halted := false, intPending := false, q := 0 } := by
  have hm : (({ s with halted := false, iff1 := false, iff2 := false } : State).push16 s.pc).mem =
      (s.push16 s.pc).mem := push16_mem_of s.pc rfl rfl
  have hr : ∀ a, (({ s with halted := false, iff1 := false, iff2 := false } : State).push16 s.pc).memRead2 a =
      (s.push16 s.pc).memRead2 a := memRead2_of_mem hm
  simp only [State.acceptInt, State.enterByMode, intTarget, enterHandler_eq, hm, hr]
  cases s.im with
  | im0 =>
    dsimp only
    split
    · rfl
    · split <;> rfl
  | im1 => rfl
  | im2 => rfl

/-! ### The controller -/

theorem interruptController_skip {s : State} (h : s.skipInt = true) : s.interruptController = s := by
  simp only [State.interruptController, h, if_true]

theorem interruptController_nmi {s : State} (h : s.skipInt = false) (hn : s.nmiPending = true) :
    s.interruptController = s.acceptNmi := by
  simp only [State.interruptController, h, hn]; rfl

theorem interruptController_int {s : State} (h : s.skipInt = false) (hn : s.nmiPending = false)
    (hi : s.intPending = true) (hf : s.iff1 = true) : s.interruptController = s.acceptInt := by
  simp only [State.interruptController, h, hn, hi, hf]; rfl

theorem interruptController_idle {s : State} (hn : s.nmiPending = false)
    (hi : s.intPending = false ∨ s.iff1 = false) : s.interruptController = s := by
  simp only [State.interruptController, hn]
  rcases hi with hi | hi <;> simp [hi]

/-- Everything a controller pass can do. -/
theorem interruptController_cases (s : State) :
    s.interruptController = s ∨
    (s.skipInt = false ∧ s.nmiPending = true ∧ s.interruptController = s.acceptNmi) ∨
    (s.skipInt = false ∧ s.nmiPending = false ∧ s.intPending = true ∧ s.iff1 = true ∧
      s.interruptController = s.acceptInt) := by
  cases hs : s.skipInt with
  | true => exact .inl (interruptController_skip hs)
  | false =>
    cases hn : s.nmiPending with
    | true => exact .inr (.inl ⟨rfl, rfl, interruptController_nmi hs hn⟩)
    | false =>
      cases hi : s.intPending with
      | false => exact .inl (interruptController_idle hn (.inl hi))
      | true =>
        cases hf : s.iff1 with
        | false => exact .inl (interruptController_idle hn (.inr hf))
        | true => exact .inr (.inr ⟨rfl, rfl, rfl, rfl, interruptController_int hs hn hi hf⟩)

/-! ### The step -/

theorem stepWith_faulted (undoc : Bool) {s : State} {idx : Nat} (h : s.fault = some idx) :
    stepWith undoc s = .fault (.unimplementedOpcode idx) := by
  simp only [stepWith, h]

theorem stepWith_halted (undoc : Bool) {s : State} (hf : s.fault = none) (hh : s.halted = true) :
    stepWith undoc s = .next s.haltedStep := by
  simp only [stepWith, hf, hh, if_true]

theorem stepWith_absent (undoc : Bool) {s : State} {idx : Nat} (hf : s.fault = none)
    (hh : s.halted = false) (hd : s.fetch undoc = .absent idx) :
    stepWith undoc s = .next (s.raiseUnimplemented idx) := by
  simp only [stepWith, hf, hh, hd]; rfl

theorem stepWith_running (undoc : Bool) {s : State} {i : Instr} (hf : s.fault = none)
    (hh : s.halted = false) (hd : s.fetch undoc = .ok i) : stepWith undoc s = runInstruction i s := by
  simp only [stepWith, hf, hh, hd]; rfl

/-- Everything a step can answer. -/
theorem stepWith_cases (undoc : Bool) (s : State) :
    (∃ idx, s.fault = some idx ∧ stepWith undoc s = .fault (.unimplementedOpcode idx)) ∨
    (s.fault = none ∧ s.halted = true ∧ stepWith undoc s = .next s.haltedStep) ∨
    (∃ idx, s.fault = none ∧ s.halted = false ∧ s.fetch undoc = .absent idx ∧
      stepWith undoc s = .next (s.raiseUnimplemented idx)) ∨
    (∃ i, s.fault = none ∧ s.halted = false ∧ s.fetch undoc = .ok i ∧
      stepWith undoc s = runInstruction i s) := by
  cases hf : s.fault with
  | some idx => exact .inl ⟨idx, rfl, stepWith_faulted undoc hf⟩
  | none =>
    cases hh : s.halted with
    | true => exact .inr (.inl ⟨rfl, rfl, stepWith_halted undoc hf hh⟩)
    | false =>
      cases hd : s.fetch undoc with
      | absent idx => exact .inr (.inr (.inl ⟨idx, rfl, rfl, rfl, stepWith_absent undoc hf hh hd⟩))
      | ok i => exact .inr (.inr (.inr ⟨i, rfl, rfl, rfl, stepWith_running undoc hf hh hd⟩))

end Sys2Proof.Machine
end

