-- ==== Sys2Proof/Laws/Forms.lean ====
section
/-! SUPPORT. The instructions by form: every instruction is the instruction of its form, and `exec` on a
family is the family's shared operation. A statement about all instructions is proved by
`forall_instr` and a case split over the forms. -/

namespace Sys2Proof

open Machine

/-- The form of a form's instruction is the form. -/
theorem instr_form (i : Instr) : i.form.instr = i := by
  cases i <;> rfl

/-- What holds of every form's instruction holds of every instruction. -/
theorem forall_instr {P : Instr → Prop} (h : ∀ f : Form, P f.instr) (i : Instr) : P i := by
  rw [← instr_form i]; exact h i.form

/-- `exec` by form. -/
theorem exec_form (i : Instr) (s : State) : exec i s = i.form.exec s := by
  have h := congrFun (agrees i.form).exec s
  rwa [instr_form] at h

theorem category_form (i : Instr) : i.desc.category = i.form.category := by
  have h := (agrees i.form).category
  rwa [instr_form] at h

theorem always_form (i : Instr) : i.desc.always = i.form.always := by
  have h := (agrees i.form).always
  rwa [instr_form] at h

theorem exec_eq_ldRR (dst : R8) (src : R8) (t : State) :
    exec (.ldRR dst src) t = loadRegReg dst src t :=
  congrFun (agrees (.ldRR dst src)).exec t
theorem exec_eq_ldRN (r : R8) (n : Byte) (t : State) :
    exec (.ldRN r n) t = loadRegImm r n t :=
  congrFun (agrees (.ldRN r n)).exec t
theorem exec_eq_ldRHl (r : R8) (t : State) :
    exec (.ldRHl r) t = loadRegHl r t :=
  congrFun (agrees (.ldRHl r)).exec t
theorem exec_eq_ldRXy (r : R8) (xy : Xy) (d : Byte) (t : State) :
    exec (.ldRXy r xy d) t = loadRegIdx r xy d t :=
  congrFun (agrees (.ldRXy r xy d)).exec t
theorem exec_eq_ldHlR (r : R8) (t : State) :
    exec (.ldHlR r) t = storeHlReg r t :=
  congrFun (agrees (.ldHlR r)).exec t
theorem exec_eq_ldXyR (xy : Xy) (d : Byte) (r : R8) (t : State) :
    exec (.ldXyR xy d r) t = storeIdxReg xy d r t :=
  congrFun (agrees (.ldXyR xy d r)).exec t
theorem exec_eq_ldXyN (xy : Xy) (d : Byte) (n : Byte) (t : State) :
    exec (.ldXyN xy d n) t = storeIdxImm xy d n t :=
  congrFun (agrees (.ldXyN xy d n)).exec t
theorem exec_eq_ldPlainHalf (r : Plain) (xy : Xy) (h : Half) (t : State) :
    exec (.ldPlainHalf r xy h) t = loadPlainHalf r xy h t :=
  congrFun (agrees (.ldPlainHalf r xy h)).exec t
theorem exec_eq_ldHalfPlain (xy : Xy) (h : Half) (r : Plain) (t : State) :
    exec (.ldHalfPlain xy h r) t = loadHalfPlain xy h r t :=
  congrFun (agrees (.ldHalfPlain xy h r)).exec t
theorem exec_eq_ldHalfHalf (xy : Xy) (h : Half) (k : Half) (t : State) :
    exec (.ldHalfHalf xy h k) t = loadHalfHalf xy h k t :=
  congrFun (agrees (.ldHalfHalf xy h k)).exec t
theorem exec_eq_ldHalfN (xy : Xy) (h : Half) (n : Byte) (t : State) :
    exec (.ldHalfN xy h n) t = loadHalfImm xy h n t :=
  congrFun (agrees (.ldHalfN xy h n)).exec t
theorem exec_eq_ldPairNn (p : Pair) (nn : Word) (t : State) :
    exec (.ldPairNn p nn) t = loadPairImm p nn t :=
  congrFun (agrees (.ldPairNn p nn)).exec t
theorem exec_eq_ldXyNn (xy : Xy) (nn : Word) (t : State) :
    exec (.ldXyNn xy nn) t = loadXyImm xy nn t :=
  congrFun (agrees (.ldXyNn xy nn)).exec t
theorem exec_eq_ldPairMnn (p : Pair) (nn : Word) (t : State) :
    exec (.ldPairMnn p nn) t = loadPairDirect p nn t :=
  congrFun (agrees (.ldPairMnn p nn)).exec t
theorem exec_eq_ldXyMnn (xy : Xy) (nn : Word) (t : State) :
    exec (.ldXyMnn xy nn) t = loadXyDirect xy nn t :=
  congrFun (agrees (.ldXyMnn xy nn)).exec t
theorem exec_eq_ldMnnPair (nn : Word) (p : Pair) (t : State) :
    exec (.ldMnnPair nn p) t = storePairDirect nn p t :=
  congrFun (agrees (.ldMnnPair nn p)).exec t
theorem exec_eq_ldMnnXy (nn : Word) (xy : Xy) (t : State) :
    exec (.ldMnnXy nn xy) t = storeXyDirect nn xy t :=
  congrFun (agrees (.ldMnnXy nn xy)).exec t
theorem exec_eq_ldSpXy (xy : Xy) (t : State) :
    exec (.ldSpXy xy) t = loadSpXy xy t :=
  congrFun (agrees (.ldSpXy xy)).exec t
theorem exec_eq_exSpXy (xy : Xy) (t : State) :
    exec (.exSpXy xy) t = exchangeStackXy xy t :=
  congrFun (agrees (.exSpXy xy)).exec t
theorem exec_eq_alu (op : AluOp) (src : Src8) (t : State) :
    exec (.alu op src) t = aluAccumulator op src t :=
  congrFun (agrees (.alu op src)).exec t
theorem exec_eq_inc8 (dst : Dst8) (t : State) :
    exec (.inc8 dst) t = increment8 dst t :=
  congrFun (agrees (.inc8 dst)).exec t
theorem exec_eq_dec8 (dst : Dst8) (t : State) :
    exec (.dec8 dst) t = decrement8 dst t :=
  congrFun (agrees (.dec8 dst)).exec t
theorem exec_eq_addHl (p : Pair) (t : State) :
    exec (.addHl p) t = addHlPair p t :=
  congrFun (agrees (.addHl p)).exec t
theorem exec_eq_addXy (xy : Xy) (p : AddPair) (t : State) :
    exec (.addXy xy p) t = addXyPair xy p t :=
  congrFun (agrees (.addXy xy p)).exec t
theorem exec_eq_adcHl (p : Pair) (t : State) :
    exec (.adcHl p) t = adcHlPair p t :=
  congrFun (agrees (.adcHl p)).exec t
theorem exec_eq_sbcHl (p : Pair) (t : State) :
    exec (.sbcHl p) t = sbcHlPair p t :=
  congrFun (agrees (.sbcHl p)).exec t
theorem exec_eq_incPair (p : Pair) (t : State) :
    exec (.incPair p) t = incrementPair p t :=
  congrFun (agrees (.incPair p)).exec t
theorem exec_eq_decPair (p : Pair) (t : State) :
    exec (.decPair p) t = decrementPair p t :=
  congrFun (agrees (.decPair p)).exec t
theorem exec_eq_incXy (xy : Xy) (t : State) :
    exec (.incXy xy) t = incrementXy xy t :=
  congrFun (agrees (.incXy xy)).exec t
theorem exec_eq_decXy (xy : Xy) (t : State) :
    exec (.decXy xy) t = decrementXy xy t :=
  congrFun (agrees (.decXy xy)).exec t
theorem exec_eq_negRow (y : BitNo) (t : State) :
    exec (.negRow y) t = negate y t :=
  congrFun (agrees (.negRow y)).exec t
theorem exec_eq_rot (op : RotOp) (m : M8) (t : State) :
    exec (.rot op m) t = rotateShift op m t :=
  congrFun (agrees (.rot op m)).exec t
theorem exec_eq_bit (b : BitNo) (m : M8) (t : State) :
    exec (.bit b m) t = bitTest b m t :=
  congrFun (agrees (.bit b m)).exec t
theorem exec_eq_res (b : BitNo) (m : M8) (t : State) :
    exec (.res b m) t = bitReset b m t :=
  congrFun (agrees (.res b m)).exec t
theorem exec_eq_set (b : BitNo) (m : M8) (t : State) :
    exec (.set b m) t = bitSet b m t :=
  congrFun (agrees (.set b m)).exec t
theorem exec_eq_ldStep (dir : Dir) (t : State) :
    exec (.ldStep dir) t = blockLoadOnce dir t :=
  congrFun (agrees (.ldStep dir)).exec t
theorem exec_eq_ldRep (dir : Dir) (t : State) :
    exec (.ldRep dir) t = blockLoadRepeat dir t :=
  congrFun (agrees (.ldRep dir)).exec t
theorem exec_eq_cpStep (dir : Dir) (t : State) :
    exec (.cpStep dir) t = blockCompareOnce dir t :=
  congrFun (agrees (.cpStep dir)).exec t
theorem exec_eq_cpRep (dir : Dir) (t : State) :
    exec (.cpRep dir) t = blockCompareRepeat dir t :=
  congrFun (agrees (.cpRep dir)).exec t
theorem exec_eq_inStep (dir : Dir) (t : State) :
    exec (.inStep dir) t = blockInOnce dir t :=
  congrFun (agrees (.inStep dir)).exec t
theorem exec_eq_inRep (dir : Dir) (t : State) :
    exec (.inRep dir) t = blockInRepeat dir t :=
  congrFun (agrees (.inRep dir)).exec t
theorem exec_eq_outStep (dir : Dir) (t : State) :
    exec (.outStep dir) t = blockOutOnce dir t :=
  congrFun (agrees (.outStep dir)).exec t
theorem exec_eq_outRep (dir : Dir) (t : State) :
    exec (.outRep dir) t = blockOutRepeat dir t :=
  congrFun (agrees (.outRep dir)).exec t
theorem exec_eq_jpCc (cc : Cond) (nn : Word) (t : State) :
    exec (.jpCc cc nn) t = jumpIf cc nn t :=
  congrFun (agrees (.jpCc cc nn)).exec t
theorem exec_eq_jrCc (cc : JrCond) (e : Byte) (t : State) :
    exec (.jrCc cc e) t = jumpRelativeIf cc e t :=
  congrFun (agrees (.jrCc cc e)).exec t
theorem exec_eq_jpXy (xy : Xy) (t : State) :
    exec (.jpXy xy) t = jumpXy xy t :=
  congrFun (agrees (.jpXy xy)).exec t
theorem exec_eq_callCc (cc : Cond) (nn : Word) (t : State) :
    exec (.callCc cc nn) t = callIf cc nn t :=
  congrFun (agrees (.callCc cc nn)).exec t
theorem exec_eq_retCc (cc : Cond) (t : State) :
    exec (.retCc cc) t = returnIf cc t :=
  congrFun (agrees (.retCc cc)).exec t
theorem exec_eq_retRow (y : BitNo) (t : State) :
    exec (.retRow y) t = returnFromHandler y t :=
  congrFun (agrees (.retRow y)).exec t
theorem exec_eq_rst (p : Rst) (t : State) :
    exec (.rst p) t = restart p t :=
  congrFun (agrees (.rst p)).exec t
theorem exec_eq_push (q : Pair2) (t : State) :
    exec (.push q) t = pushPair q t :=
  congrFun (agrees (.push q)).exec t
theorem exec_eq_pop (q : Pair2) (t : State) :
    exec (.pop q) t = popPair q t :=
  congrFun (agrees (.pop q)).exec t
theorem exec_eq_pushXy (xy : Xy) (t : State) :
    exec (.pushXy xy) t = pushXyReg xy t :=
  congrFun (agrees (.pushXy xy)).exec t
theorem exec_eq_popXy (xy : Xy) (t : State) :
    exec (.popXy xy) t = popXyReg xy t :=
  congrFun (agrees (.popXy xy)).exec t
theorem exec_eq_inR (r : R8) (t : State) :
    exec (.inR r) t = inRegC r t :=
  congrFun (agrees (.inR r)).exec t
theorem exec_eq_outR (r : R8) (t : State) :
    exec (.outR r) t = outCReg r t :=
  congrFun (agrees (.outR r)).exec t
theorem exec_eq_imRow (y : BitNo) (t : State) :
    exec (.imRow y) t = interruptMode y t :=
  congrFun (agrees (.imRow y)).exec t
theorem exec_eq_prefixOf (p : Pfx) (t : State) :
    exec (.prefixOf p) t = latchPrefix p t :=
  congrFun (agrees (.prefixOf p)).exec t

theorem exec_eq_nop (t : State) : exec (.nop) t = noOperation t := rfl
theorem exec_eq_ld_mbc_a (t : State) : exec (.ld_mbc_a) t = storeABc t := rfl
theorem exec_eq_rlca (t : State) : exec (.rlca) t = rotateALeft t := rfl
theorem exec_eq_ex_af_afAlt (t : State) : exec (.ex_af_afAlt) t = exchangeAf t := rfl
theorem exec_eq_ld_a_mbc (t : State) : exec (.ld_a_mbc) t = loadABc t := rfl
theorem exec_eq_rrca (t : State) : exec (.rrca) t = rotateARight t := rfl
theorem exec_eq_djnz_e (e : Byte) (t : State) : exec (.djnz_e e) t = decrementJump e t := rfl
theorem exec_eq_ld_mde_a (t : State) : exec (.ld_mde_a) t = storeADe t := rfl
theorem exec_eq_rla (t : State) : exec (.rla) t = rotateALeftCarry t := rfl
theorem exec_eq_jr_e (e : Byte) (t : State) : exec (.jr_e e) t = jumpRelative e t := rfl
theorem exec_eq_ld_a_mde (t : State) : exec (.ld_a_mde) t = loadADe t := rfl
theorem exec_eq_rra (t : State) : exec (.rra) t = rotateARightCarry t := rfl
theorem exec_eq_ld_mnn_hl (nn : Word) (t : State) : exec (.ld_mnn_hl nn) t = storeHlDirect nn t := rfl
theorem exec_eq_daa (t : State) : exec (.daa) t = decimalAdjust t := rfl
theorem exec_eq_ld_hl_mnn (nn : Word) (t : State) : exec (.ld_hl_mnn nn) t = loadHlDirect nn t := rfl
theorem exec_eq_cpl (t : State) : exec (.cpl) t = complementA t := rfl
theorem exec_eq_ld_mnn_a (nn : Word) (t : State) : exec (.ld_mnn_a nn) t = storeADirect nn t := rfl
theorem exec_eq_ld_mhl_n (n : Byte) (t : State) : exec (.ld_mhl_n n) t = storeHlImm n t := rfl
theorem exec_eq_scf (t : State) : exec (.scf) t = setCarry t := rfl
theorem exec_eq_ld_a_mnn (nn : Word) (t : State) : exec (.ld_a_mnn nn) t = loadADirect nn t := rfl
theorem exec_eq_ccf (t : State) : exec (.ccf) t = complementCarry t := rfl
theorem exec_eq_halt (t : State) : exec (.halt) t = haltCore t := rfl
theorem exec_eq_jp_nn (nn : Word) (t : State) : exec (.jp_nn nn) t = jumpTo nn t := rfl
theorem exec_eq_ret (t : State) : exec (.ret) t = returnAlways t := rfl
theorem exec_eq_call_nn (nn : Word) (t : State) : exec (.call_nn nn) t = callTo nn t := rfl
theorem exec_eq_out_portN_a (n : Byte) (t : State) : exec (.out_portN_a n) t = outPortA n t := rfl
theorem exec_eq_exx (t : State) : exec (.exx) t = exchangeBanks t := rfl
theorem exec_eq_in_a_portN (n : Byte) (t : State) : exec (.in_a_portN n) t = inAPort n t := rfl
theorem exec_eq_ex_msp_hl (t : State) : exec (.ex_msp_hl) t = exchangeStackHl t := rfl
theorem exec_eq_jp_hl (t : State) : exec (.jp_hl) t = jumpHl t := rfl
theorem exec_eq_ex_de_hl (t : State) : exec (.ex_de_hl) t = exchangeDeHl t := rfl
theorem exec_eq_di (t : State) : exec (.di) t = disableInterrupts t := rfl
theorem exec_eq_ld_sp_hl (t : State) : exec (.ld_sp_hl) t = loadSpHl t := rfl
theorem exec_eq_ei (t : State) : exec (.ei) t = enableInterrupts t := rfl
theorem exec_eq_ld_i_a (t : State) : exec (.ld_i_a) t = loadIA t := rfl
theorem exec_eq_ld_r_a (t : State) : exec (.ld_r_a) t = loadRA t := rfl
theorem exec_eq_ld_a_i (t : State) : exec (.ld_a_i) t = loadAI t := rfl
theorem exec_eq_ld_a_r (t : State) : exec (.ld_a_r) t = loadAR t := rfl
theorem exec_eq_rrd (t : State) : exec (.rrd) t = rotateDigitRight t := rfl
theorem exec_eq_rld (t : State) : exec (.rld) t = rotateDigitLeft t := rfl
theorem exec_eq_in_portC (t : State) : exec (.in_portC) t = inFlagsC t := rfl
theorem exec_eq_out_portC_0 (t : State) : exec (.out_portC_0) t = outCZero t := rfl

end Sys2Proof
end

