-- ==== Sys2Proof/Laws/PerInstr.lean ====
section
/-! SUPPORT. Statements for every instruction, one lemma a constructor. `EncodedLength`: an encoding has as
many bytes as the instruction's last step consumes (spec/30_encoding.md R113), and the prefix byte of
an entry whose index is above 0xFF (R111). -/

namespace Sys2Proof.Laws.EncodedLength

def Statement (i : Instr) : Prop :=
  (encode i).length = i.desc.stepLen + (if 0xFF < i.desc.index then 1 else 0)

theorem nop : Statement (.nop) := rfl
theorem ld_bc_nn (nn : Word) : Statement (.ld_bc_nn nn) := rfl
theorem ld_mbc_a : Statement (.ld_mbc_a) := rfl
theorem inc_bc : Statement (.inc_bc) := rfl
theorem inc_b : Statement (.inc_b) := rfl
theorem dec_b : Statement (.dec_b) := rfl
theorem ld_b_n (n : Byte) : Statement (.ld_b_n n) := rfl
theorem rlca : Statement (.rlca) := rfl
theorem ex_af_afAlt : Statement (.ex_af_afAlt) := rfl
theorem add_hl_bc : Statement (.add_hl_bc) := rfl
theorem ld_a_mbc : Statement (.ld_a_mbc) := rfl
theorem dec_bc : Statement (.dec_bc) := rfl
theorem inc_c : Statement (.inc_c) := rfl
theorem dec_c : Statement (.dec_c) := rfl
theorem ld_c_n (n : Byte) : Statement (.ld_c_n n) := rfl
theorem rrca : Statement (.rrca) := rfl
theorem djnz_e (e : Byte) : Statement (.djnz_e e) := rfl
theorem ld_de_nn (nn : Word) : Statement (.ld_de_nn nn) := rfl
theorem ld_mde_a : Statement (.ld_mde_a) := rfl
theorem inc_de : Statement (.inc_de) := rfl
theorem inc_d : Statement (.inc_d) := rfl
theorem dec_d : Statement (.dec_d) := rfl
theorem ld_d_n (n : Byte) : Statement (.ld_d_n n) := rfl
theorem rla : Statement (.rla) := rfl
theorem jr_e (e : Byte) : Statement (.jr_e e) := rfl
theorem add_hl_de : Statement (.add_hl_de) := rfl
theorem ld_a_mde : Statement (.ld_a_mde) := rfl
theorem dec_de : Statement (.dec_de) := rfl
theorem inc_e : Statement (.inc_e) := rfl
theorem dec_e : Statement (.dec_e) := rfl
theorem ld_e_n (n : Byte) : Statement (.ld_e_n n) := rfl
theorem rra : Statement (.rra) := rfl
theorem jr_nz_e (e : Byte) : Statement (.jr_nz_e e) := rfl
theorem ld_hl_nn (nn : Word) : Statement (.ld_hl_nn nn) := rfl
theorem ld_mnn_hl (nn : Word) : Statement (.ld_mnn_hl nn) := rfl
theorem inc_hl : Statement (.inc_hl) := rfl
theorem inc_h : Statement (.inc_h) := rfl
theorem dec_h : Statement (.dec_h) := rfl
theorem ld_h_n (n : Byte) : Statement (.ld_h_n n) := rfl
theorem daa : Statement (.daa) := rfl
theorem jr_z_e (e : Byte) : Statement (.jr_z_e e) := rfl
theorem add_hl_hl : Statement (.add_hl_hl) := rfl
theorem ld_hl_mnn (nn : Word) : Statement (.ld_hl_mnn nn) := rfl
theorem dec_hl : Statement (.dec_hl) := rfl
theorem inc_l : Statement (.inc_l) := rfl
theorem dec_l : Statement (.dec_l) := rfl
theorem ld_l_n (n : Byte) : Statement (.ld_l_n n) := rfl
theorem cpl : Statement (.cpl) := rfl
theorem jr_nc_e (e : Byte) : Statement (.jr_nc_e e) := rfl
theorem ld_sp_nn (nn : Word) : Statement (.ld_sp_nn nn) := rfl
theorem ld_mnn_a (nn : Word) : Statement (.ld_mnn_a nn) := rfl
theorem inc_sp : Statement (.inc_sp) := rfl
theorem inc_mhl : Statement (.inc_mhl) := rfl
theorem dec_mhl : Statement (.dec_mhl) := rfl
theorem ld_mhl_n (n : Byte) : Statement (.ld_mhl_n n) := rfl
theorem scf : Statement (.scf) := rfl
theorem jr_c_e (e : Byte) : Statement (.jr_c_e e) := rfl
theorem add_hl_sp : Statement (.add_hl_sp) := rfl
theorem ld_a_mnn (nn : Word) : Statement (.ld_a_mnn nn) := rfl
theorem dec_sp : Statement (.dec_sp) := rfl
theorem inc_a : Statement (.inc_a) := rfl
theorem dec_a : Statement (.dec_a) := rfl
theorem ld_a_n (n : Byte) : Statement (.ld_a_n n) := rfl
theorem ccf : Statement (.ccf) := rfl
theorem ld_b_b : Statement (.ld_b_b) := rfl
theorem ld_b_c : Statement (.ld_b_c) := rfl
theorem ld_b_d : Statement (.ld_b_d) := rfl
theorem ld_b_e : Statement (.ld_b_e) := rfl
theorem ld_b_h : Statement (.ld_b_h) := rfl
theorem ld_b_l : Statement (.ld_b_l) := rfl
theorem ld_b_mhl : Statement (.ld_b_mhl) := rfl
theorem ld_b_a : Statement (.ld_b_a) := rfl
theorem ld_c_b : Statement (.ld_c_b) := rfl
theorem ld_c_c : Statement (.ld_c_c) := rfl
theorem ld_c_d : Statement (.ld_c_d) := rfl
theorem ld_c_e : Statement (.ld_c_e) := rfl
theorem ld_c_h : Statement (.ld_c_h) := rfl
theorem ld_c_l : Statement (.ld_c_l) := rfl
theorem ld_c_mhl : Statement (.ld_c_mhl) := rfl
theorem ld_c_a : Statement (.ld_c_a) := rfl
theorem ld_d_b : Statement (.ld_d_b) := rfl
theorem ld_d_c : Statement (.ld_d_c) := rfl
theorem ld_d_d : Statement (.ld_d_d) := rfl
theorem ld_d_e : Statement (.ld_d_e) := rfl
theorem ld_d_h : Statement (.ld_d_h) := rfl
theorem ld_d_l : Statement (.ld_d_l) := rfl
theorem ld_d_mhl : Statement (.ld_d_mhl) := rfl
theorem ld_d_a : Statement (.ld_d_a) := rfl
theorem ld_e_b : Statement (.ld_e_b) := rfl
theorem ld_e_c : Statement (.ld_e_c) := rfl
theorem ld_e_d : Statement (.ld_e_d) := rfl
theorem ld_e_e : Statement (.ld_e_e) := rfl
theorem ld_e_h : Statement (.ld_e_h) := rfl
theorem ld_e_l : Statement (.ld_e_l) := rfl
theorem ld_e_mhl : Statement (.ld_e_mhl) := rfl
theorem ld_e_a : Statement (.ld_e_a) := rfl
theorem ld_h_b : Statement (.ld_h_b) := rfl
theorem ld_h_c : Statement (.ld_h_c) := rfl
theorem ld_h_d : Statement (.ld_h_d) := rfl
theorem ld_h_e : Statement (.ld_h_e) := rfl
theorem ld_h_h : Statement (.ld_h_h) := rfl
theorem ld_h_l : Statement (.ld_h_l) := rfl
theorem ld_h_mhl : Statement (.ld_h_mhl) := rfl
theorem ld_h_a : Statement (.ld_h_a) := rfl
theorem ld_l_b : Statement (.ld_l_b) := rfl
theorem ld_l_c : Statement (.ld_l_c) := rfl
theorem ld_l_d : Statement (.ld_l_d) := rfl
theorem ld_l_e : Statement (.ld_l_e) := rfl
theorem ld_l_h : Statement (.ld_l_h) := rfl
theorem ld_l_l : Statement (.ld_l_l) := rfl
theorem ld_l_mhl : Statement (.ld_l_mhl) := rfl
theorem ld_l_a : Statement (.ld_l_a) := rfl
theorem ld_mhl_b : Statement (.ld_mhl_b) := rfl
theorem ld_mhl_c : Statement (.ld_mhl_c) := rfl
theorem ld_mhl_d : Statement (.ld_mhl_d) := rfl
theorem ld_mhl_e : Statement (.ld_mhl_e) := rfl
theorem ld_mhl_h : Statement (.ld_mhl_h) := rfl
theorem ld_mhl_l : Statement (.ld_mhl_l) := rfl
theorem halt : Statement (.halt) := rfl
theorem ld_mhl_a : Statement (.ld_mhl_a) := rfl
theorem ld_a_b : Statement (.ld_a_b) := rfl
theorem ld_a_c : Statement (.ld_a_c) := rfl
theorem ld_a_d : Statement (.ld_a_d) := rfl
theorem ld_a_e : Statement (.ld_a_e) := rfl
theorem ld_a_h : Statement (.ld_a_h) := rfl
theorem ld_a_l : Statement (.ld_a_l) := rfl
theorem ld_a_mhl : Statement (.ld_a_mhl) := rfl
theorem ld_a_a : Statement (.ld_a_a) := rfl
theorem add_a_b : Statement (.add_a_b) := rfl
theorem add_a_c : Statement (.add_a_c) := rfl
theorem add_a_d : Statement (.add_a_d) := rfl
theorem add_a_e : Statement (.add_a_e) := rfl
theorem add_a_h : Statement (.add_a_h) := rfl
theorem add_a_l : Statement (.add_a_l) := rfl
theorem add_a_mhl : Statement (.add_a_mhl) := rfl
theorem add_a_a : Statement (.add_a_a) := rfl
theorem adc_a_b : Statement (.adc_a_b) := rfl
theorem adc_a_c : Statement (.adc_a_c) := rfl
theorem adc_a_d : Statement (.adc_a_d) := rfl
theorem adc_a_e : Statement (.adc_a_e) := rfl
theorem adc_a_h : Statement (.adc_a_h) := rfl
theorem adc_a_l : Statement (.adc_a_l) := rfl
theorem adc_a_mhl : Statement (.adc_a_mhl) := rfl
theorem adc_a_a : Statement (.adc_a_a) := rfl
theorem sub_b : Statement (.sub_b) := rfl
theorem sub_c : Statement (.sub_c) := rfl
theorem sub_d : Statement (.sub_d) := rfl
theorem sub_e : Statement (.sub_e) := rfl
theorem sub_h : Statement (.sub_h) := rfl
theorem sub_l : Statement (.sub_l) := rfl
theorem sub_mhl : Statement (.sub_mhl) := rfl
theorem sub_a : Statement (.sub_a) := rfl
theorem sbc_a_b : Statement (.sbc_a_b) := rfl
theorem sbc_a_c : Statement (.sbc_a_c) := rfl
theorem sbc_a_d : Statement (.sbc_a_d) := rfl
theorem sbc_a_e : Statement (.sbc_a_e) := rfl
theorem sbc_a_h : Statement (.sbc_a_h) := rfl
theorem sbc_a_l : Statement (.sbc_a_l) := rfl
theorem sbc_a_mhl : Statement (.sbc_a_mhl) := rfl
theorem sbc_a_a : Statement (.sbc_a_a) := rfl
theorem and_b : Statement (.and_b) := rfl
theorem and_c : Statement (.and_c) := rfl
theorem and_d : Statement (.and_d) := rfl
theorem and_e : Statement (.and_e) := rfl
theorem and_h : Statement (.and_h) := rfl
theorem and_l : Statement (.and_l) := rfl
theorem and_mhl : Statement (.and_mhl) := rfl
theorem and_a : Statement (.and_a) := rfl
theorem xor_b : Statement (.xor_b) := rfl
theorem xor_c : Statement (.xor_c) := rfl
theorem xor_d : Statement (.xor_d) := rfl
theorem xor_e : Statement (.xor_e) := rfl
theorem xor_h : Statement (.xor_h) := rfl
theorem xor_l : Statement (.xor_l) := rfl
theorem xor_mhl : Statement (.xor_mhl) := rfl
theorem xor_a : Statement (.xor_a) := rfl
theorem or_b : Statement (.or_b) := rfl
theorem or_c : Statement (.or_c) := rfl
theorem or_d : Statement (.or_d) := rfl
theorem or_e : Statement (.or_e) := rfl
theorem or_h : Statement (.or_h) := rfl
theorem or_l : Statement (.or_l) := rfl
theorem or_mhl : Statement (.or_mhl) := rfl
theorem or_a : Statement (.or_a) := rfl
theorem cp_b : Statement (.cp_b) := rfl
theorem cp_c : Statement (.cp_c) := rfl
theorem cp_d : Statement (.cp_d) := rfl
theorem cp_e : Statement (.cp_e) := rfl
theorem cp_h : Statement (.cp_h) := rfl
theorem cp_l : Statement (.cp_l) := rfl
theorem cp_mhl : Statement (.cp_mhl) := rfl
theorem cp_a : Statement (.cp_a) := rfl
theorem ret_nz : Statement (.ret_nz) := rfl
theorem pop_bc : Statement (.pop_bc) := rfl
theorem jp_nz_nn (nn : Word) : Statement (.jp_nz_nn nn) := rfl
theorem jp_nn (nn : Word) : Statement (.jp_nn nn) := rfl
theorem call_nz_nn (nn : Word) : Statement (.call_nz_nn nn) := rfl
theorem push_bc : Statement (.push_bc) := rfl
theorem add_a_n (n : Byte) : Statement (.add_a_n n) := rfl
theorem rst_00 : Statement (.rst_00) := rfl
theorem ret_z : Statement (.ret_z) := rfl
theorem ret : Statement (.ret) := rfl
theorem jp_z_nn (nn : Word) : Statement (.jp_z_nn nn) := rfl
theorem prefix_cb : Statement (.prefix_cb) := rfl
theorem call_z_nn (nn : Word) : Statement (.call_z_nn nn) := rfl
theorem call_nn (nn : Word) : Statement (.call_nn nn) := rfl
theorem adc_a_n (n : Byte) : Statement (.adc_a_n n) := rfl
theorem rst_08 : Statement (.rst_08) := rfl
theorem ret_nc : Statement (.ret_nc) := rfl
theorem pop_de : Statement (.pop_de) := rfl
theorem jp_nc_nn (nn : Word) : Statement (.jp_nc_nn nn) := rfl
theorem out_portN_a (n : Byte) : Statement (.out_portN_a n) := rfl
theorem call_nc_nn (nn : Word) : Statement (.call_nc_nn nn) := rfl
theorem push_de : Statement (.push_de) := rfl
theorem sub_n (n : Byte) : Statement (.sub_n n) := rfl
theorem rst_10 : Statement (.rst_10) := rfl
theorem ret_c : Statement (.ret_c) := rfl
theorem exx : Statement (.exx) := rfl
theorem jp_c_nn (nn : Word) : Statement (.jp_c_nn nn) := rfl
theorem in_a_portN (n : Byte) : Statement (.in_a_portN n) := rfl
theorem call_c_nn (nn : Word) : Statement (.call_c_nn nn) := rfl
theorem prefix_dd : Statement (.prefix_dd) := rfl
theorem sbc_a_n (n : Byte) : Statement (.sbc_a_n n) := rfl
theorem rst_18 : Statement (.rst_18) := rfl
theorem ret_po : Statement (.ret_po) := rfl
theorem pop_hl : Statement (.pop_hl) := rfl
theorem jp_po_nn (nn : Word) : Statement (.jp_po_nn nn) := rfl
theorem ex_msp_hl : Statement (.ex_msp_hl) := rfl
theorem call_po_nn (nn : Word) : Statement (.call_po_nn nn) := rfl
theorem push_hl : Statement (.push_hl) := rfl
theorem and_n (n : Byte) : Statement (.and_n n) := rfl
theorem rst_20 : Statement (.rst_20) := rfl
theorem ret_pe : Statement (.ret_pe) := rfl
theorem jp_hl : Statement (.jp_hl) := rfl
theorem jp_pe_nn (nn : Word) : Statement (.jp_pe_nn nn) := rfl
theorem ex_de_hl : Statement (.ex_de_hl) := rfl
theorem call_pe_nn (nn : Word) : Statement (.call_pe_nn nn) := rfl
theorem prefix_ed : Statement (.prefix_ed) := rfl
theorem xor_n (n : Byte) : Statement (.xor_n n) := rfl
theorem rst_28 : Statement (.rst_28) := rfl
theorem ret_p : Statement (.ret_p) := rfl
theorem pop_af : Statement (.pop_af) := rfl
theorem jp_p_nn (nn : Word) : Statement (.jp_p_nn nn) := rfl
theorem di : Statement (.di) := rfl
theorem call_p_nn (nn : Word) : Statement (.call_p_nn nn) := rfl
theorem push_af : Statement (.push_af) := rfl
theorem or_n (n : Byte) : Statement (.or_n n) := rfl
theorem rst_30 : Statement (.rst_30) := rfl
theorem ret_m : Statement (.ret_m) := rfl
theorem ld_sp_hl : Statement (.ld_sp_hl) := rfl
theorem jp_m_nn (nn : Word) : Statement (.jp_m_nn nn) := rfl
theorem ei : Statement (.ei) := rfl
theorem call_m_nn (nn : Word) : Statement (.call_m_nn nn) := rfl
theorem prefix_fd : Statement (.prefix_fd) := rfl
theorem cp_n (n : Byte) : Statement (.cp_n n) := rfl
theorem rst_38 : Statement (.rst_38) := rfl
theorem rlc_b : Statement (.rlc_b) := rfl
theorem rlc_c : Statement (.rlc_c) := rfl
theorem rlc_d : Statement (.rlc_d) := rfl
theorem rlc_e : Statement (.rlc_e) := rfl
theorem rlc_h : Statement (.rlc_h) := rfl
theorem rlc_l : Statement (.rlc_l) := rfl
theorem rlc_mhl : Statement (.rlc_mhl) := rfl
theorem rlc_a : Statement (.rlc_a) := rfl
theorem rrc_b : Statement (.rrc_b) := rfl
theorem rrc_c : Statement (.rrc_c) := rfl
theorem rrc_d : Statement (.rrc_d) := rfl
theorem rrc_e : Statement (.rrc_e) := rfl
theorem rrc_h : Statement (.rrc_h) := rfl
theorem rrc_l : Statement (.rrc_l) := rfl
theorem rrc_mhl : Statement (.rrc_mhl) := rfl
theorem rrc_a : Statement (.rrc_a) := rfl
theorem rl_b : Statement (.rl_b) := rfl
theorem rl_c : Statement (.rl_c) := rfl
theorem rl_d : Statement (.rl_d) := rfl
theorem rl_e : Statement (.rl_e) := rfl
theorem rl_h : Statement (.rl_h) := rfl
theorem rl_l : Statement (.rl_l) := rfl
theorem rl_mhl : Statement (.rl_mhl) := rfl
theorem rl_a : Statement (.rl_a) := rfl
theorem rr_b : Statement (.rr_b) := rfl
theorem rr_c : Statement (.rr_c) := rfl
theorem rr_d : Statement (.rr_d) := rfl
theorem rr_e : Statement (.rr_e) := rfl
theorem rr_h : Statement (.rr_h) := rfl
theorem rr_l : Statement (.rr_l) := rfl
theorem rr_mhl : Statement (.rr_mhl) := rfl
theorem rr_a : Statement (.rr_a) := rfl
theorem sla_b : Statement (.sla_b) := rfl
theorem sla_c : Statement (.sla_c) := rfl
theorem sla_d : Statement (.sla_d) := rfl
theorem sla_e : Statement (.sla_e) := rfl
theorem sla_h : Statement (.sla_h) := rfl
theorem sla_l : Statement (.sla_l) := rfl
theorem sla_mhl : Statement (.sla_mhl) := rfl
theorem sla_a : Statement (.sla_a) := rfl
theorem sra_b : Statement (.sra_b) := rfl
theorem sra_c : Statement (.sra_c) := rfl
theorem sra_d : Statement (.sra_d) := rfl
theorem sra_e : Statement (.sra_e) := rfl
theorem sra_h : Statement (.sra_h) := rfl
theorem sra_l : Statement (.sra_l) := rfl
theorem sra_mhl : Statement (.sra_mhl) := rfl
theorem sra_a : Statement (.sra_a) := rfl
theorem sll_b : Statement (.sll_b) := rfl
theorem sll_c : Statement (.sll_c) := rfl
theorem sll_d : Statement (.sll_d) := rfl
theorem sll_e : Statement (.sll_e) := rfl
theorem sll_h : Statement (.sll_h) := rfl
theorem sll_l : Statement (.sll_l) := rfl
theorem sll_mhl : Statement (.sll_mhl) := rfl
theorem sll_a : Statement (.sll_a) := rfl
theorem srl_b : Statement (.srl_b) := rfl
theorem srl_c : Statement (.srl_c) := rfl
theorem srl_d : Statement (.srl_d) := rfl
theorem srl_e : Statement (.srl_e) := rfl
theorem srl_h : Statement (.srl_h) := rfl
theorem srl_l : Statement (.srl_l) := rfl
theorem srl_mhl : Statement (.srl_mhl) := rfl
theorem srl_a : Statement (.srl_a) := rfl
theorem bit_0_b : Statement (.bit_0_b) := rfl
theorem bit_0_c : Statement (.bit_0_c) := rfl
theorem bit_0_d : Statement (.bit_0_d) := rfl
theorem bit_0_e : Statement (.bit_0_e) := rfl
theorem bit_0_h : Statement (.bit_0_h) := rfl
theorem bit_0_l : Statement (.bit_0_l) := rfl
theorem bit_0_mhl : Statement (.bit_0_mhl) := rfl
theorem bit_0_a : Statement (.bit_0_a) := rfl
theorem bit_1_b : Statement (.bit_1_b) := rfl
theorem bit_1_c : Statement (.bit_1_c) := rfl
theorem bit_1_d : Statement (.bit_1_d) := rfl
theorem bit_1_e : Statement (.bit_1_e) := rfl
theorem bit_1_h : Statement (.bit_1_h) := rfl
theorem bit_1_l : Statement (.bit_1_l) := rfl
theorem bit_1_mhl : Statement (.bit_1_mhl) := rfl
theorem bit_1_a : Statement (.bit_1_a) := rfl
theorem bit_2_b : Statement (.bit_2_b) := rfl
theorem bit_2_c : Statement (.bit_2_c) := rfl
theorem bit_2_d : Statement (.bit_2_d) := rfl
theorem bit_2_e : Statement (.bit_2_e) := rfl
theorem bit_2_h : Statement (.bit_2_h) := rfl
theorem bit_2_l : Statement (.bit_2_l) := rfl
theorem bit_2_mhl : Statement (.bit_2_mhl) := rfl
theorem bit_2_a : Statement (.bit_2_a) := rfl
theorem bit_3_b : Statement (.bit_3_b) := rfl
theorem bit_3_c : Statement (.bit_3_c) := rfl
theorem bit_3_d : Statement (.bit_3_d) := rfl
theorem bit_3_e : Statement (.bit_3_e) := rfl
theorem bit_3_h : Statement (.bit_3_h) := rfl
theorem bit_3_l : Statement (.bit_3_l) := rfl
theorem bit_3_mhl : Statement (.bit_3_mhl) := rfl
theorem bit_3_a : Statement (.bit_3_a) := rfl
theorem bit_4_b : Statement (.bit_4_b) := rfl
theorem bit_4_c : Statement (.bit_4_c) := rfl
theorem bit_4_d : Statement (.bit_4_d) := rfl
theorem bit_4_e : Statement (.bit_4_e) := rfl
theorem bit_4_h : Statement (.bit_4_h) := rfl
theorem bit_4_l : Statement (.bit_4_l) := rfl
theorem bit_4_mhl : Statement (.bit_4_mhl) := rfl
theorem bit_4_a : Statement (.bit_4_a) := rfl
theorem bit_5_b : Statement (.bit_5_b) := rfl
theorem bit_5_c : Statement (.bit_5_c) := rfl
theorem bit_5_d : Statement (.bit_5_d) := rfl
theorem bit_5_e : Statement (.bit_5_e) := rfl
theorem bit_5_h : Statement (.bit_5_h) := rfl
theorem bit_5_l : Statement (.bit_5_l) := rfl
theorem bit_5_mhl : Statement (.bit_5_mhl) := rfl
theorem bit_5_a : Statement (.bit_5_a) := rfl
theorem bit_6_b : Statement (.bit_6_b) := rfl
theorem bit_6_c : Statement (.bit_6_c) := rfl
theorem bit_6_d : Statement (.bit_6_d) := rfl
theorem bit_6_e : Statement (.bit_6_e) := rfl
theorem bit_6_h : Statement (.bit_6_h) := rfl
theorem bit_6_l : Statement (.bit_6_l) := rfl
theorem bit_6_mhl : Statement (.bit_6_mhl) := rfl
theorem bit_6_a : Statement (.bit_6_a) := rfl
theorem bit_7_b : Statement (.bit_7_b) := rfl
theorem bit_7_c : Statement (.bit_7_c) := rfl
theorem bit_7_d : Statement (.bit_7_d) := rfl
theorem bit_7_e : Statement (.bit_7_e) := rfl
theorem bit_7_h : Statement (.bit_7_h) := rfl
theorem bit_7_l : Statement (.bit_7_l) := rfl
theorem bit_7_mhl : Statement (.bit_7_mhl) := rfl
theorem bit_7_a : Statement (.bit_7_a) := rfl
theorem res_0_b : Statement (.res_0_b) := rfl
theorem res_0_c : Statement (.res_0_c) := rfl
theorem res_0_d : Statement (.res_0_d) := rfl
theorem res_0_e : Statement (.res_0_e) := rfl
theorem res_0_h : Statement (.res_0_h) := rfl
theorem res_0_l : Statement (.res_0_l) := rfl
theorem res_0_mhl : Statement (.res_0_mhl) := rfl
theorem res_0_a : Statement (.res_0_a) := rfl
theorem res_1_b : Statement (.res_1_b) := rfl
theorem res_1_c : Statement (.res_1_c) := rfl
theorem res_1_d : Statement (.res_1_d) := rfl
theorem res_1_e : Statement (.res_1_e) := rfl
theorem res_1_h : Statement (.res_1_h) := rfl
theorem res_1_l : Statement (.res_1_l) := rfl
theorem res_1_mhl : Statement (.res_1_mhl) := rfl
theorem res_1_a : Statement (.res_1_a) := rfl
theorem res_2_b : Statement (.res_2_b) := rfl
theorem res_2_c : Statement (.res_2_c) := rfl
theorem res_2_d : Statement (.res_2_d) := rfl
theorem res_2_e : Statement (.res_2_e) := rfl
theorem res_2_h : Statement (.res_2_h) := rfl
theorem res_2_l : Statement (.res_2_l) := rfl
theorem res_2_mhl : Statement (.res_2_mhl) := rfl
theorem res_2_a : Statement (.res_2_a) := rfl
theorem res_3_b : Statement (.res_3_b) := rfl
theorem res_3_c : Statement (.res_3_c) := rfl
theorem res_3_d : Statement (.res_3_d) := rfl
theorem res_3_e : Statement (.res_3_e) := rfl
theorem res_3_h : Statement (.res_3_h) := rfl
theorem res_3_l : Statement (.res_3_l) := rfl
theorem res_3_mhl : Statement (.res_3_mhl) := rfl
theorem res_3_a : Statement (.res_3_a) := rfl
theorem res_4_b : Statement (.res_4_b) := rfl
theorem res_4_c : Statement (.res_4_c) := rfl
theorem res_4_d : Statement (.res_4_d) := rfl
theorem res_4_e : Statement (.res_4_e) := rfl
theorem res_4_h : Statement (.res_4_h) := rfl
theorem res_4_l : Statement (.res_4_l) := rfl
theorem res_4_mhl : Statement (.res_4_mhl) := rfl
theorem res_4_a : Statement (.res_4_a) := rfl
theorem res_5_b : Statement (.res_5_b) := rfl
theorem res_5_c : Statement (.res_5_c) := rfl
theorem res_5_d : Statement (.res_5_d) := rfl
theorem res_5_e : Statement (.res_5_e) := rfl
theorem res_5_h : Statement (.res_5_h) := rfl
theorem res_5_l : Statement (.res_5_l) := rfl
theorem res_5_mhl : Statement (.res_5_mhl) := rfl
theorem res_5_a : Statement (.res_5_a) := rfl
theorem res_6_b : Statement (.res_6_b) := rfl
theorem res_6_c : Statement (.res_6_c) := rfl
theorem res_6_d : Statement (.res_6_d) := rfl
theorem res_6_e : Statement (.res_6_e) := rfl
theorem res_6_h : Statement (.res_6_h) := rfl
theorem res_6_l : Statement (.res_6_l) := rfl
theorem res_6_mhl : Statement (.res_6_mhl) := rfl
theorem res_6_a : Statement (.res_6_a) := rfl
theorem res_7_b : Statement (.res_7_b) := rfl
theorem res_7_c : Statement (.res_7_c) := rfl
theorem res_7_d : Statement (.res_7_d) := rfl
theorem res_7_e : Statement (.res_7_e) := rfl
theorem res_7_h : Statement (.res_7_h) := rfl
theorem res_7_l : Statement (.res_7_l) := rfl
theorem res_7_mhl : Statement (.res_7_mhl) := rfl
theorem res_7_a : Statement (.res_7_a) := rfl
theorem set_0_b : Statement (.set_0_b) := rfl
theorem set_0_c : Statement (.set_0_c) := rfl
theorem set_0_d : Statement (.set_0_d) := rfl
theorem set_0_e : Statement (.set_0_e) := rfl
theorem set_0_h : Statement (.set_0_h) := rfl
theorem set_0_l : Statement (.set_0_l) := rfl
theorem set_0_mhl : Statement (.set_0_mhl) := rfl
theorem set_0_a : Statement (.set_0_a) := rfl
theorem set_1_b : Statement (.set_1_b) := rfl
theorem set_1_c : Statement (.set_1_c) := rfl
theorem set_1_d : Statement (.set_1_d) := rfl
theorem set_1_e : Statement (.set_1_e) := rfl
theorem set_1_h : Statement (.set_1_h) := rfl
theorem set_1_l : Statement (.set_1_l) := rfl
theorem set_1_mhl : Statement (.set_1_mhl) := rfl
theorem set_1_a : Statement (.set_1_a) := rfl
theorem set_2_b : Statement (.set_2_b) := rfl
theorem set_2_c : Statement (.set_2_c) := rfl
theorem set_2_d : Statement (.set_2_d) := rfl
theorem set_2_e : Statement (.set_2_e) := rfl
theorem set_2_h : Statement (.set_2_h) := rfl
theorem set_2_l : Statement (.set_2_l) := rfl
theorem set_2_mhl : Statement (.set_2_mhl) := rfl
theorem set_2_a : Statement (.set_2_a) := rfl
theorem set_3_b : Statement (.set_3_b) := rfl
theorem set_3_c : Statement (.set_3_c) := rfl
theorem set_3_d : Statement (.set_3_d) := rfl
theorem set_3_e : Statement (.set_3_e) := rfl
theorem set_3_h : Statement (.set_3_h) := rfl
theorem set_3_l : Statement (.set_3_l) := rfl
theorem set_3_mhl : Statement (.set_3_mhl) := rfl
theorem set_3_a : Statement (.set_3_a) := rfl
theorem set_4_b : Statement (.set_4_b) := rfl
theorem set_4_c : Statement (.set_4_c) := rfl
theorem set_4_d : Statement (.set_4_d) := rfl
theorem set_4_e : Statement (.set_4_e) := rfl
theorem set_4_h : Statement (.set_4_h) := rfl
theorem set_4_l : Statement (.set_4_l) := rfl
theorem set_4_mhl : Statement (.set_4_mhl) := rfl
theorem set_4_a : Statement (.set_4_a) := rfl
theorem set_5_b : Statement (.set_5_b) := rfl
theorem set_5_c : Statement (.set_5_c) := rfl
theorem set_5_d : Statement (.set_5_d) := rfl
theorem set_5_e : Statement (.set_5_e) := rfl
theorem set_5_h : Statement (.set_5_h) := rfl
theorem set_5_l : Statement (.set_5_l) := rfl
theorem set_5_mhl : Statement (.set_5_mhl) := rfl
theorem set_5_a : Statement (.set_5_a) := rfl
theorem set_6_b : Statement (.set_6_b) := rfl
theorem set_6_c : Statement (.set_6_c) := rfl
theorem set_6_d : Statement (.set_6_d) := rfl
theorem set_6_e : Statement (.set_6_e) := rfl
theorem set_6_h : Statement (.set_6_h) := rfl
theorem set_6_l : Statement (.set_6_l) := rfl
theorem set_6_mhl : Statement (.set_6_mhl) := rfl
theorem set_6_a : Statement (.set_6_a) := rfl
theorem set_7_b : Statement (.set_7_b) := rfl
theorem set_7_c : Statement (.set_7_c) := rfl
theorem set_7_d : Statement (.set_7_d) := rfl
theorem set_7_e : Statement (.set_7_e) := rfl
theorem set_7_h : Statement (.set_7_h) := rfl
theorem set_7_l : Statement (.set_7_l) := rfl
theorem set_7_mhl : Statement (.set_7_mhl) := rfl
theorem set_7_a : Statement (.set_7_a) := rfl
theorem in_b_portC : Statement (.in_b_portC) := rfl
theorem out_portC_b : Statement (.out_portC_b) := rfl
theorem sbc_hl_bc : Statement (.sbc_hl_bc) := rfl
theorem ld_mnn_bc (nn : Word) : Statement (.ld_mnn_bc nn) := rfl
theorem neg : Statement (.neg) := rfl
theorem retn : Statement (.retn) := rfl
theorem im_0 : Statement (.im_0) := rfl
theorem ld_i_a : Statement (.ld_i_a) := rfl
theorem in_c_portC : Statement (.in_c_portC) := rfl
theorem out_portC_c : Statement (.out_portC_c) := rfl
theorem adc_hl_bc : Statement (.adc_hl_bc) := rfl
theorem ld_bc_mnn (nn : Word) : Statement (.ld_bc_mnn nn) := rfl
theorem neg_ED4C : Statement (.neg_ED4C) := rfl
theorem reti : Statement (.reti) := rfl
theorem im_0_ED4E : Statement (.im_0_ED4E) := rfl
theorem ld_r_a : Statement (.ld_r_a) := rfl
theorem in_d_portC : Statement (.in_d_portC) := rfl
theorem out_portC_d : Statement (.out_portC_d) := rfl
theorem sbc_hl_de : Statement (.sbc_hl_de) := rfl
theorem ld_mnn_de (nn : Word) : Statement (.ld_mnn_de nn) := rfl
theorem neg_ED54 : Statement (.neg_ED54) := rfl
theorem retn_ED55 : Statement (.retn_ED55) := rfl
theorem im_1 : Statement (.im_1) := rfl
theorem ld_a_i : Statement (.ld_a_i) := rfl
theorem in_e_portC : Statement (.in_e_portC) := rfl
theorem out_portC_e : Statement (.out_portC_e) := rfl
theorem adc_hl_de : Statement (.adc_hl_de) := rfl
theorem ld_de_mnn (nn : Word) : Statement (.ld_de_mnn nn) := rfl
theorem neg_ED5C : Statement (.neg_ED5C) := rfl
theorem retn_ED5D : Statement (.retn_ED5D) := rfl
theorem im_2 : Statement (.im_2) := rfl
theorem ld_a_r : Statement (.ld_a_r) := rfl
theorem in_h_portC : Statement (.in_h_portC) := rfl
theorem out_portC_h : Statement (.out_portC_h) := rfl
theorem sbc_hl_hl : Statement (.sbc_hl_hl) := rfl
theorem ld_mnn_hl_ED63 (nn : Word) : Statement (.ld_mnn_hl_ED63 nn) := rfl
theorem neg_ED64 : Statement (.neg_ED64) := rfl
theorem retn_ED65 : Statement (.retn_ED65) := rfl
theorem im_0_ED66 : Statement (.im_0_ED66) := rfl
theorem rrd : Statement (.rrd) := rfl
theorem in_l_portC : Statement (.in_l_portC) := rfl
theorem out_portC_l : Statement (.out_portC_l) := rfl
theorem adc_hl_hl : Statement (.adc_hl_hl) := rfl
theorem ld_hl_mnn_ED6B (nn : Word) : Statement (.ld_hl_mnn_ED6B nn) := rfl
theorem neg_ED6C : Statement (.neg_ED6C) := rfl
theorem retn_ED6D : Statement (.retn_ED6D) := rfl
theorem im_0_ED6E : Statement (.im_0_ED6E) := rfl
theorem rld : Statement (.rld) := rfl
theorem in_portC : Statement (.in_portC) := rfl
theorem out_portC_0 : Statement (.out_portC_0) := rfl
theorem sbc_hl_sp : Statement (.sbc_hl_sp) := rfl
theorem ld_mnn_sp (nn : Word) : Statement (.ld_mnn_sp nn) := rfl
theorem neg_ED74 : Statement (.neg_ED74) := rfl
theorem retn_ED75 : Statement (.retn_ED75) := rfl
theorem im_1_ED76 : Statement (.im_1_ED76) := rfl
theorem in_a_portC : Statement (.in_a_portC) := rfl
theorem out_portC_a : Statement (.out_portC_a) := rfl
theorem adc_hl_sp : Statement (.adc_hl_sp) := rfl
theorem ld_sp_mnn (nn : Word) : Statement (.ld_sp_mnn nn) := rfl
theorem neg_ED7C : Statement (.neg_ED7C) := rfl
theorem retn_ED7D : Statement (.retn_ED7D) := rfl
theorem im_2_ED7E : Statement (.im_2_ED7E) := rfl
theorem ldi : Statement (.ldi) := rfl
theorem cpi : Statement (.cpi) := rfl
theorem ini : Statement (.ini) := rfl
theorem outi : Statement (.outi) := rfl
theorem ldd : Statement (.ldd) := rfl
theorem cpd : Statement (.cpd) := rfl
theorem ind : Statement (.ind) := rfl
theorem outd : Statement (.outd) := rfl
theorem ldir : Statement (.ldir) := rfl
theorem cpir : Statement (.cpir) := rfl
theorem inir : Statement (.inir) := rfl
theorem otir : Statement (.otir) := rfl
theorem lddr : Statement (.lddr) := rfl
theorem cpdr : Statement (.cpdr) := rfl
theorem indr : Statement (.indr) := rfl
theorem otdr : Statement (.otdr) := rfl
theorem add_ix_bc : Statement (.add_ix_bc) := rfl
theorem add_ix_de : Statement (.add_ix_de) := rfl
theorem ld_ix_nn (nn : Word) : Statement (.ld_ix_nn nn) := rfl
theorem ld_mnn_ix (nn : Word) : Statement (.ld_mnn_ix nn) := rfl
theorem inc_ix : Statement (.inc_ix) := rfl
theorem inc_ixh : Statement (.inc_ixh) := rfl
theorem dec_ixh : Statement (.dec_ixh) := rfl
theorem ld_ixh_n (n : Byte) : Statement (.ld_ixh_n n) := rfl
theorem add_ix_ix : Statement (.add_ix_ix) := rfl
theorem ld_ix_mnn (nn : Word) : Statement (.ld_ix_mnn nn) := rfl
theorem dec_ix : Statement (.dec_ix) := rfl
theorem inc_ixl : Statement (.inc_ixl) := rfl
theorem dec_ixl : Statement (.dec_ixl) := rfl
theorem ld_ixl_n (n : Byte) : Statement (.ld_ixl_n n) := rfl
theorem inc_ixd (d : Byte) : Statement (.inc_ixd d) := rfl
theorem dec_ixd (d : Byte) : Statement (.dec_ixd d) := rfl
theorem ld_ixd_n (d : Byte) (n : Byte) : Statement (.ld_ixd_n d n) := rfl
theorem add_ix_sp : Statement (.add_ix_sp) := rfl
theorem ld_b_ixh : Statement (.ld_b_ixh) := rfl
theorem ld_b_ixl : Statement (.ld_b_ixl) := rfl
theorem ld_b_ixd (d : Byte) : Statement (.ld_b_ixd d) := rfl
theorem ld_c_ixh : Statement (.ld_c_ixh) := rfl
theorem ld_c_ixl : Statement (.ld_c_ixl) := rfl
theorem ld_c_ixd (d : Byte) : Statement (.ld_c_ixd d) := rfl
theorem ld_d_ixh : Statement (.ld_d_ixh) := rfl
theorem ld_d_ixl : Statement (.ld_d_ixl) := rfl
theorem ld_d_ixd (d : Byte) : Statement (.ld_d_ixd d) := rfl
theorem ld_e_ixh : Statement (.ld_e_ixh) := rfl
theorem ld_e_ixl : Statement (.ld_e_ixl) := rfl
theorem ld_e_ixd (d : Byte) : Statement (.ld_e_ixd d) := rfl
theorem ld_ixh_b : Statement (.ld_ixh_b) := rfl
theorem ld_ixh_c : Statement (.ld_ixh_c) := rfl
theorem ld_ixh_d : Statement (.ld_ixh_d) := rfl
theorem ld_ixh_e : Statement (.ld_ixh_e) := rfl
theorem ld_ixh_ixh : Statement (.ld_ixh_ixh) := rfl
theorem ld_ixh_ixl : Statement (.ld_ixh_ixl) := rfl
theorem ld_h_ixd (d : Byte) : Statement (.ld_h_ixd d) := rfl
theorem ld_ixh_a : Statement (.ld_ixh_a) := rfl
theorem ld_ixl_b : Statement (.ld_ixl_b) := rfl
theorem ld_ixl_c : Statement (.ld_ixl_c) := rfl
theorem ld_ixl_d : Statement (.ld_ixl_d) := rfl
theorem ld_ixl_e : Statement (.ld_ixl_e) := rfl
theorem ld_ixl_ixh : Statement (.ld_ixl_ixh) := rfl
theorem ld_ixl_ixl : Statement (.ld_ixl_ixl) := rfl
theorem ld_l_ixd (d : Byte) : Statement (.ld_l_ixd d) := rfl
theorem ld_ixl_a : Statement (.ld_ixl_a) := rfl
theorem ld_ixd_b (d : Byte) : Statement (.ld_ixd_b d) := rfl
theorem ld_ixd_c (d : Byte) : Statement (.ld_ixd_c d) := rfl
theorem ld_ixd_d (d : Byte) : Statement (.ld_ixd_d d) := rfl
theorem ld_ixd_e (d : Byte) : Statement (.ld_ixd_e d) := rfl
theorem ld_ixd_h (d : Byte) : Statement (.ld_ixd_h d) := rfl
theorem ld_ixd_l (d : Byte) : Statement (.ld_ixd_l d) := rfl
theorem ld_ixd_a (d : Byte) : Statement (.ld_ixd_a d) := rfl
theorem ld_a_ixh : Statement (.ld_a_ixh) := rfl
theorem ld_a_ixl : Statement (.ld_a_ixl) := rfl
theorem ld_a_ixd (d : Byte) : Statement (.ld_a_ixd d) := rfl
theorem add_a_ixh : Statement (.add_a_ixh) := rfl
theorem add_a_ixl : Statement (.add_a_ixl) := rfl
theorem add_a_ixd (d : Byte) : Statement (.add_a_ixd d) := rfl
theorem adc_a_ixh : Statement (.adc_a_ixh) := rfl
theorem adc_a_ixl : Statement (.adc_a_ixl) := rfl
theorem adc_a_ixd (d : Byte) : Statement (.adc_a_ixd d) := rfl
theorem sub_ixh : Statement (.sub_ixh) := rfl
theorem sub_ixl : Statement (.sub_ixl) := rfl
theorem sub_ixd (d : Byte) : Statement (.sub_ixd d) := rfl
theorem sbc_a_ixh : Statement (.sbc_a_ixh) := rfl
theorem sbc_a_ixl : Statement (.sbc_a_ixl) := rfl
theorem sbc_a_ixd (d : Byte) : Statement (.sbc_a_ixd d) := rfl
theorem and_ixh : Statement (.and_ixh) := rfl
theorem and_ixl : Statement (.and_ixl) := rfl
theorem and_ixd (d : Byte) : Statement (.and_ixd d) := rfl
theorem xor_ixh : Statement (.xor_ixh) := rfl
theorem xor_ixl : Statement (.xor_ixl) := rfl
theorem xor_ixd (d : Byte) : Statement (.xor_ixd d) := rfl
theorem or_ixh : Statement (.or_ixh) := rfl
theorem or_ixl : Statement (.or_ixl) := rfl
theorem or_ixd (d : Byte) : Statement (.or_ixd d) := rfl
theorem cp_ixh : Statement (.cp_ixh) := rfl
theorem cp_ixl : Statement (.cp_ixl) := rfl
theorem cp_ixd (d : Byte) : Statement (.cp_ixd d) := rfl
theorem pop_ix : Statement (.pop_ix) := rfl
theorem ex_msp_ix : Statement (.ex_msp_ix) := rfl
theorem push_ix : Statement (.push_ix) := rfl
theorem jp_ix : Statement (.jp_ix) := rfl
theorem ld_sp_ix : Statement (.ld_sp_ix) := rfl
theorem rlc_ixd_b (d : Byte) : Statement (.rlc_ixd_b d) := rfl
theorem rlc_ixd_c (d : Byte) : Statement (.rlc_ixd_c d) := rfl
theorem rlc_ixd_d (d : Byte) : Statement (.rlc_ixd_d d) := rfl
theorem rlc_ixd_e (d : Byte) : Statement (.rlc_ixd_e d) := rfl
theorem rlc_ixd_h (d : Byte) : Statement (.rlc_ixd_h d) := rfl
theorem rlc_ixd_l (d : Byte) : Statement (.rlc_ixd_l d) := rfl
theorem rlc_ixd (d : Byte) : Statement (.rlc_ixd d) := rfl
theorem rlc_ixd_a (d : Byte) : Statement (.rlc_ixd_a d) := rfl
theorem rrc_ixd_b (d : Byte) : Statement (.rrc_ixd_b d) := rfl
theorem rrc_ixd_c (d : Byte) : Statement (.rrc_ixd_c d) := rfl
theorem rrc_ixd_d (d : Byte) : Statement (.rrc_ixd_d d) := rfl
theorem rrc_ixd_e (d : Byte) : Statement (.rrc_ixd_e d) := rfl
theorem rrc_ixd_h (d : Byte) : Statement (.rrc_ixd_h d) := rfl
theorem rrc_ixd_l (d : Byte) : Statement (.rrc_ixd_l d) := rfl
theorem rrc_ixd (d : Byte) : Statement (.rrc_ixd d) := rfl
theorem rrc_ixd_a (d : Byte) : Statement (.rrc_ixd_a d) := rfl
theorem rl_ixd_b (d : Byte) : Statement (.rl_ixd_b d) := rfl
theorem rl_ixd_c (d : Byte) : Statement (.rl_ixd_c d) := rfl
theorem rl_ixd_d (d : Byte) : Statement (.rl_ixd_d d) := rfl
theorem rl_ixd_e (d : Byte) : Statement (.rl_ixd_e d) := rfl
theorem rl_ixd_h (d : Byte) : Statement (.rl_ixd_h d) := rfl
theorem rl_ixd_l (d : Byte) : Statement (.rl_ixd_l d) := rfl
theorem rl_ixd (d : Byte) : Statement (.rl_ixd d) := rfl
theorem rl_ixd_a (d : Byte) : Statement (.rl_ixd_a d) := rfl
theorem rr_ixd_b (d : Byte) : Statement (.rr_ixd_b d) := rfl
theorem rr_ixd_c (d : Byte) : Statement (.rr_ixd_c d) := rfl
theorem rr_ixd_d (d : Byte) : Statement (.rr_ixd_d d) := rfl
theorem rr_ixd_e (d : Byte) : Statement (.rr_ixd_e d) := rfl
theorem rr_ixd_h (d : Byte) : Statement (.rr_ixd_h d) := rfl
theorem rr_ixd_l (d : Byte) : Statement (.rr_ixd_l d) := rfl
theorem rr_ixd (d : Byte) : Statement (.rr_ixd d) := rfl
theorem rr_ixd_a (d : Byte) : Statement (.rr_ixd_a d) := rfl
theorem sla_ixd_b (d : Byte) : Statement (.sla_ixd_b d) := rfl
theorem sla_ixd_c (d : Byte) : Statement (.sla_ixd_c d) := rfl
theorem sla_ixd_d (d : Byte) : Statement (.sla_ixd_d d) := rfl
theorem sla_ixd_e (d : Byte) : Statement (.sla_ixd_e d) := rfl
theorem sla_ixd_h (d : Byte) : Statement (.sla_ixd_h d) := rfl
theorem sla_ixd_l (d : Byte) : Statement (.sla_ixd_l d) := rfl
theorem sla_ixd (d : Byte) : Statement (.sla_ixd d) := rfl
theorem sla_ixd_a (d : Byte) : Statement (.sla_ixd_a d) := rfl
theorem sra_ixd_b (d : Byte) : Statement (.sra_ixd_b d) := rfl
theorem sra_ixd_c (d : Byte) : Statement (.sra_ixd_c d) := rfl
theorem sra_ixd_d (d : Byte) : Statement (.sra_ixd_d d) := rfl
theorem sra_ixd_e (d : Byte) : Statement (.sra_ixd_e d) := rfl
theorem sra_ixd_h (d : Byte) : Statement (.sra_ixd_h d) := rfl
theorem sra_ixd_l (d : Byte) : Statement (.sra_ixd_l d) := rfl
theorem sra_ixd (d : Byte) : Statement (.sra_ixd d) := rfl
theorem sra_ixd_a (d : Byte) : Statement (.sra_ixd_a d) := rfl
theorem sll_ixd_b (d : Byte) : Statement (.sll_ixd_b d) := rfl
theorem sll_ixd_c (d : Byte) : Statement (.sll_ixd_c d) := rfl
theorem sll_ixd_d (d : Byte) : Statement (.sll_ixd_d d) := rfl
theorem sll_ixd_e (d : Byte) : Statement (.sll_ixd_e d) := rfl
theorem sll_ixd_h (d : Byte) : Statement (.sll_ixd_h d) := rfl
theorem sll_ixd_l (d : Byte) : Statement (.sll_ixd_l d) := rfl
theorem sll_ixd (d : Byte) : Statement (.sll_ixd d) := rfl
theorem sll_ixd_a (d : Byte) : Statement (.sll_ixd_a d) := rfl
theorem srl_ixd_b (d : Byte) : Statement (.srl_ixd_b d) := rfl
theorem srl_ixd_c (d : Byte) : Statement (.srl_ixd_c d) := rfl
theorem srl_ixd_d (d : Byte) : Statement (.srl_ixd_d d) := rfl
theorem srl_ixd_e (d : Byte) : Statement (.srl_ixd_e d) := rfl
theorem srl_ixd_h (d : Byte) : Statement (.srl_ixd_h d) := rfl
theorem srl_ixd_l (d : Byte) : Statement (.srl_ixd_l d) := rfl
theorem srl_ixd (d : Byte) : Statement (.srl_ixd d) := rfl
theorem srl_ixd_a (d : Byte) : Statement (.srl_ixd_a d) := rfl
theorem bit_0_ixd_z0 (d : Byte) : Statement (.bit_0_ixd_z0 d) := rfl
theorem bit_0_ixd_z1 (d : Byte) : Statement (.bit_0_ixd_z1 d) := rfl
theorem bit_0_ixd_z2 (d : Byte) : Statement (.bit_0_ixd_z2 d) := rfl
theorem bit_0_ixd_z3 (d : Byte) : Statement (.bit_0_ixd_z3 d) := rfl
theorem bit_0_ixd_z4 (d : Byte) : Statement (.bit_0_ixd_z4 d) := rfl
theorem bit_0_ixd_z5 (d : Byte) : Statement (.bit_0_ixd_z5 d) := rfl
theorem bit_0_ixd (d : Byte) : Statement (.bit_0_ixd d) := rfl
theorem bit_0_ixd_z7 (d : Byte) : Statement (.bit_0_ixd_z7 d) := rfl
theorem bit_1_ixd_z0 (d : Byte) : Statement (.bit_1_ixd_z0 d) := rfl
theorem bit_1_ixd_z1 (d : Byte) : Statement (.bit_1_ixd_z1 d) := rfl
theorem bit_1_ixd_z2 (d : Byte) : Statement (.bit_1_ixd_z2 d) := rfl
theorem bit_1_ixd_z3 (d : Byte) : Statement (.bit_1_ixd_z3 d) := rfl
theorem bit_1_ixd_z4 (d : Byte) : Statement (.bit_1_ixd_z4 d) := rfl
theorem bit_1_ixd_z5 (d : Byte) : Statement (.bit_1_ixd_z5 d) := rfl
theorem bit_1_ixd (d : Byte) : Statement (.bit_1_ixd d) := rfl
theorem bit_1_ixd_z7 (d : Byte) : Statement (.bit_1_ixd_z7 d) := rfl
theorem bit_2_ixd_z0 (d : Byte) : Statement (.bit_2_ixd_z0 d) := rfl
theorem bit_2_ixd_z1 (d : Byte) : Statement (.bit_2_ixd_z1 d) := rfl
theorem bit_2_ixd_z2 (d : Byte) : Statement (.bit_2_ixd_z2 d) := rfl
theorem bit_2_ixd_z3 (d : Byte) : Statement (.bit_2_ixd_z3 d) := rfl
theorem bit_2_ixd_z4 (d : Byte) : Statement (.bit_2_ixd_z4 d) := rfl
theorem bit_2_ixd_z5 (d : Byte) : Statement (.bit_2_ixd_z5 d) := rfl
theorem bit_2_ixd (d : Byte) : Statement (.bit_2_ixd d) := rfl
theorem bit_2_ixd_z7 (d : Byte) : Statement (.bit_2_ixd_z7 d) := rfl
theorem bit_3_ixd_z0 (d : Byte) : Statement (.bit_3_ixd_z0 d) := rfl
theorem bit_3_ixd_z1 (d : Byte) : Statement (.bit_3_ixd_z1 d) := rfl
theorem bit_3_ixd_z2 (d : Byte) : Statement (.bit_3_ixd_z2 d) := rfl
theorem bit_3_ixd_z3 (d : Byte) : Statement (.bit_3_ixd_z3 d) := rfl
theorem bit_3_ixd_z4 (d : Byte) : Statement (.bit_3_ixd_z4 d) := rfl
theorem bit_3_ixd_z5 (d : Byte) : Statement (.bit_3_ixd_z5 d) := rfl
theorem bit_3_ixd (d : Byte) : Statement (.bit_3_ixd d) := rfl
theorem bit_3_ixd_z7 (d : Byte) : Statement (.bit_3_ixd_z7 d) := rfl
theorem bit_4_ixd_z0 (d : Byte) : Statement (.bit_4_ixd_z0 d) := rfl
theorem bit_4_ixd_z1 (d : Byte) : Statement (.bit_4_ixd_z1 d) := rfl
theorem bit_4_ixd_z2 (d : Byte) : Statement (.bit_4_ixd_z2 d) := rfl
theorem bit_4_ixd_z3 (d : Byte) : Statement (.bit_4_ixd_z3 d) := rfl
theorem bit_4_ixd_z4 (d : Byte) : Statement (.bit_4_ixd_z4 d) := rfl
theorem bit_4_ixd_z5 (d : Byte) : Statement (.bit_4_ixd_z5 d) := rfl
theorem bit_4_ixd (d : Byte) : Statement (.bit_4_ixd d) := rfl
theorem bit_4_ixd_z7 (d : Byte) : Statement (.bit_4_ixd_z7 d) := rfl
theorem bit_5_ixd_z0 (d : Byte) : Statement (.bit_5_ixd_z0 d) := rfl
theorem bit_5_ixd_z1 (d : Byte) : Statement (.bit_5_ixd_z1 d) := rfl
theorem bit_5_ixd_z2 (d : Byte) : Statement (.bit_5_ixd_z2 d) := rfl
theorem bit_5_ixd_z3 (d : Byte) : Statement (.bit_5_ixd_z3 d) := rfl
theorem bit_5_ixd_z4 (d : Byte) : Statement (.bit_5_ixd_z4 d) := rfl
theorem bit_5_ixd_z5 (d : Byte) : Statement (.bit_5_ixd_z5 d) := rfl
theorem bit_5_ixd (d : Byte) : Statement (.bit_5_ixd d) := rfl
theorem bit_5_ixd_z7 (d : Byte) : Statement (.bit_5_ixd_z7 d) := rfl
theorem bit_6_ixd_z0 (d : Byte) : Statement (.bit_6_ixd_z0 d) := rfl
theorem bit_6_ixd_z1 (d : Byte) : Statement (.bit_6_ixd_z1 d) := rfl
theorem bit_6_ixd_z2 (d : Byte) : Statement (.bit_6_ixd_z2 d) := rfl
theorem bit_6_ixd_z3 (d : Byte) : Statement (.bit_6_ixd_z3 d) := rfl
theorem bit_6_ixd_z4 (d : Byte) : Statement (.bit_6_ixd_z4 d) := rfl
theorem bit_6_ixd_z5 (d : Byte) : Statement (.bit_6_ixd_z5 d) := rfl
theorem bit_6_ixd (d : Byte) : Statement (.bit_6_ixd d) := rfl
theorem bit_6_ixd_z7 (d : Byte) : Statement (.bit_6_ixd_z7 d) := rfl
theorem bit_7_ixd_z0 (d : Byte) : Statement (.bit_7_ixd_z0 d) := rfl
theorem bit_7_ixd_z1 (d : Byte) : Statement (.bit_7_ixd_z1 d) := rfl
theorem bit_7_ixd_z2 (d : Byte) : Statement (.bit_7_ixd_z2 d) := rfl
theorem bit_7_ixd_z3 (d : Byte) : Statement (.bit_7_ixd_z3 d) := rfl
theorem bit_7_ixd_z4 (d : Byte) : Statement (.bit_7_ixd_z4 d) := rfl
theorem bit_7_ixd_z5 (d : Byte) : Statement (.bit_7_ixd_z5 d) := rfl
theorem bit_7_ixd (d : Byte) : Statement (.bit_7_ixd d) := rfl
theorem bit_7_ixd_z7 (d : Byte) : Statement (.bit_7_ixd_z7 d) := rfl
theorem res_0_ixd_b (d : Byte) : Statement (.res_0_ixd_b d) := rfl
theorem res_0_ixd_c (d : Byte) : Statement (.res_0_ixd_c d) := rfl
theorem res_0_ixd_d (d : Byte) : Statement (.res_0_ixd_d d) := rfl
theorem res_0_ixd_e (d : Byte) : Statement (.res_0_ixd_e d) := rfl
theorem res_0_ixd_h (d : Byte) : Statement (.res_0_ixd_h d) := rfl
theorem res_0_ixd_l (d : Byte) : Statement (.res_0_ixd_l d) := rfl
theorem res_0_ixd (d : Byte) : Statement (.res_0_ixd d) := rfl
theorem res_0_ixd_a (d : Byte) : Statement (.res_0_ixd_a d) := rfl
theorem res_1_ixd_b (d : Byte) : Statement (.res_1_ixd_b d) := rfl
theorem res_1_ixd_c (d : Byte) : Statement (.res_1_ixd_c d) := rfl
theorem res_1_ixd_d (d : Byte) : Statement (.res_1_ixd_d d) := rfl
theorem res_1_ixd_e (d : Byte) : Statement (.res_1_ixd_e d) := rfl
theorem res_1_ixd_h (d : Byte) : Statement (.res_1_ixd_h d) := rfl
theorem res_1_ixd_l (d : Byte) : Statement (.res_1_ixd_l d) := rfl
theorem res_1_ixd (d : Byte) : Statement (.res_1_ixd d) := rfl
theorem res_1_ixd_a (d : Byte) : Statement (.res_1_ixd_a d) := rfl
theorem res_2_ixd_b (d : Byte) : Statement (.res_2_ixd_b d) := rfl
theorem res_2_ixd_c (d : Byte) : Statement (.res_2_ixd_c d) := rfl
theorem res_2_ixd_d (d : Byte) : Statement (.res_2_ixd_d d) := rfl
theorem res_2_ixd_e (d : Byte) : Statement (.res_2_ixd_e d) := rfl
theorem res_2_ixd_h (d : Byte) : Statement (.res_2_ixd_h d) := rfl
theorem res_2_ixd_l (d : Byte) : Statement (.res_2_ixd_l d) := rfl
theorem res_2_ixd (d : Byte) : Statement (.res_2_ixd d) := rfl
theorem res_2_ixd_a (d : Byte) : Statement (.res_2_ixd_a d) := rfl
theorem res_3_ixd_b (d : Byte) : Statement (.res_3_ixd_b d) := rfl
theorem res_3_ixd_c (d : Byte) : Statement (.res_3_ixd_c d) := rfl
theorem res_3_ixd_d (d : Byte) : Statement (.res_3_ixd_d d) := rfl
theorem res_3_ixd_e (d : Byte) : Statement (.res_3_ixd_e d) := rfl
theorem res_3_ixd_h (d : Byte) : Statement (.res_3_ixd_h d) := rfl
theorem res_3_ixd_l (d : Byte) : Statement (.res_3_ixd_l d) := rfl
theorem res_3_ixd (d : Byte) : Statement (.res_3_ixd d) := rfl
theorem res_3_ixd_a (d : Byte) : Statement (.res_3_ixd_a d) := rfl
theorem res_4_ixd_b (d : Byte) : Statement (.res_4_ixd_b d) := rfl
theorem res_4_ixd_c (d : Byte) : Statement (.res_4_ixd_c d) := rfl
theorem res_4_ixd_d (d : Byte) : Statement (.res_4_ixd_d d) := rfl
theorem res_4_ixd_e (d : Byte) : Statement (.res_4_ixd_e d) := rfl
theorem res_4_ixd_h (d : Byte) : Statement (.res_4_ixd_h d) := rfl
theorem res_4_ixd_l (d : Byte) : Statement (.res_4_ixd_l d) := rfl
theorem res_4_ixd (d : Byte) : Statement (.res_4_ixd d) := rfl
theorem res_4_ixd_a (d : Byte) : Statement (.res_4_ixd_a d) := rfl
theorem res_5_ixd_b (d : Byte) : Statement (.res_5_ixd_b d) := rfl
theorem res_5_ixd_c (d : Byte) : Statement (.res_5_ixd_c d) := rfl
theorem res_5_ixd_d (d : Byte) : Statement (.res_5_ixd_d d) := rfl
theorem res_5_ixd_e (d : Byte) : Statement (.res_5_ixd_e d) := rfl
theorem res_5_ixd_h (d : Byte) : Statement (.res_5_ixd_h d) := rfl
theorem res_5_ixd_l (d : Byte) : Statement (.res_5_ixd_l d) := rfl
theorem res_5_ixd (d : Byte) : Statement (.res_5_ixd d) := rfl
theorem res_5_ixd_a (d : Byte) : Statement (.res_5_ixd_a d) := rfl
theorem res_6_ixd_b (d : Byte) : Statement (.res_6_ixd_b d) := rfl
theorem res_6_ixd_c (d : Byte) : Statement (.res_6_ixd_c d) := rfl
theorem res_6_ixd_d (d : Byte) : Statement (.res_6_ixd_d d) := rfl
theorem res_6_ixd_e (d : Byte) : Statement (.res_6_ixd_e d) := rfl
theorem res_6_ixd_h (d : Byte) : Statement (.res_6_ixd_h d) := rfl
theorem res_6_ixd_l (d : Byte) : Statement (.res_6_ixd_l d) := rfl
theorem res_6_ixd (d : Byte) : Statement (.res_6_ixd d) := rfl
theorem res_6_ixd_a (d : Byte) : Statement (.res_6_ixd_a d) := rfl
theorem res_7_ixd_b (d : Byte) : Statement (.res_7_ixd_b d) := rfl
theorem res_7_ixd_c (d : Byte) : Statement (.res_7_ixd_c d) := rfl
theorem res_7_ixd_d (d : Byte) : Statement (.res_7_ixd_d d) := rfl
theorem res_7_ixd_e (d : Byte) : Statement (.res_7_ixd_e d) := rfl
theorem res_7_ixd_h (d : Byte) : Statement (.res_7_ixd_h d) := rfl
theorem res_7_ixd_l (d : Byte) : Statement (.res_7_ixd_l d) := rfl
theorem res_7_ixd (d : Byte) : Statement (.res_7_ixd d) := rfl
theorem res_7_ixd_a (d : Byte) : Statement (.res_7_ixd_a d) := rfl
theorem set_0_ixd_b (d : Byte) : Statement (.set_0_ixd_b d) := rfl
theorem set_0_ixd_c (d : Byte) : Statement (.set_0_ixd_c d) := rfl
theorem set_0_ixd_d (d : Byte) : Statement (.set_0_ixd_d d) := rfl
theorem set_0_ixd_e (d : Byte) : Statement (.set_0_ixd_e d) := rfl
theorem set_0_ixd_h (d : Byte) : Statement (.set_0_ixd_h d) := rfl
theorem set_0_ixd_l (d : Byte) : Statement (.set_0_ixd_l d) := rfl
theorem set_0_ixd (d : Byte) : Statement (.set_0_ixd d) := rfl
theorem set_0_ixd_a (d : Byte) : Statement (.set_0_ixd_a d) := rfl
theorem set_1_ixd_b (d : Byte) : Statement (.set_1_ixd_b d) := rfl
theorem set_1_ixd_c (d : Byte) : Statement (.set_1_ixd_c d) := rfl
theorem set_1_ixd_d (d : Byte) : Statement (.set_1_ixd_d d) := rfl
theorem set_1_ixd_e (d : Byte) : Statement (.set_1_ixd_e d) := rfl
theorem set_1_ixd_h (d : Byte) : Statement (.set_1_ixd_h d) := rfl
theorem set_1_ixd_l (d : Byte) : Statement (.set_1_ixd_l d) := rfl
theorem set_1_ixd (d : Byte) : Statement (.set_1_ixd d) := rfl
theorem set_1_ixd_a (d : Byte) : Statement (.set_1_ixd_a d) := rfl
theorem set_2_ixd_b (d : Byte) : Statement (.set_2_ixd_b d) := rfl
theorem set_2_ixd_c (d : Byte) : Statement (.set_2_ixd_c d) := rfl
theorem set_2_ixd_d (d : Byte) : Statement (.set_2_ixd_d d) := rfl
theorem set_2_ixd_e (d : Byte) : Statement (.set_2_ixd_e d) := rfl
theorem set_2_ixd_h (d : Byte) : Statement (.set_2_ixd_h d) := rfl
theorem set_2_ixd_l (d : Byte) : Statement (.set_2_ixd_l d) := rfl
theorem set_2_ixd (d : Byte) : Statement (.set_2_ixd d) := rfl
theorem set_2_ixd_a (d : Byte) : Statement (.set_2_ixd_a d) := rfl
theorem set_3_ixd_b (d : Byte) : Statement (.set_3_ixd_b d) := rfl
theorem set_3_ixd_c (d : Byte) : Statement (.set_3_ixd_c d) := rfl
theorem set_3_ixd_d (d : Byte) : Statement (.set_3_ixd_d d) := rfl
theorem set_3_ixd_e (d : Byte) : Statement (.set_3_ixd_e d) := rfl
theorem set_3_ixd_h (d : Byte) : Statement (.set_3_ixd_h d) := rfl
theorem set_3_ixd_l (d : Byte) : Statement (.set_3_ixd_l d) := rfl
theorem set_3_ixd (d : Byte) : Statement (.set_3_ixd d) := rfl
theorem set_3_ixd_a (d : Byte) : Statement (.set_3_ixd_a d) := rfl
theorem set_4_ixd_b (d : Byte) : Statement (.set_4_ixd_b d) := rfl
theorem set_4_ixd_c (d : Byte) : Statement (.set_4_ixd_c d) := rfl
theorem set_4_ixd_d (d : Byte) : Statement (.set_4_ixd_d d) := rfl
theorem set_4_ixd_e (d : Byte) : Statement (.set_4_ixd_e d) := rfl
theorem set_4_ixd_h (d : Byte) : Statement (.set_4_ixd_h d) := rfl
theorem set_4_ixd_l (d : Byte) : Statement (.set_4_ixd_l d) := rfl
theorem set_4_ixd (d : Byte) : Statement (.set_4_ixd d) := rfl
theorem set_4_ixd_a (d : Byte) : Statement (.set_4_ixd_a d) := rfl
theorem set_5_ixd_b (d : Byte) : Statement (.set_5_ixd_b d) := rfl
theorem set_5_ixd_c (d : Byte) : Statement (.set_5_ixd_c d) := rfl
theorem set_5_ixd_d (d : Byte) : Statement (.set_5_ixd_d d) := rfl
theorem set_5_ixd_e (d : Byte) : Statement (.set_5_ixd_e d) := rfl
theorem set_5_ixd_h (d : Byte) : Statement (.set_5_ixd_h d) := rfl
theorem set_5_ixd_l (d : Byte) : Statement (.set_5_ixd_l d) := rfl
theorem set_5_ixd (d : Byte) : Statement (.set_5_ixd d) := rfl
theorem set_5_ixd_a (d : Byte) : Statement (.set_5_ixd_a d) := rfl
theorem set_6_ixd_b (d : Byte) : Statement (.set_6_ixd_b d) := rfl
theorem set_6_ixd_c (d : Byte) : Statement (.set_6_ixd_c d) := rfl
theorem set_6_ixd_d (d : Byte) : Statement (.set_6_ixd_d d) := rfl
theorem set_6_ixd_e (d : Byte) : Statement (.set_6_ixd_e d) := rfl
theorem set_6_ixd_h (d : Byte) : Statement (.set_6_ixd_h d) := rfl
theorem set_6_ixd_l (d : Byte) : Statement (.set_6_ixd_l d) := rfl
theorem set_6_ixd (d : Byte) : Statement (.set_6_ixd d) := rfl
theorem set_6_ixd_a (d : Byte) : Statement (.set_6_ixd_a d) := rfl
theorem set_7_ixd_b (d : Byte) : Statement (.set_7_ixd_b d) := rfl
theorem set_7_ixd_c (d : Byte) : Statement (.set_7_ixd_c d) := rfl
theorem set_7_ixd_d (d : Byte) : Statement (.set_7_ixd_d d) := rfl
theorem set_7_ixd_e (d : Byte) : Statement (.set_7_ixd_e d) := rfl
theorem set_7_ixd_h (d : Byte) : Statement (.set_7_ixd_h d) := rfl
theorem set_7_ixd_l (d : Byte) : Statement (.set_7_ixd_l d) := rfl
theorem set_7_ixd (d : Byte) : Statement (.set_7_ixd d) := rfl
theorem set_7_ixd_a (d : Byte) : Statement (.set_7_ixd_a d) := rfl
theorem add_iy_bc : Statement (.add_iy_bc) := rfl
theorem add_iy_de : Statement (.add_iy_de) := rfl
theorem ld_iy_nn (nn : Word) : Statement (.ld_iy_nn nn) := rfl
theorem ld_mnn_iy (nn : Word) : Statement (.ld_mnn_iy nn) := rfl
theorem inc_iy : Statement (.inc_iy) := rfl
theorem inc_iyh : Statement (.inc_iyh) := rfl
theorem dec_iyh : Statement (.dec_iyh) := rfl
theorem ld_iyh_n (n : Byte) : Statement (.ld_iyh_n n) := rfl
theorem add_iy_iy : Statement (.add_iy_iy) := rfl
theorem ld_iy_mnn (nn : Word) : Statement (.ld_iy_mnn nn) := rfl
theorem dec_iy : Statement (.dec_iy) := rfl
theorem inc_iyl : Statement (.inc_iyl) := rfl
theorem dec_iyl : Statement (.dec_iyl) := rfl
theorem ld_iyl_n (n : Byte) : Statement (.ld_iyl_n n) := rfl
theorem inc_iyd (d : Byte) : Statement (.inc_iyd d) := rfl
theorem dec_iyd (d : Byte) : Statement (.dec_iyd d) := rfl
theorem ld_iyd_n (d : Byte) (n : Byte) : Statement (.ld_iyd_n d n) := rfl
theorem add_iy_sp : Statement (.add_iy_sp) := rfl
theorem ld_b_iyh : Statement (.ld_b_iyh) := rfl
theorem ld_b_iyl : Statement (.ld_b_iyl) := rfl
theorem ld_b_iyd (d : Byte) : Statement (.ld_b_iyd d) := rfl
theorem ld_c_iyh : Statement (.ld_c_iyh) := rfl
theorem ld_c_iyl : Statement (.ld_c_iyl) := rfl
theorem ld_c_iyd (d : Byte) : Statement (.ld_c_iyd d) := rfl
theorem ld_d_iyh : Statement (.ld_d_iyh) := rfl
theorem ld_d_iyl : Statement (.ld_d_iyl) := rfl
theorem ld_d_iyd (d : Byte) : Statement (.ld_d_iyd d) := rfl
theorem ld_e_iyh : Statement (.ld_e_iyh) := rfl
theorem ld_e_iyl : Statement (.ld_e_iyl) := rfl
theorem ld_e_iyd (d : Byte) : Statement (.ld_e_iyd d) := rfl
theorem ld_iyh_b : Statement (.ld_iyh_b) := rfl
theorem ld_iyh_c : Statement (.ld_iyh_c) := rfl
theorem ld_iyh_d : Statement (.ld_iyh_d) := rfl
theorem ld_iyh_e : Statement (.ld_iyh_e) := rfl
theorem ld_iyh_iyh : Statement (.ld_iyh_iyh) := rfl
theorem ld_iyh_iyl : Statement (.ld_iyh_iyl) := rfl
theorem ld_h_iyd (d : Byte) : Statement (.ld_h_iyd d) := rfl
theorem ld_iyh_a : Statement (.ld_iyh_a) := rfl
theorem ld_iyl_b : Statement (.ld_iyl_b) := rfl
theorem ld_iyl_c : Statement (.ld_iyl_c) := rfl
theorem ld_iyl_d : Statement (.ld_iyl_d) := rfl
theorem ld_iyl_e : Statement (.ld_iyl_e) := rfl
theorem ld_iyl_iyh : Statement (.ld_iyl_iyh) := rfl
theorem ld_iyl_iyl : Statement (.ld_iyl_iyl) := rfl
theorem ld_l_iyd (d : Byte) : Statement (.ld_l_iyd d) := rfl
theorem ld_iyl_a : Statement (.ld_iyl_a) := rfl
theorem ld_iyd_b (d : Byte) : Statement (.ld_iyd_b d) := rfl
theorem ld_iyd_c (d : Byte) : Statement (.ld_iyd_c d) := rfl
theorem ld_iyd_d (d : Byte) : Statement (.ld_iyd_d d) := rfl
theorem ld_iyd_e (d : Byte) : Statement (.ld_iyd_e d) := rfl
theorem ld_iyd_h (d : Byte) : Statement (.ld_iyd_h d) := rfl
theorem ld_iyd_l (d : Byte) : Statement (.ld_iyd_l d) := rfl
theorem ld_iyd_a (d : Byte) : Statement (.ld_iyd_a d) := rfl
theorem ld_a_iyh : Statement (.ld_a_iyh) := rfl
theorem ld_a_iyl : Statement (.ld_a_iyl) := rfl
theorem ld_a_iyd (d : Byte) : Statement (.ld_a_iyd d) := rfl
theorem add_a_iyh : Statement (.add_a_iyh) := rfl
theorem add_a_iyl : Statement (.add_a_iyl) := rfl
theorem add_a_iyd (d : Byte) : Statement (.add_a_iyd d) := rfl
theorem adc_a_iyh : Statement (.adc_a_iyh) := rfl
theorem adc_a_iyl : Statement (.adc_a_iyl) := rfl
theorem adc_a_iyd (d : Byte) : Statement (.adc_a_iyd d) := rfl
theorem sub_iyh : Statement (.sub_iyh) := rfl
theorem sub_iyl : Statement (.sub_iyl) := rfl
theorem sub_iyd (d : Byte) : Statement (.sub_iyd d) := rfl
theorem sbc_a_iyh : Statement (.sbc_a_iyh) := rfl
theorem sbc_a_iyl : Statement (.sbc_a_iyl) := rfl
theorem sbc_a_iyd (d : Byte) : Statement (.sbc_a_iyd d) := rfl
theorem and_iyh : Statement (.and_iyh) := rfl
theorem and_iyl : Statement (.and_iyl) := rfl
theorem and_iyd (d : Byte) : Statement (.and_iyd d) := rfl
theorem xor_iyh : Statement (.xor_iyh) := rfl
theorem xor_iyl : Statement (.xor_iyl) := rfl
theorem xor_iyd (d : Byte) : Statement (.xor_iyd d) := rfl
theorem or_iyh : Statement (.or_iyh) := rfl
theorem or_iyl : Statement (.or_iyl) := rfl
theorem or_iyd (d : Byte) : Statement (.or_iyd d) := rfl
theorem cp_iyh : Statement (.cp_iyh) := rfl
theorem cp_iyl : Statement (.cp_iyl) := rfl
theorem cp_iyd (d : Byte) : Statement (.cp_iyd d) := rfl
theorem pop_iy : Statement (.pop_iy) := rfl
theorem ex_msp_iy : Statement (.ex_msp_iy) := rfl
theorem push_iy : Statement (.push_iy) := rfl
theorem jp_iy : Statement (.jp_iy) := rfl
theorem ld_sp_iy : Statement (.ld_sp_iy) := rfl
theorem rlc_iyd_b (d : Byte) : Statement (.rlc_iyd_b d) := rfl
theorem rlc_iyd_c (d : Byte) : Statement (.rlc_iyd_c d) := rfl
theorem rlc_iyd_d (d : Byte) : Statement (.rlc_iyd_d d) := rfl
theorem rlc_iyd_e (d : Byte) : Statement (.rlc_iyd_e d) := rfl
theorem rlc_iyd_h (d : Byte) : Statement (.rlc_iyd_h d) := rfl
theorem rlc_iyd_l (d : Byte) : Statement (.rlc_iyd_l d) := rfl
theorem rlc_iyd (d : Byte) : Statement (.rlc_iyd d) := rfl
theorem rlc_iyd_a (d : Byte) : Statement (.rlc_iyd_a d) := rfl
theorem rrc_iyd_b (d : Byte) : Statement (.rrc_iyd_b d) := rfl
theorem rrc_iyd_c (d : Byte) : Statement (.rrc_iyd_c d) := rfl
theorem rrc_iyd_d (d : Byte) : Statement (.rrc_iyd_d d) := rfl
theorem rrc_iyd_e (d : Byte) : Statement (.rrc_iyd_e d) := rfl
theorem rrc_iyd_h (d : Byte) : Statement (.rrc_iyd_h d) := rfl
theorem rrc_iyd_l (d : Byte) : Statement (.rrc_iyd_l d) := rfl
theorem rrc_iyd (d : Byte) : Statement (.rrc_iyd d) := rfl
theorem rrc_iyd_a (d : Byte) : Statement (.rrc_iyd_a d) := rfl
theorem rl_iyd_b (d : Byte) : Statement (.rl_iyd_b d) := rfl
theorem rl_iyd_c (d : Byte) : Statement (.rl_iyd_c d) := rfl
theorem rl_iyd_d (d : Byte) : Statement (.rl_iyd_d d) := rfl
theorem rl_iyd_e (d : Byte) : Statement (.rl_iyd_e d) := rfl
theorem rl_iyd_h (d : Byte) : Statement (.rl_iyd_h d) := rfl
theorem rl_iyd_l (d : Byte) : Statement (.rl_iyd_l d) := rfl
theorem rl_iyd (d : Byte) : Statement (.rl_iyd d) := rfl
theorem rl_iyd_a (d : Byte) : Statement (.rl_iyd_a d) := rfl
theorem rr_iyd_b (d : Byte) : Statement (.rr_iyd_b d) := rfl
theorem rr_iyd_c (d : Byte) : Statement (.rr_iyd_c d) := rfl
theorem rr_iyd_d (d : Byte) : Statement (.rr_iyd_d d) := rfl
theorem rr_iyd_e (d : Byte) : Statement (.rr_iyd_e d) := rfl
theorem rr_iyd_h (d : Byte) : Statement (.rr_iyd_h d) := rfl
theorem rr_iyd_l (d : Byte) : Statement (.rr_iyd_l d) := rfl
theorem rr_iyd (d : Byte) : Statement (.rr_iyd d) := rfl
theorem rr_iyd_a (d : Byte) : Statement (.rr_iyd_a d) := rfl
theorem sla_iyd_b (d : Byte) : Statement (.sla_iyd_b d) := rfl
theorem sla_iyd_c (d : Byte) : Statement (.sla_iyd_c d) := rfl
theorem sla_iyd_d (d : Byte) : Statement (.sla_iyd_d d) := rfl
theorem sla_iyd_e (d : Byte) : Statement (.sla_iyd_e d) := rfl
theorem sla_iyd_h (d : Byte) : Statement (.sla_iyd_h d) := rfl
theorem sla_iyd_l (d : Byte) : Statement (.sla_iyd_l d) := rfl
theorem sla_iyd (d : Byte) : Statement (.sla_iyd d) := rfl
theorem sla_iyd_a (d : Byte) : Statement (.sla_iyd_a d) := rfl
theorem sra_iyd_b (d : Byte) : Statement (.sra_iyd_b d) := rfl
theorem sra_iyd_c (d : Byte) : Statement (.sra_iyd_c d) := rfl
theorem sra_iyd_d (d : Byte) : Statement (.sra_iyd_d d) := rfl
theorem sra_iyd_e (d : Byte) : Statement (.sra_iyd_e d) := rfl
theorem sra_iyd_h (d : Byte) : Statement (.sra_iyd_h d) := rfl
theorem sra_iyd_l (d : Byte) : Statement (.sra_iyd_l d) := rfl
theorem sra_iyd (d : Byte) : Statement (.sra_iyd d) := rfl
theorem sra_iyd_a (d : Byte) : Statement (.sra_iyd_a d) := rfl
theorem sll_iyd_b (d : Byte) : Statement (.sll_iyd_b d) := rfl
theorem sll_iyd_c (d : Byte) : Statement (.sll_iyd_c d) := rfl
theorem sll_iyd_d (d : Byte) : Statement (.sll_iyd_d d) := rfl
theorem sll_iyd_e (d : Byte) : Statement (.sll_iyd_e d) := rfl
theorem sll_iyd_h (d : Byte) : Statement (.sll_iyd_h d) := rfl
theorem sll_iyd_l (d : Byte) : Statement (.sll_iyd_l d) := rfl
theorem sll_iyd (d : Byte) : Statement (.sll_iyd d) := rfl
theorem sll_iyd_a (d : Byte) : Statement (.sll_iyd_a d) := rfl
theorem srl_iyd_b (d : Byte) : Statement (.srl_iyd_b d) := rfl
theorem srl_iyd_c (d : Byte) : Statement (.srl_iyd_c d) := rfl
theorem srl_iyd_d (d : Byte) : Statement (.srl_iyd_d d) := rfl
theorem srl_iyd_e (d : Byte) : Statement (.srl_iyd_e d) := rfl
theorem srl_iyd_h (d : Byte) : Statement (.srl_iyd_h d) := rfl
theorem srl_iyd_l (d : Byte) : Statement (.srl_iyd_l d) := rfl
theorem srl_iyd (d : Byte) : Statement (.srl_iyd d) := rfl
theorem srl_iyd_a (d : Byte) : Statement (.srl_iyd_a d) := rfl
theorem bit_0_iyd_z0 (d : Byte) : Statement (.bit_0_iyd_z0 d) := rfl
theorem bit_0_iyd_z1 (d : Byte) : Statement (.bit_0_iyd_z1 d) := rfl
theorem bit_0_iyd_z2 (d : Byte) : Statement (.bit_0_iyd_z2 d) := rfl
theorem bit_0_iyd_z3 (d : Byte) : Statement (.bit_0_iyd_z3 d) := rfl
theorem bit_0_iyd_z4 (d : Byte) : Statement (.bit_0_iyd_z4 d) := rfl
theorem bit_0_iyd_z5 (d : Byte) : Statement (.bit_0_iyd_z5 d) := rfl
theorem bit_0_iyd (d : Byte) : Statement (.bit_0_iyd d) := rfl
theorem bit_0_iyd_z7 (d : Byte) : Statement (.bit_0_iyd_z7 d) := rfl
theorem bit_1_iyd_z0 (d : Byte) : Statement (.bit_1_iyd_z0 d) := rfl
theorem bit_1_iyd_z1 (d : Byte) : Statement (.bit_1_iyd_z1 d) := rfl
theorem bit_1_iyd_z2 (d : Byte) : Statement (.bit_1_iyd_z2 d) := rfl
theorem bit_1_iyd_z3 (d : Byte) : Statement (.bit_1_iyd_z3 d) := rfl
theorem bit_1_iyd_z4 (d : Byte) : Statement (.bit_1_iyd_z4 d) := rfl
theorem bit_1_iyd_z5 (d : Byte) : Statement (.bit_1_iyd_z5 d) := rfl
theorem bit_1_iyd (d : Byte) : Statement (.bit_1_iyd d) := rfl
theorem bit_1_iyd_z7 (d : Byte) : Statement (.bit_1_iyd_z7 d) := rfl
theorem bit_2_iyd_z0 (d : Byte) : Statement (.bit_2_iyd_z0 d) := rfl
theorem bit_2_iyd_z1 (d : Byte) : Statement (.bit_2_iyd_z1 d) := rfl
theorem bit_2_iyd_z2 (d : Byte) : Statement (.bit_2_iyd_z2 d) := rfl
theorem bit_2_iyd_z3 (d : Byte) : Statement (.bit_2_iyd_z3 d) := rfl
theorem bit_2_iyd_z4 (d : Byte) : Statement (.bit_2_iyd_z4 d) := rfl
theorem bit_2_iyd_z5 (d : Byte) : Statement (.bit_2_iyd_z5 d) := rfl
theorem bit_2_iyd (d : Byte) : Statement (.bit_2_iyd d) := rfl
theorem bit_2_iyd_z7 (d : Byte) : Statement (.bit_2_iyd_z7 d) := rfl
theorem bit_3_iyd_z0 (d : Byte) : Statement (.bit_3_iyd_z0 d) := rfl
theorem bit_3_iyd_z1 (d : Byte) : Statement (.bit_3_iyd_z1 d) := rfl
theorem bit_3_iyd_z2 (d : Byte) : Statement (.bit_3_iyd_z2 d) := rfl
theorem bit_3_iyd_z3 (d : Byte) : Statement (.bit_3_iyd_z3 d) := rfl
theorem bit_3_iyd_z4 (d : Byte) : Statement (.bit_3_iyd_z4 d) := rfl
theorem bit_3_iyd_z5 (d : Byte) : Statement (.bit_3_iyd_z5 d) := rfl
theorem bit_3_iyd (d : Byte) : Statement (.bit_3_iyd d) := rfl
theorem bit_3_iyd_z7 (d : Byte) : Statement (.bit_3_iyd_z7 d) := rfl
theorem bit_4_iyd_z0 (d : Byte) : Statement (.bit_4_iyd_z0 d) := rfl
theorem bit_4_iyd_z1 (d : Byte) : Statement (.bit_4_iyd_z1 d) := rfl
theorem bit_4_iyd_z2 (d : Byte) : Statement (.bit_4_iyd_z2 d) := rfl
theorem bit_4_iyd_z3 (d : Byte) : Statement (.bit_4_iyd_z3 d) := rfl
theorem bit_4_iyd_z4 (d : Byte) : Statement (.bit_4_iyd_z4 d) := rfl
theorem bit_4_iyd_z5 (d : Byte) : Statement (.bit_4_iyd_z5 d) := rfl
theorem bit_4_iyd (d : Byte) : Statement (.bit_4_iyd d) := rfl
theorem bit_4_iyd_z7 (d : Byte) : Statement (.bit_4_iyd_z7 d) := rfl
theorem bit_5_iyd_z0 (d : Byte) : Statement (.bit_5_iyd_z0 d) := rfl
theorem bit_5_iyd_z1 (d : Byte) : Statement (.bit_5_iyd_z1 d) := rfl
theorem bit_5_iyd_z2 (d : Byte) : Statement (.bit_5_iyd_z2 d) := rfl
theorem bit_5_iyd_z3 (d : Byte) : Statement (.bit_5_iyd_z3 d) := rfl
theorem bit_5_iyd_z4 (d : Byte) : Statement (.bit_5_iyd_z4 d) := rfl
theorem bit_5_iyd_z5 (d : Byte) : Statement (.bit_5_iyd_z5 d) := rfl
theorem bit_5_iyd (d : Byte) : Statement (.bit_5_iyd d) := rfl
theorem bit_5_iyd_z7 (d : Byte) : Statement (.bit_5_iyd_z7 d) := rfl
theorem bit_6_iyd_z0 (d : Byte) : Statement (.bit_6_iyd_z0 d) := rfl
theorem bit_6_iyd_z1 (d : Byte) : Statement (.bit_6_iyd_z1 d) := rfl
theorem bit_6_iyd_z2 (d : Byte) : Statement (.bit_6_iyd_z2 d) := rfl
theorem bit_6_iyd_z3 (d : Byte) : Statement (.bit_6_iyd_z3 d) := rfl
theorem bit_6_iyd_z4 (d : Byte) : Statement (.bit_6_iyd_z4 d) := rfl
theorem bit_6_iyd_z5 (d : Byte) : Statement (.bit_6_iyd_z5 d) := rfl
theorem bit_6_iyd (d : Byte) : Statement (.bit_6_iyd d) := rfl
theorem bit_6_iyd_z7 (d : Byte) : Statement (.bit_6_iyd_z7 d) := rfl
theorem bit_7_iyd_z0 (d : Byte) : Statement (.bit_7_iyd_z0 d) := rfl
theorem bit_7_iyd_z1 (d : Byte) : Statement (.bit_7_iyd_z1 d) := rfl
theorem bit_7_iyd_z2 (d : Byte) : Statement (.bit_7_iyd_z2 d) := rfl
theorem bit_7_iyd_z3 (d : Byte) : Statement (.bit_7_iyd_z3 d) := rfl
theorem bit_7_iyd_z4 (d : Byte) : Statement (.bit_7_iyd_z4 d) := rfl
theorem bit_7_iyd_z5 (d : Byte) : Statement (.bit_7_iyd_z5 d) := rfl
theorem bit_7_iyd (d : Byte) : Statement (.bit_7_iyd d) := rfl
theorem bit_7_iyd_z7 (d : Byte) : Statement (.bit_7_iyd_z7 d) := rfl
theorem res_0_iyd_b (d : Byte) : Statement (.res_0_iyd_b d) := rfl
theorem res_0_iyd_c (d : Byte) : Statement (.res_0_iyd_c d) := rfl
theorem res_0_iyd_d (d : Byte) : Statement (.res_0_iyd_d d) := rfl
theorem res_0_iyd_e (d : Byte) : Statement (.res_0_iyd_e d) := rfl
theorem res_0_iyd_h (d : Byte) : Statement (.res_0_iyd_h d) := rfl
theorem res_0_iyd_l (d : Byte) : Statement (.res_0_iyd_l d) := rfl
theorem res_0_iyd (d : Byte) : Statement (.res_0_iyd d) := rfl
theorem res_0_iyd_a (d : Byte) : Statement (.res_0_iyd_a d) := rfl
theorem res_1_iyd_b (d : Byte) : Statement (.res_1_iyd_b d) := rfl
theorem res_1_iyd_c (d : Byte) : Statement (.res_1_iyd_c d) := rfl
theorem res_1_iyd_d (d : Byte) : Statement (.res_1_iyd_d d) := rfl
theorem res_1_iyd_e (d : Byte) : Statement (.res_1_iyd_e d) := rfl
theorem res_1_iyd_h (d : Byte) : Statement (.res_1_iyd_h d) := rfl
theorem res_1_iyd_l (d : Byte) : Statement (.res_1_iyd_l d) := rfl
theorem res_1_iyd (d : Byte) : Statement (.res_1_iyd d) := rfl
theorem res_1_iyd_a (d : Byte) : Statement (.res_1_iyd_a d) := rfl
theorem res_2_iyd_b (d : Byte) : Statement (.res_2_iyd_b d) := rfl
theorem res_2_iyd_c (d : Byte) : Statement (.res_2_iyd_c d) := rfl
theorem res_2_iyd_d (d : Byte) : Statement (.res_2_iyd_d d) := rfl
theorem res_2_iyd_e (d : Byte) : Statement (.res_2_iyd_e d) := rfl
theorem res_2_iyd_h (d : Byte) : Statement (.res_2_iyd_h d) := rfl
theorem res_2_iyd_l (d : Byte) : Statement (.res_2_iyd_l d) := rfl
theorem res_2_iyd (d : Byte) : Statement (.res_2_iyd d) := rfl
theorem res_2_iyd_a (d : Byte) : Statement (.res_2_iyd_a d) := rfl
theorem res_3_iyd_b (d : Byte) : Statement (.res_3_iyd_b d) := rfl
theorem res_3_iyd_c (d : Byte) : Statement (.res_3_iyd_c d) := rfl
theorem res_3_iyd_d (d : Byte) : Statement (.res_3_iyd_d d) := rfl
theorem res_3_iyd_e (d : Byte) : Statement (.res_3_iyd_e d) := rfl
theorem res_3_iyd_h (d : Byte) : Statement (.res_3_iyd_h d) := rfl
theorem res_3_iyd_l (d : Byte) : Statement (.res_3_iyd_l d) := rfl
theorem res_3_iyd (d : Byte) : Statement (.res_3_iyd d) := rfl
theorem res_3_iyd_a (d : Byte) : Statement (.res_3_iyd_a d) := rfl
theorem res_4_iyd_b (d : Byte) : Statement (.res_4_iyd_b d) := rfl
theorem res_4_iyd_c (d : Byte) : Statement (.res_4_iyd_c d) := rfl
theorem res_4_iyd_d (d : Byte) : Statement (.res_4_iyd_d d) := rfl
theorem res_4_iyd_e (d : Byte) : Statement (.res_4_iyd_e d) := rfl
theorem res_4_iyd_h (d : Byte) : Statement (.res_4_iyd_h d) := rfl
theorem res_4_iyd_l (d : Byte) : Statement (.res_4_iyd_l d) := rfl
theorem res_4_iyd (d : Byte) : Statement (.res_4_iyd d) := rfl
theorem res_4_iyd_a (d : Byte) : Statement (.res_4_iyd_a d) := rfl
theorem res_5_iyd_b (d : Byte) : Statement (.res_5_iyd_b d) := rfl
theorem res_5_iyd_c (d : Byte) : Statement (.res_5_iyd_c d) := rfl
theorem res_5_iyd_d (d : Byte) : Statement (.res_5_iyd_d d) := rfl
theorem res_5_iyd_e (d : Byte) : Statement (.res_5_iyd_e d) := rfl
theorem res_5_iyd_h (d : Byte) : Statement (.res_5_iyd_h d) := rfl
theorem res_5_iyd_l (d : Byte) : Statement (.res_5_iyd_l d) := rfl
theorem res_5_iyd (d : Byte) : Statement (.res_5_iyd d) := rfl
theorem res_5_iyd_a (d : Byte) : Statement (.res_5_iyd_a d) := rfl
theorem res_6_iyd_b (d : Byte) : Statement (.res_6_iyd_b d) := rfl
theorem res_6_iyd_c (d : Byte) : Statement (.res_6_iyd_c d) := rfl
theorem res_6_iyd_d (d : Byte) : Statement (.res_6_iyd_d d) := rfl
theorem res_6_iyd_e (d : Byte) : Statement (.res_6_iyd_e d) := rfl
theorem res_6_iyd_h (d : Byte) : Statement (.res_6_iyd_h d) := rfl
theorem res_6_iyd_l (d : Byte) : Statement (.res_6_iyd_l d) := rfl
theorem res_6_iyd (d : Byte) : Statement (.res_6_iyd d) := rfl
theorem res_6_iyd_a (d : Byte) : Statement (.res_6_iyd_a d) := rfl
theorem res_7_iyd_b (d : Byte) : Statement (.res_7_iyd_b d) := rfl
theorem res_7_iyd_c (d : Byte) : Statement (.res_7_iyd_c d) := rfl
theorem res_7_iyd_d (d : Byte) : Statement (.res_7_iyd_d d) := rfl
theorem res_7_iyd_e (d : Byte) : Statement (.res_7_iyd_e d) := rfl
theorem res_7_iyd_h (d : Byte) : Statement (.res_7_iyd_h d) := rfl
theorem res_7_iyd_l (d : Byte) : Statement (.res_7_iyd_l d) := rfl
theorem res_7_iyd (d : Byte) : Statement (.res_7_iyd d) := rfl
theorem res_7_iyd_a (d : Byte) : Statement (.res_7_iyd_a d) := rfl
theorem set_0_iyd_b (d : Byte) : Statement (.set_0_iyd_b d) := rfl
theorem set_0_iyd_c (d : Byte) : Statement (.set_0_iyd_c d) := rfl
theorem set_0_iyd_d (d : Byte) : Statement (.set_0_iyd_d d) := rfl
theorem set_0_iyd_e (d : Byte) : Statement (.set_0_iyd_e d) := rfl
theorem set_0_iyd_h (d : Byte) : Statement (.set_0_iyd_h d) := rfl
theorem set_0_iyd_l (d : Byte) : Statement (.set_0_iyd_l d) := rfl
theorem set_0_iyd (d : Byte) : Statement (.set_0_iyd d) := rfl
theorem set_0_iyd_a (d : Byte) : Statement (.set_0_iyd_a d) := rfl
theorem set_1_iyd_b (d : Byte) : Statement (.set_1_iyd_b d) := rfl
theorem set_1_iyd_c (d : Byte) : Statement (.set_1_iyd_c d) := rfl
theorem set_1_iyd_d (d : Byte) : Statement (.set_1_iyd_d d) := rfl
theorem set_1_iyd_e (d : Byte) : Statement (.set_1_iyd_e d) := rfl
theorem set_1_iyd_h (d : Byte) : Statement (.set_1_iyd_h d) := rfl
theorem set_1_iyd_l (d : Byte) : Statement (.set_1_iyd_l d) := rfl
theorem set_1_iyd (d : Byte) : Statement (.set_1_iyd d) := rfl
theorem set_1_iyd_a (d : Byte) : Statement (.set_1_iyd_a d) := rfl
theorem set_2_iyd_b (d : Byte) : Statement (.set_2_iyd_b d) := rfl
theorem set_2_iyd_c (d : Byte) : Statement (.set_2_iyd_c d) := rfl
theorem set_2_iyd_d (d : Byte) : Statement (.set_2_iyd_d d) := rfl
theorem set_2_iyd_e (d : Byte) : Statement (.set_2_iyd_e d) := rfl
theorem set_2_iyd_h (d : Byte) : Statement (.set_2_iyd_h d) := rfl
theorem set_2_iyd_l (d : Byte) : Statement (.set_2_iyd_l d) := rfl
theorem set_2_iyd (d : Byte) : Statement (.set_2_iyd d) := rfl
theorem set_2_iyd_a (d : Byte) : Statement (.set_2_iyd_a d) := rfl
theorem set_3_iyd_b (d : Byte) : Statement (.set_3_iyd_b d) := rfl
theorem set_3_iyd_c (d : Byte) : Statement (.set_3_iyd_c d) := rfl
theorem set_3_iyd_d (d : Byte) : Statement (.set_3_iyd_d d) := rfl
theorem set_3_iyd_e (d : Byte) : Statement (.set_3_iyd_e d) := rfl
theorem set_3_iyd_h (d : Byte) : Statement (.set_3_iyd_h d) := rfl
theorem set_3_iyd_l (d : Byte) : Statement (.set_3_iyd_l d) := rfl
theorem set_3_iyd (d : Byte) : Statement (.set_3_iyd d) := rfl
theorem set_3_iyd_a (d : Byte) : Statement (.set_3_iyd_a d) := rfl
theorem set_4_iyd_b (d : Byte) : Statement (.set_4_iyd_b d) := rfl
theorem set_4_iyd_c (d : Byte) : Statement (.set_4_iyd_c d) := rfl
theorem set_4_iyd_d (d : Byte) : Statement (.set_4_iyd_d d) := rfl
theorem set_4_iyd_e (d : Byte) : Statement (.set_4_iyd_e d) := rfl
theorem set_4_iyd_h (d : Byte) : Statement (.set_4_iyd_h d) := rfl
theorem set_4_iyd_l (d : Byte) : Statement (.set_4_iyd_l d) := rfl
theorem set_4_iyd (d : Byte) : Statement (.set_4_iyd d) := rfl
theorem set_4_iyd_a (d : Byte) : Statement (.set_4_iyd_a d) := rfl
theorem set_5_iyd_b (d : Byte) : Statement (.set_5_iyd_b d) := rfl
theorem set_5_iyd_c (d : Byte) : Statement (.set_5_iyd_c d) := rfl
theorem set_5_iyd_d (d : Byte) : Statement (.set_5_iyd_d d) := rfl
theorem set_5_iyd_e (d : Byte) : Statement (.set_5_iyd_e d) := rfl
theorem set_5_iyd_h (d : Byte) : Statement (.set_5_iyd_h d) := rfl
theorem set_5_iyd_l (d : Byte) : Statement (.set_5_iyd_l d) := rfl
theorem set_5_iyd (d : Byte) : Statement (.set_5_iyd d) := rfl
theorem set_5_iyd_a (d : Byte) : Statement (.set_5_iyd_a d) := rfl
theorem set_6_iyd_b (d : Byte) : Statement (.set_6_iyd_b d) := rfl
theorem set_6_iyd_c (d : Byte) : Statement (.set_6_iyd_c d) := rfl
theorem set_6_iyd_d (d : Byte) : Statement (.set_6_iyd_d d) := rfl
theorem set_6_iyd_e (d : Byte) : Statement (.set_6_iyd_e d) := rfl
theorem set_6_iyd_h (d : Byte) : Statement (.set_6_iyd_h d) := rfl
theorem set_6_iyd_l (d : Byte) : Statement (.set_6_iyd_l d) := rfl
theorem set_6_iyd (d : Byte) : Statement (.set_6_iyd d) := rfl
theorem set_6_iyd_a (d : Byte) : Statement (.set_6_iyd_a d) := rfl
theorem set_7_iyd_b (d : Byte) : Statement (.set_7_iyd_b d) := rfl
theorem set_7_iyd_c (d : Byte) : Statement (.set_7_iyd_c d) := rfl
theorem set_7_iyd_d (d : Byte) : Statement (.set_7_iyd_d d) := rfl
theorem set_7_iyd_e (d : Byte) : Statement (.set_7_iyd_e d) := rfl
theorem set_7_iyd_h (d : Byte) : Statement (.set_7_iyd_h d) := rfl
theorem set_7_iyd_l (d : Byte) : Statement (.set_7_iyd_l d) := rfl
theorem set_7_iyd (d : Byte) : Statement (.set_7_iyd d) := rfl
theorem set_7_iyd_a (d : Byte) : Statement (.set_7_iyd_a d) := rfl

end Sys2Proof.Laws.EncodedLength
end

