-- ==== Sys2Proof/Machine/Timing.lean ====
section
/-! DEFINITION. What a step reports (spec/40_engine.md R160; spec/70_reset_and_hazards.md R560, R561): the
T-states and the mnemonic. Both are outputs: no definition of the machine reads them (R50, D23; log
entry 12). -/

namespace Sys2Proof.Machine

/-- Whether the step that runs an instruction from `s` reports its extra T-states. The conditions are
those of R414, R415, R419, R421 and of the repeat tests of R383 to R388 and R460 to R465. -/
def extraHolds (w : ExtraWhen) (s : State) : Bool :=
  match w with
  | .never => false
  | .taken cc => condHolds cc s.f
  | .countB => s.b - 1 != 0
  | .countBc => s.bc - 1 != 0
  | .noMatch => s.bc - 1 != 0 && (sub8 s.a (s.memRead s.hl) false).r != 0

/-- Base plus extra T-states of the step that runs `i` from `s` (R560). -/
def reportedCycles (i : Instr) (s : State) : Nat :=
  i.desc.base + if extraHolds i.desc.extraWhen s then i.desc.extra else 0

/-- The value the step from `s` returns (R160): `none` where the step has none, because the core is
faulted or faults in this step (R163, R501). A halted step reports the NOP (R151). -/
noncomputable def stepReport (undoc : Bool) (s : State) : Option (Nat × String) :=
  match s.fault with
  | some _ => none
  | none =>
    if s.halted then some (4, "NOP")
    else
      match s.fetch undoc with
      | .absent _ => none
      | .ok i => some (reportedCycles i s, i.desc.mnemonic)

end Sys2Proof.Machine
end

