-- ==== Sys2Proof/Tests/Slice0.lean ====
section
/-! SUPPORT. The model's own tests. `test_V…` are vectors of spec/95_test_vectors.md, one step each;
`test_decode_…` are the encodings of spec/opcode_table.json written out with operand bytes;
`witness_…` show states and operands that meet the hypotheses of the statements. -/

open Sys2Proof Sys2Proof.Machine

namespace Sys2Proof.Tests

/-! ### WellFormed -/

theorem test_wellFormed_default : Instr.WellFormed .nop ∧ Instr.WellFormed .neg_ED4C := by decide
theorem test_wellFormed_smoke_ill_formed : Instr.registered false .neg_ED4C = false := by decide
theorem test_wellFormed_always : Instr.registered false .neg = true := by decide
theorem test_decode_unregistered : decodeBytes false [0xED, 0x70] = .absent 0xED70 := by decide
theorem test_decode_truncated : decodeBytes true [0x21, 0x34] = .truncated := by decide
theorem test_decode_repeated_prefix : decodeBytes true [0xDD, 0xDD, 0x21] = .absent 0xDDDD := by decide

/-! ### Decoding, every row -/

/-- Each word decodes, whole, to the instruction beside it. -/
def Decodes : List (List Byte × Instr) → Prop
  | [] => True
  | (w, i) :: rest => decodeBytes true w = .ok i [] ∧ Decodes rest

theorem test_decode_main_00 : Decodes [
  ([0x00], .nop), ([0x01, 0x34, 0x12], .ld_bc_nn 0x1234), ([0x02], .ld_mbc_a), ([0x03], .inc_bc),
  ([0x04], .inc_b), ([0x05], .dec_b), ([0x06, 0x5A], .ld_b_n 0x5A), ([0x07], .rlca),
  ([0x08], .ex_af_afAlt), ([0x09], .add_hl_bc), ([0x0A], .ld_a_mbc), ([0x0B], .dec_bc),
  ([0x0C], .inc_c), ([0x0D], .dec_c), ([0x0E, 0x5A], .ld_c_n 0x5A), ([0x0F], .rrca),
  ([0x10, 0xFE], .djnz_e 0xFE), ([0x11, 0x34, 0x12], .ld_de_nn 0x1234), ([0x12], .ld_mde_a),
  ([0x13], .inc_de), ([0x14], .inc_d), ([0x15], .dec_d), ([0x16, 0x5A], .ld_d_n 0x5A),
  ([0x17], .rla), ([0x18, 0xFE], .jr_e 0xFE), ([0x19], .add_hl_de), ([0x1A], .ld_a_mde),
  ([0x1B], .dec_de), ([0x1C], .inc_e), ([0x1D], .dec_e), ([0x1E, 0x5A], .ld_e_n 0x5A), ([0x1F], .rra)] := by
  repeat' constructor

theorem test_decode_main_20 : Decodes [
  ([0x20, 0xFE], .jr_nz_e 0xFE), ([0x21, 0x34, 0x12], .ld_hl_nn 0x1234),
  ([0x22, 0x34, 0x12], .ld_mnn_hl 0x1234), ([0x23], .inc_hl), ([0x24], .inc_h), ([0x25], .dec_h),
  ([0x26, 0x5A], .ld_h_n 0x5A), ([0x27], .daa), ([0x28, 0xFE], .jr_z_e 0xFE), ([0x29], .add_hl_hl),
  ([0x2A, 0x34, 0x12], .ld_hl_mnn 0x1234), ([0x2B], .dec_hl), ([0x2C], .inc_l), ([0x2D], .dec_l),
  ([0x2E, 0x5A], .ld_l_n 0x5A), ([0x2F], .cpl), ([0x30, 0xFE], .jr_nc_e 0xFE),
  ([0x31, 0x34, 0x12], .ld_sp_nn 0x1234), ([0x32, 0x34, 0x12], .ld_mnn_a 0x1234), ([0x33], .inc_sp),
  ([0x34], .inc_mhl), ([0x35], .dec_mhl), ([0x36, 0x5A], .ld_mhl_n 0x5A), ([0x37], .scf),
  ([0x38, 0xFE], .jr_c_e 0xFE), ([0x39], .add_hl_sp), ([0x3A, 0x34, 0x12], .ld_a_mnn 0x1234),
  ([0x3B], .dec_sp), ([0x3C], .inc_a), ([0x3D], .dec_a), ([0x3E, 0x5A], .ld_a_n 0x5A), ([0x3F], .ccf)] := by
  repeat' constructor

theorem test_decode_main_40 : Decodes [
  ([0x40], .ld_b_b), ([0x41], .ld_b_c), ([0x42], .ld_b_d), ([0x43], .ld_b_e), ([0x44], .ld_b_h),
  ([0x45], .ld_b_l), ([0x46], .ld_b_mhl), ([0x47], .ld_b_a), ([0x48], .ld_c_b), ([0x49], .ld_c_c),
  ([0x4A], .ld_c_d), ([0x4B], .ld_c_e), ([0x4C], .ld_c_h), ([0x4D], .ld_c_l), ([0x4E], .ld_c_mhl),
  ([0x4F], .ld_c_a), ([0x50], .ld_d_b), ([0x51], .ld_d_c), ([0x52], .ld_d_d), ([0x53], .ld_d_e),
  ([0x54], .ld_d_h), ([0x55], .ld_d_l), ([0x56], .ld_d_mhl), ([0x57], .ld_d_a), ([0x58], .ld_e_b),
  ([0x59], .ld_e_c), ([0x5A], .ld_e_d), ([0x5B], .ld_e_e), ([0x5C], .ld_e_h), ([0x5D], .ld_e_l),
  ([0x5E], .ld_e_mhl), ([0x5F], .ld_e_a)] := by
  repeat' constructor

theorem test_decode_main_60 : Decodes [
  ([0x60], .ld_h_b), ([0x61], .ld_h_c), ([0x62], .ld_h_d), ([0x63], .ld_h_e), ([0x64], .ld_h_h),
  ([0x65], .ld_h_l), ([0x66], .ld_h_mhl), ([0x67], .ld_h_a), ([0x68], .ld_l_b), ([0x69], .ld_l_c),
  ([0x6A], .ld_l_d), ([0x6B], .ld_l_e), ([0x6C], .ld_l_h), ([0x6D], .ld_l_l), ([0x6E], .ld_l_mhl),
  ([0x6F], .ld_l_a), ([0x70], .ld_mhl_b), ([0x71], .ld_mhl_c), ([0x72], .ld_mhl_d),
  ([0x73], .ld_mhl_e), ([0x74], .ld_mhl_h), ([0x75], .ld_mhl_l), ([0x76], .halt),
  ([0x77], .ld_mhl_a), ([0x78], .ld_a_b), ([0x79], .ld_a_c), ([0x7A], .ld_a_d), ([0x7B], .ld_a_e),
  ([0x7C], .ld_a_h), ([0x7D], .ld_a_l), ([0x7E], .ld_a_mhl), ([0x7F], .ld_a_a)] := by
  repeat' constructor

theorem test_decode_main_80 : Decodes [
  ([0x80], .add_a_b), ([0x81], .add_a_c), ([0x82], .add_a_d), ([0x83], .add_a_e), ([0x84], .add_a_h),
  ([0x85], .add_a_l), ([0x86], .add_a_mhl), ([0x87], .add_a_a), ([0x88], .adc_a_b),
  ([0x89], .adc_a_c), ([0x8A], .adc_a_d), ([0x8B], .adc_a_e), ([0x8C], .adc_a_h), ([0x8D], .adc_a_l),
  ([0x8E], .adc_a_mhl), ([0x8F], .adc_a_a), ([0x90], .sub_b), ([0x91], .sub_c), ([0x92], .sub_d),
  ([0x93], .sub_e), ([0x94], .sub_h), ([0x95], .sub_l), ([0x96], .sub_mhl), ([0x97], .sub_a),
  ([0x98], .sbc_a_b), ([0x99], .sbc_a_c), ([0x9A], .sbc_a_d), ([0x9B], .sbc_a_e), ([0x9C], .sbc_a_h),
  ([0x9D], .sbc_a_l), ([0x9E], .sbc_a_mhl), ([0x9F], .sbc_a_a)] := by
  repeat' constructor

theorem test_decode_main_A0 : Decodes [
  ([0xA0], .and_b), ([0xA1], .and_c), ([0xA2], .and_d), ([0xA3], .and_e), ([0xA4], .and_h),
  ([0xA5], .and_l), ([0xA6], .and_mhl), ([0xA7], .and_a), ([0xA8], .xor_b), ([0xA9], .xor_c),
  ([0xAA], .xor_d), ([0xAB], .xor_e), ([0xAC], .xor_h), ([0xAD], .xor_l), ([0xAE], .xor_mhl),
  ([0xAF], .xor_a), ([0xB0], .or_b), ([0xB1], .or_c), ([0xB2], .or_d), ([0xB3], .or_e),
  ([0xB4], .or_h), ([0xB5], .or_l), ([0xB6], .or_mhl), ([0xB7], .or_a), ([0xB8], .cp_b),
  ([0xB9], .cp_c), ([0xBA], .cp_d), ([0xBB], .cp_e), ([0xBC], .cp_h), ([0xBD], .cp_l),
  ([0xBE], .cp_mhl), ([0xBF], .cp_a)] := by
  repeat' constructor

theorem test_decode_main_C0 : Decodes [
  ([0xC0], .ret_nz), ([0xC1], .pop_bc), ([0xC2, 0x34, 0x12], .jp_nz_nn 0x1234),
  ([0xC3, 0x34, 0x12], .jp_nn 0x1234), ([0xC4, 0x34, 0x12], .call_nz_nn 0x1234), ([0xC5], .push_bc),
  ([0xC6, 0x5A], .add_a_n 0x5A), ([0xC7], .rst_00), ([0xC8], .ret_z), ([0xC9], .ret),
  ([0xCA, 0x34, 0x12], .jp_z_nn 0x1234), ([0xCB], .prefix_cb),
  ([0xCC, 0x34, 0x12], .call_z_nn 0x1234), ([0xCD, 0x34, 0x12], .call_nn 0x1234),
  ([0xCE, 0x5A], .adc_a_n 0x5A), ([0xCF], .rst_08), ([0xD0], .ret_nc), ([0xD1], .pop_de),
  ([0xD2, 0x34, 0x12], .jp_nc_nn 0x1234), ([0xD3, 0x5A], .out_portN_a 0x5A),
  ([0xD4, 0x34, 0x12], .call_nc_nn 0x1234), ([0xD5], .push_de), ([0xD6, 0x5A], .sub_n 0x5A),
  ([0xD7], .rst_10), ([0xD8], .ret_c), ([0xD9], .exx), ([0xDA, 0x34, 0x12], .jp_c_nn 0x1234),
  ([0xDB, 0x5A], .in_a_portN 0x5A), ([0xDC, 0x34, 0x12], .call_c_nn 0x1234), ([0xDD], .prefix_dd),
  ([0xDE, 0x5A], .sbc_a_n 0x5A), ([0xDF], .rst_18)] := by
  repeat' constructor

theorem test_decode_main_E0 : Decodes [
  ([0xE0], .ret_po), ([0xE1], .pop_hl), ([0xE2, 0x34, 0x12], .jp_po_nn 0x1234), ([0xE3], .ex_msp_hl),
  ([0xE4, 0x34, 0x12], .call_po_nn 0x1234), ([0xE5], .push_hl), ([0xE6, 0x5A], .and_n 0x5A),
  ([0xE7], .rst_20), ([0xE8], .ret_pe), ([0xE9], .jp_hl), ([0xEA, 0x34, 0x12], .jp_pe_nn 0x1234),
  ([0xEB], .ex_de_hl), ([0xEC, 0x34, 0x12], .call_pe_nn 0x1234), ([0xED], .prefix_ed),
  ([0xEE, 0x5A], .xor_n 0x5A), ([0xEF], .rst_28), ([0xF0], .ret_p), ([0xF1], .pop_af),
  ([0xF2, 0x34, 0x12], .jp_p_nn 0x1234), ([0xF3], .di), ([0xF4, 0x34, 0x12], .call_p_nn 0x1234),
  ([0xF5], .push_af), ([0xF6, 0x5A], .or_n 0x5A), ([0xF7], .rst_30), ([0xF8], .ret_m),
  ([0xF9], .ld_sp_hl), ([0xFA, 0x34, 0x12], .jp_m_nn 0x1234), ([0xFB], .ei),
  ([0xFC, 0x34, 0x12], .call_m_nn 0x1234), ([0xFD], .prefix_fd), ([0xFE, 0x5A], .cp_n 0x5A),
  ([0xFF], .rst_38)] := by
  repeat' constructor

theorem test_decode_CB_00 : Decodes [
  ([0xCB, 0x00], .rlc_b), ([0xCB, 0x01], .rlc_c), ([0xCB, 0x02], .rlc_d), ([0xCB, 0x03], .rlc_e),
  ([0xCB, 0x04], .rlc_h), ([0xCB, 0x05], .rlc_l), ([0xCB, 0x06], .rlc_mhl), ([0xCB, 0x07], .rlc_a),
  ([0xCB, 0x08], .rrc_b), ([0xCB, 0x09], .rrc_c), ([0xCB, 0x0A], .rrc_d), ([0xCB, 0x0B], .rrc_e),
  ([0xCB, 0x0C], .rrc_h), ([0xCB, 0x0D], .rrc_l), ([0xCB, 0x0E], .rrc_mhl), ([0xCB, 0x0F], .rrc_a),
  ([0xCB, 0x10], .rl_b), ([0xCB, 0x11], .rl_c), ([0xCB, 0x12], .rl_d), ([0xCB, 0x13], .rl_e),
  ([0xCB, 0x14], .rl_h), ([0xCB, 0x15], .rl_l), ([0xCB, 0x16], .rl_mhl), ([0xCB, 0x17], .rl_a),
  ([0xCB, 0x18], .rr_b), ([0xCB, 0x19], .rr_c), ([0xCB, 0x1A], .rr_d), ([0xCB, 0x1B], .rr_e),
  ([0xCB, 0x1C], .rr_h), ([0xCB, 0x1D], .rr_l), ([0xCB, 0x1E], .rr_mhl), ([0xCB, 0x1F], .rr_a)] := by
  repeat' constructor

theorem test_decode_CB_20 : Decodes [
  ([0xCB, 0x20], .sla_b), ([0xCB, 0x21], .sla_c), ([0xCB, 0x22], .sla_d), ([0xCB, 0x23], .sla_e),
  ([0xCB, 0x24], .sla_h), ([0xCB, 0x25], .sla_l), ([0xCB, 0x26], .sla_mhl), ([0xCB, 0x27], .sla_a),
  ([0xCB, 0x28], .sra_b), ([0xCB, 0x29], .sra_c), ([0xCB, 0x2A], .sra_d), ([0xCB, 0x2B], .sra_e),
  ([0xCB, 0x2C], .sra_h), ([0xCB, 0x2D], .sra_l), ([0xCB, 0x2E], .sra_mhl), ([0xCB, 0x2F], .sra_a),
  ([0xCB, 0x30], .sll_b), ([0xCB, 0x31], .sll_c), ([0xCB, 0x32], .sll_d), ([0xCB, 0x33], .sll_e),
  ([0xCB, 0x34], .sll_h), ([0xCB, 0x35], .sll_l), ([0xCB, 0x36], .sll_mhl), ([0xCB, 0x37], .sll_a),
  ([0xCB, 0x38], .srl_b), ([0xCB, 0x39], .srl_c), ([0xCB, 0x3A], .srl_d), ([0xCB, 0x3B], .srl_e),
  ([0xCB, 0x3C], .srl_h), ([0xCB, 0x3D], .srl_l), ([0xCB, 0x3E], .srl_mhl), ([0xCB, 0x3F], .srl_a)] := by
  repeat' constructor

theorem test_decode_CB_40 : Decodes [
  ([0xCB, 0x40], .bit_0_b), ([0xCB, 0x41], .bit_0_c), ([0xCB, 0x42], .bit_0_d),
  ([0xCB, 0x43], .bit_0_e), ([0xCB, 0x44], .bit_0_h), ([0xCB, 0x45], .bit_0_l),
  ([0xCB, 0x46], .bit_0_mhl), ([0xCB, 0x47], .bit_0_a), ([0xCB, 0x48], .bit_1_b),
  ([0xCB, 0x49], .bit_1_c), ([0xCB, 0x4A], .bit_1_d), ([0xCB, 0x4B], .bit_1_e),
  ([0xCB, 0x4C], .bit_1_h), ([0xCB, 0x4D], .bit_1_l), ([0xCB, 0x4E], .bit_1_mhl),
  ([0xCB, 0x4F], .bit_1_a), ([0xCB, 0x50], .bit_2_b), ([0xCB, 0x51], .bit_2_c),
  ([0xCB, 0x52], .bit_2_d), ([0xCB, 0x53], .bit_2_e), ([0xCB, 0x54], .bit_2_h),
  ([0xCB, 0x55], .bit_2_l), ([0xCB, 0x56], .bit_2_mhl), ([0xCB, 0x57], .bit_2_a),
  ([0xCB, 0x58], .bit_3_b), ([0xCB, 0x59], .bit_3_c), ([0xCB, 0x5A], .bit_3_d),
  ([0xCB, 0x5B], .bit_3_e), ([0xCB, 0x5C], .bit_3_h), ([0xCB, 0x5D], .bit_3_l),
  ([0xCB, 0x5E], .bit_3_mhl), ([0xCB, 0x5F], .bit_3_a)] := by
  repeat' constructor

theorem test_decode_CB_60 : Decodes [
  ([0xCB, 0x60], .bit_4_b), ([0xCB, 0x61], .bit_4_c), ([0xCB, 0x62], .bit_4_d),
  ([0xCB, 0x63], .bit_4_e), ([0xCB, 0x64], .bit_4_h), ([0xCB, 0x65], .bit_4_l),
  ([0xCB, 0x66], .bit_4_mhl), ([0xCB, 0x67], .bit_4_a), ([0xCB, 0x68], .bit_5_b),
  ([0xCB, 0x69], .bit_5_c), ([0xCB, 0x6A], .bit_5_d), ([0xCB, 0x6B], .bit_5_e),
  ([0xCB, 0x6C], .bit_5_h), ([0xCB, 0x6D], .bit_5_l), ([0xCB, 0x6E], .bit_5_mhl),
  ([0xCB, 0x6F], .bit_5_a), ([0xCB, 0x70], .bit_6_b), ([0xCB, 0x71], .bit_6_c),
  ([0xCB, 0x72], .bit_6_d), ([0xCB, 0x73], .bit_6_e), ([0xCB, 0x74], .bit_6_h),
  ([0xCB, 0x75], .bit_6_l), ([0xCB, 0x76], .bit_6_mhl), ([0xCB, 0x77], .bit_6_a),
  ([0xCB, 0x78], .bit_7_b), ([0xCB, 0x79], .bit_7_c), ([0xCB, 0x7A], .bit_7_d),
  ([0xCB, 0x7B], .bit_7_e), ([0xCB, 0x7C], .bit_7_h), ([0xCB, 0x7D], .bit_7_l),
  ([0xCB, 0x7E], .bit_7_mhl), ([0xCB, 0x7F], .bit_7_a)] := by
  repeat' constructor

theorem test_decode_CB_80 : Decodes [
  ([0xCB, 0x80], .res_0_b), ([0xCB, 0x81], .res_0_c), ([0xCB, 0x82], .res_0_d),
  ([0xCB, 0x83], .res_0_e), ([0xCB, 0x84], .res_0_h), ([0xCB, 0x85], .res_0_l),
  ([0xCB, 0x86], .res_0_mhl), ([0xCB, 0x87], .res_0_a), ([0xCB, 0x88], .res_1_b),
  ([0xCB, 0x89], .res_1_c), ([0xCB, 0x8A], .res_1_d), ([0xCB, 0x8B], .res_1_e),
  ([0xCB, 0x8C], .res_1_h), ([0xCB, 0x8D], .res_1_l), ([0xCB, 0x8E], .res_1_mhl),
  ([0xCB, 0x8F], .res_1_a), ([0xCB, 0x90], .res_2_b), ([0xCB, 0x91], .res_2_c),
  ([0xCB, 0x92], .res_2_d), ([0xCB, 0x93], .res_2_e), ([0xCB, 0x94], .res_2_h),
  ([0xCB, 0x95], .res_2_l), ([0xCB, 0x96], .res_2_mhl), ([0xCB, 0x97], .res_2_a),
  ([0xCB, 0x98], .res_3_b), ([0xCB, 0x99], .res_3_c), ([0xCB, 0x9A], .res_3_d),
  ([0xCB, 0x9B], .res_3_e), ([0xCB, 0x9C], .res_3_h), ([0xCB, 0x9D], .res_3_l),
  ([0xCB, 0x9E], .res_3_mhl), ([0xCB, 0x9F], .res_3_a)] := by
  repeat' constructor

theorem test_decode_CB_A0 : Decodes [
  ([0xCB, 0xA0], .res_4_b), ([0xCB, 0xA1], .res_4_c), ([0xCB, 0xA2], .res_4_d),
  ([0xCB, 0xA3], .res_4_e), ([0xCB, 0xA4], .res_4_h), ([0xCB, 0xA5], .res_4_l),
  ([0xCB, 0xA6], .res_4_mhl), ([0xCB, 0xA7], .res_4_a), ([0xCB, 0xA8], .res_5_b),
  ([0xCB, 0xA9], .res_5_c), ([0xCB, 0xAA], .res_5_d), ([0xCB, 0xAB], .res_5_e),
  ([0xCB, 0xAC], .res_5_h), ([0xCB, 0xAD], .res_5_l), ([0xCB, 0xAE], .res_5_mhl),
  ([0xCB, 0xAF], .res_5_a), ([0xCB, 0xB0], .res_6_b), ([0xCB, 0xB1], .res_6_c),
  ([0xCB, 0xB2], .res_6_d), ([0xCB, 0xB3], .res_6_e), ([0xCB, 0xB4], .res_6_h),
  ([0xCB, 0xB5], .res_6_l), ([0xCB, 0xB6], .res_6_mhl), ([0xCB, 0xB7], .res_6_a),
  ([0xCB, 0xB8], .res_7_b), ([0xCB, 0xB9], .res_7_c), ([0xCB, 0xBA], .res_7_d),
  ([0xCB, 0xBB], .res_7_e), ([0xCB, 0xBC], .res_7_h), ([0xCB, 0xBD], .res_7_l),
  ([0xCB, 0xBE], .res_7_mhl), ([0xCB, 0xBF], .res_7_a)] := by
  repeat' constructor

theorem test_decode_CB_C0 : Decodes [
  ([0xCB, 0xC0], .set_0_b), ([0xCB, 0xC1], .set_0_c), ([0xCB, 0xC2], .set_0_d),
  ([0xCB, 0xC3], .set_0_e), ([0xCB, 0xC4], .set_0_h), ([0xCB, 0xC5], .set_0_l),
  ([0xCB, 0xC6], .set_0_mhl), ([0xCB, 0xC7], .set_0_a), ([0xCB, 0xC8], .set_1_b),
  ([0xCB, 0xC9], .set_1_c), ([0xCB, 0xCA], .set_1_d), ([0xCB, 0xCB], .set_1_e),
  ([0xCB, 0xCC], .set_1_h), ([0xCB, 0xCD], .set_1_l), ([0xCB, 0xCE], .set_1_mhl),
  ([0xCB, 0xCF], .set_1_a), ([0xCB, 0xD0], .set_2_b), ([0xCB, 0xD1], .set_2_c),
  ([0xCB, 0xD2], .set_2_d), ([0xCB, 0xD3], .set_2_e), ([0xCB, 0xD4], .set_2_h),
  ([0xCB, 0xD5], .set_2_l), ([0xCB, 0xD6], .set_2_mhl), ([0xCB, 0xD7], .set_2_a),
  ([0xCB, 0xD8], .set_3_b), ([0xCB, 0xD9], .set_3_c), ([0xCB, 0xDA], .set_3_d),
  ([0xCB, 0xDB], .set_3_e), ([0xCB, 0xDC], .set_3_h), ([0xCB, 0xDD], .set_3_l),
  ([0xCB, 0xDE], .set_3_mhl), ([0xCB, 0xDF], .set_3_a)] := by
  repeat' constructor

theorem test_decode_CB_E0 : Decodes [
  ([0xCB, 0xE0], .set_4_b), ([0xCB, 0xE1], .set_4_c), ([0xCB, 0xE2], .set_4_d),
  ([0xCB, 0xE3], .set_4_e), ([0xCB, 0xE4], .set_4_h), ([0xCB, 0xE5], .set_4_l),
  ([0xCB, 0xE6], .set_4_mhl), ([0xCB, 0xE7], .set_4_a), ([0xCB, 0xE8], .set_5_b),
  ([0xCB, 0xE9], .set_5_c), ([0xCB, 0xEA], .set_5_d), ([0xCB, 0xEB], .set_5_e),
  ([0xCB, 0xEC], .set_5_h), ([0xCB, 0xED], .set_5_l), ([0xCB, 0xEE], .set_5_mhl),
  ([0xCB, 0xEF], .set_5_a), ([0xCB, 0xF0], .set_6_b), ([0xCB, 0xF1], .set_6_c),
  ([0xCB, 0xF2], .set_6_d), ([0xCB, 0xF3], .set_6_e), ([0xCB, 0xF4], .set_6_h),
  ([0xCB, 0xF5], .set_6_l), ([0xCB, 0xF6], .set_6_mhl), ([0xCB, 0xF7], .set_6_a),
  ([0xCB, 0xF8], .set_7_b), ([0xCB, 0xF9], .set_7_c), ([0xCB, 0xFA], .set_7_d),
  ([0xCB, 0xFB], .set_7_e), ([0xCB, 0xFC], .set_7_h), ([0xCB, 0xFD], .set_7_l),
  ([0xCB, 0xFE], .set_7_mhl), ([0xCB, 0xFF], .set_7_a)] := by
  repeat' constructor

theorem test_decode_ED_40 : Decodes [
  ([0xED, 0x40], .in_b_portC), ([0xED, 0x41], .out_portC_b), ([0xED, 0x42], .sbc_hl_bc),
  ([0xED, 0x43, 0x34, 0x12], .ld_mnn_bc 0x1234), ([0xED, 0x44], .neg), ([0xED, 0x45], .retn),
  ([0xED, 0x46], .im_0), ([0xED, 0x47], .ld_i_a), ([0xED, 0x48], .in_c_portC),
  ([0xED, 0x49], .out_portC_c), ([0xED, 0x4A], .adc_hl_bc),
  ([0xED, 0x4B, 0x34, 0x12], .ld_bc_mnn 0x1234), ([0xED, 0x4C], .neg_ED4C), ([0xED, 0x4D], .reti),
  ([0xED, 0x4E], .im_0_ED4E), ([0xED, 0x4F], .ld_r_a), ([0xED, 0x50], .in_d_portC),
  ([0xED, 0x51], .out_portC_d), ([0xED, 0x52], .sbc_hl_de),
  ([0xED, 0x53, 0x34, 0x12], .ld_mnn_de 0x1234), ([0xED, 0x54], .neg_ED54),
  ([0xED, 0x55], .retn_ED55), ([0xED, 0x56], .im_1), ([0xED, 0x57], .ld_a_i),
  ([0xED, 0x58], .in_e_portC), ([0xED, 0x59], .out_portC_e), ([0xED, 0x5A], .adc_hl_de),
  ([0xED, 0x5B, 0x34, 0x12], .ld_de_mnn 0x1234), ([0xED, 0x5C], .neg_ED5C),
  ([0xED, 0x5D], .retn_ED5D), ([0xED, 0x5E], .im_2), ([0xED, 0x5F], .ld_a_r)] := by
  repeat' constructor

theorem test_decode_ED_60 : Decodes [
  ([0xED, 0x60], .in_h_portC), ([0xED, 0x61], .out_portC_h), ([0xED, 0x62], .sbc_hl_hl),
  ([0xED, 0x63, 0x34, 0x12], .ld_mnn_hl_ED63 0x1234), ([0xED, 0x64], .neg_ED64),
  ([0xED, 0x65], .retn_ED65), ([0xED, 0x66], .im_0_ED66), ([0xED, 0x67], .rrd),
  ([0xED, 0x68], .in_l_portC), ([0xED, 0x69], .out_portC_l), ([0xED, 0x6A], .adc_hl_hl),
  ([0xED, 0x6B, 0x34, 0x12], .ld_hl_mnn_ED6B 0x1234), ([0xED, 0x6C], .neg_ED6C),
  ([0xED, 0x6D], .retn_ED6D), ([0xED, 0x6E], .im_0_ED6E), ([0xED, 0x6F], .rld),
  ([0xED, 0x70], .in_portC), ([0xED, 0x71], .out_portC_0), ([0xED, 0x72], .sbc_hl_sp),
  ([0xED, 0x73, 0x34, 0x12], .ld_mnn_sp 0x1234), ([0xED, 0x74], .neg_ED74),
  ([0xED, 0x75], .retn_ED75), ([0xED, 0x76], .im_1_ED76), ([0xED, 0x78], .in_a_portC),
  ([0xED, 0x79], .out_portC_a), ([0xED, 0x7A], .adc_hl_sp),
  ([0xED, 0x7B, 0x34, 0x12], .ld_sp_mnn 0x1234), ([0xED, 0x7C], .neg_ED7C),
  ([0xED, 0x7D], .retn_ED7D), ([0xED, 0x7E], .im_2_ED7E)] := by
  repeat' constructor

theorem test_decode_ED_A0 : Decodes [
  ([0xED, 0xA0], .ldi), ([0xED, 0xA1], .cpi), ([0xED, 0xA2], .ini), ([0xED, 0xA3], .outi),
  ([0xED, 0xA8], .ldd), ([0xED, 0xA9], .cpd), ([0xED, 0xAA], .ind), ([0xED, 0xAB], .outd),
  ([0xED, 0xB0], .ldir), ([0xED, 0xB1], .cpir), ([0xED, 0xB2], .inir), ([0xED, 0xB3], .otir),
  ([0xED, 0xB8], .lddr), ([0xED, 0xB9], .cpdr), ([0xED, 0xBA], .indr), ([0xED, 0xBB], .otdr)] := by
  repeat' constructor

theorem test_decode_DD_00 : Decodes [
  ([0xDD, 0x09], .add_ix_bc), ([0xDD, 0x19], .add_ix_de)] := by
  repeat' constructor

theorem test_decode_DD_20 : Decodes [
  ([0xDD, 0x21, 0x34, 0x12], .ld_ix_nn 0x1234), ([0xDD, 0x22, 0x34, 0x12], .ld_mnn_ix 0x1234),
  ([0xDD, 0x23], .inc_ix), ([0xDD, 0x24], .inc_ixh), ([0xDD, 0x25], .dec_ixh),
  ([0xDD, 0x26, 0x5A], .ld_ixh_n 0x5A), ([0xDD, 0x29], .add_ix_ix),
  ([0xDD, 0x2A, 0x34, 0x12], .ld_ix_mnn 0x1234), ([0xDD, 0x2B], .dec_ix), ([0xDD, 0x2C], .inc_ixl),
  ([0xDD, 0x2D], .dec_ixl), ([0xDD, 0x2E, 0x5A], .ld_ixl_n 0x5A),
  ([0xDD, 0x34, 0x85], .inc_ixd 0x85), ([0xDD, 0x35, 0x85], .dec_ixd 0x85),
  ([0xDD, 0x36, 0x85, 0x5A], .ld_ixd_n 0x85 0x5A), ([0xDD, 0x39], .add_ix_sp)] := by
  repeat' constructor

theorem test_decode_DD_40 : Decodes [
  ([0xDD, 0x44], .ld_b_ixh), ([0xDD, 0x45], .ld_b_ixl), ([0xDD, 0x46, 0x85], .ld_b_ixd 0x85),
  ([0xDD, 0x4C], .ld_c_ixh), ([0xDD, 0x4D], .ld_c_ixl), ([0xDD, 0x4E, 0x85], .ld_c_ixd 0x85),
  ([0xDD, 0x54], .ld_d_ixh), ([0xDD, 0x55], .ld_d_ixl), ([0xDD, 0x56, 0x85], .ld_d_ixd 0x85),
  ([0xDD, 0x5C], .ld_e_ixh), ([0xDD, 0x5D], .ld_e_ixl), ([0xDD, 0x5E, 0x85], .ld_e_ixd 0x85)] := by
  repeat' constructor

theorem test_decode_DD_60 : Decodes [
  ([0xDD, 0x60], .ld_ixh_b), ([0xDD, 0x61], .ld_ixh_c), ([0xDD, 0x62], .ld_ixh_d),
  ([0xDD, 0x63], .ld_ixh_e), ([0xDD, 0x64], .ld_ixh_ixh), ([0xDD, 0x65], .ld_ixh_ixl),
  ([0xDD, 0x66, 0x85], .ld_h_ixd 0x85), ([0xDD, 0x67], .ld_ixh_a), ([0xDD, 0x68], .ld_ixl_b),
  ([0xDD, 0x69], .ld_ixl_c), ([0xDD, 0x6A], .ld_ixl_d), ([0xDD, 0x6B], .ld_ixl_e),
  ([0xDD, 0x6C], .ld_ixl_ixh), ([0xDD, 0x6D], .ld_ixl_ixl), ([0xDD, 0x6E, 0x85], .ld_l_ixd 0x85),
  ([0xDD, 0x6F], .ld_ixl_a), ([0xDD, 0x70, 0x85], .ld_ixd_b 0x85),
  ([0xDD, 0x71, 0x85], .ld_ixd_c 0x85), ([0xDD, 0x72, 0x85], .ld_ixd_d 0x85),
  ([0xDD, 0x73, 0x85], .ld_ixd_e 0x85), ([0xDD, 0x74, 0x85], .ld_ixd_h 0x85),
  ([0xDD, 0x75, 0x85], .ld_ixd_l 0x85), ([0xDD, 0x77, 0x85], .ld_ixd_a 0x85),
  ([0xDD, 0x7C], .ld_a_ixh), ([0xDD, 0x7D], .ld_a_ixl), ([0xDD, 0x7E, 0x85], .ld_a_ixd 0x85)] := by
  repeat' constructor

theorem test_decode_DD_80 : Decodes [
  ([0xDD, 0x84], .add_a_ixh), ([0xDD, 0x85], .add_a_ixl), ([0xDD, 0x86, 0x85], .add_a_ixd 0x85),
  ([0xDD, 0x8C], .adc_a_ixh), ([0xDD, 0x8D], .adc_a_ixl), ([0xDD, 0x8E, 0x85], .adc_a_ixd 0x85),
  ([0xDD, 0x94], .sub_ixh), ([0xDD, 0x95], .sub_ixl), ([0xDD, 0x96, 0x85], .sub_ixd 0x85),
  ([0xDD, 0x9C], .sbc_a_ixh), ([0xDD, 0x9D], .sbc_a_ixl), ([0xDD, 0x9E, 0x85], .sbc_a_ixd 0x85)] := by
  repeat' constructor

theorem test_decode_DD_A0 : Decodes [
  ([0xDD, 0xA4], .and_ixh), ([0xDD, 0xA5], .and_ixl), ([0xDD, 0xA6, 0x85], .and_ixd 0x85),
  ([0xDD, 0xAC], .xor_ixh), ([0xDD, 0xAD], .xor_ixl), ([0xDD, 0xAE, 0x85], .xor_ixd 0x85),
  ([0xDD, 0xB4], .or_ixh), ([0xDD, 0xB5], .or_ixl), ([0xDD, 0xB6, 0x85], .or_ixd 0x85),
  ([0xDD, 0xBC], .cp_ixh), ([0xDD, 0xBD], .cp_ixl), ([0xDD, 0xBE, 0x85], .cp_ixd 0x85)] := by
  repeat' constructor

theorem test_decode_DD_E0 : Decodes [
  ([0xDD, 0xE1], .pop_ix), ([0xDD, 0xE3], .ex_msp_ix), ([0xDD, 0xE5], .push_ix),
  ([0xDD, 0xE9], .jp_ix), ([0xDD, 0xF9], .ld_sp_ix)] := by
  repeat' constructor

theorem test_decode_DDCB_00 : Decodes [
  ([0xDD, 0xCB, 0x85, 0x00], .rlc_ixd_b 0x85), ([0xDD, 0xCB, 0x85, 0x01], .rlc_ixd_c 0x85),
  ([0xDD, 0xCB, 0x85, 0x02], .rlc_ixd_d 0x85), ([0xDD, 0xCB, 0x85, 0x03], .rlc_ixd_e 0x85),
  ([0xDD, 0xCB, 0x85, 0x04], .rlc_ixd_h 0x85), ([0xDD, 0xCB, 0x85, 0x05], .rlc_ixd_l 0x85),
  ([0xDD, 0xCB, 0x85, 0x06], .rlc_ixd 0x85), ([0xDD, 0xCB, 0x85, 0x07], .rlc_ixd_a 0x85),
  ([0xDD, 0xCB, 0x85, 0x08], .rrc_ixd_b 0x85), ([0xDD, 0xCB, 0x85, 0x09], .rrc_ixd_c 0x85),
  ([0xDD, 0xCB, 0x85, 0x0A], .rrc_ixd_d 0x85), ([0xDD, 0xCB, 0x85, 0x0B], .rrc_ixd_e 0x85),
  ([0xDD, 0xCB, 0x85, 0x0C], .rrc_ixd_h 0x85), ([0xDD, 0xCB, 0x85, 0x0D], .rrc_ixd_l 0x85),
  ([0xDD, 0xCB, 0x85, 0x0E], .rrc_ixd 0x85), ([0xDD, 0xCB, 0x85, 0x0F], .rrc_ixd_a 0x85),
  ([0xDD, 0xCB, 0x85, 0x10], .rl_ixd_b 0x85), ([0xDD, 0xCB, 0x85, 0x11], .rl_ixd_c 0x85),
  ([0xDD, 0xCB, 0x85, 0x12], .rl_ixd_d 0x85), ([0xDD, 0xCB, 0x85, 0x13], .rl_ixd_e 0x85),
  ([0xDD, 0xCB, 0x85, 0x14], .rl_ixd_h 0x85), ([0xDD, 0xCB, 0x85, 0x15], .rl_ixd_l 0x85),
  ([0xDD, 0xCB, 0x85, 0x16], .rl_ixd 0x85), ([0xDD, 0xCB, 0x85, 0x17], .rl_ixd_a 0x85),
  ([0xDD, 0xCB, 0x85, 0x18], .rr_ixd_b 0x85), ([0xDD, 0xCB, 0x85, 0x19], .rr_ixd_c 0x85),
  ([0xDD, 0xCB, 0x85, 0x1A], .rr_ixd_d 0x85), ([0xDD, 0xCB, 0x85, 0x1B], .rr_ixd_e 0x85),
  ([0xDD, 0xCB, 0x85, 0x1C], .rr_ixd_h 0x85), ([0xDD, 0xCB, 0x85, 0x1D], .rr_ixd_l 0x85),
  ([0xDD, 0xCB, 0x85, 0x1E], .rr_ixd 0x85), ([0xDD, 0xCB, 0x85, 0x1F], .rr_ixd_a 0x85)] := by
  repeat' constructor

theorem test_decode_DDCB_20 : Decodes [
  ([0xDD, 0xCB, 0x85, 0x20], .sla_ixd_b 0x85), ([0xDD, 0xCB, 0x85, 0x21], .sla_ixd_c 0x85),
  ([0xDD, 0xCB, 0x85, 0x22], .sla_ixd_d 0x85), ([0xDD, 0xCB, 0x85, 0x23], .sla_ixd_e 0x85),
  ([0xDD, 0xCB, 0x85, 0x24], .sla_ixd_h 0x85), ([0xDD, 0xCB, 0x85, 0x25], .sla_ixd_l 0x85),
  ([0xDD, 0xCB, 0x85, 0x26], .sla_ixd 0x85), ([0xDD, 0xCB, 0x85, 0x27], .sla_ixd_a 0x85),
  ([0xDD, 0xCB, 0x85, 0x28], .sra_ixd_b 0x85), ([0xDD, 0xCB, 0x85, 0x29], .sra_ixd_c 0x85),
  ([0xDD, 0xCB, 0x85, 0x2A], .sra_ixd_d 0x85), ([0xDD, 0xCB, 0x85, 0x2B], .sra_ixd_e 0x85),
  ([0xDD, 0xCB, 0x85, 0x2C], .sra_ixd_h 0x85), ([0xDD, 0xCB, 0x85, 0x2D], .sra_ixd_l 0x85),
  ([0xDD, 0xCB, 0x85, 0x2E], .sra_ixd 0x85), ([0xDD, 0xCB, 0x85, 0x2F], .sra_ixd_a 0x85),
  ([0xDD, 0xCB, 0x85, 0x30], .sll_ixd_b 0x85), ([0xDD, 0xCB, 0x85, 0x31], .sll_ixd_c 0x85),
  ([0xDD, 0xCB, 0x85, 0x32], .sll_ixd_d 0x85), ([0xDD, 0xCB, 0x85, 0x33], .sll_ixd_e 0x85),
  ([0xDD, 0xCB, 0x85, 0x34], .sll_ixd_h 0x85), ([0xDD, 0xCB, 0x85, 0x35], .sll_ixd_l 0x85),
  ([0xDD, 0xCB, 0x85, 0x36], .sll_ixd 0x85), ([0xDD, 0xCB, 0x85, 0x37], .sll_ixd_a 0x85),
  ([0xDD, 0xCB, 0x85, 0x38], .srl_ixd_b 0x85), ([0xDD, 0xCB, 0x85, 0x39], .srl_ixd_c 0x85),
  ([0xDD, 0xCB, 0x85, 0x3A], .srl_ixd_d 0x85), ([0xDD, 0xCB, 0x85, 0x3B], .srl_ixd_e 0x85),
  ([0xDD, 0xCB, 0x85, 0x3C], .srl_ixd_h 0x85), ([0xDD, 0xCB, 0x85, 0x3D], .srl_ixd_l 0x85),
  ([0xDD, 0xCB, 0x85, 0x3E], .srl_ixd 0x85), ([0xDD, 0xCB, 0x85, 0x3F], .srl_ixd_a 0x85)] := by
  repeat' constructor

theorem test_decode_DDCB_40 : Decodes [
  ([0xDD, 0xCB, 0x85, 0x40], .bit_0_ixd_z0 0x85), ([0xDD, 0xCB, 0x85, 0x41], .bit_0_ixd_z1 0x85),
  ([0xDD, 0xCB, 0x85, 0x42], .bit_0_ixd_z2 0x85), ([0xDD, 0xCB, 0x85, 0x43], .bit_0_ixd_z3 0x85),
  ([0xDD, 0xCB, 0x85, 0x44], .bit_0_ixd_z4 0x85), ([0xDD, 0xCB, 0x85, 0x45], .bit_0_ixd_z5 0x85),
  ([0xDD, 0xCB, 0x85, 0x46], .bit_0_ixd 0x85), ([0xDD, 0xCB, 0x85, 0x47], .bit_0_ixd_z7 0x85),
  ([0xDD, 0xCB, 0x85, 0x48], .bit_1_ixd_z0 0x85), ([0xDD, 0xCB, 0x85, 0x49], .bit_1_ixd_z1 0x85),
  ([0xDD, 0xCB, 0x85, 0x4A], .bit_1_ixd_z2 0x85), ([0xDD, 0xCB, 0x85, 0x4B], .bit_1_ixd_z3 0x85),
  ([0xDD, 0xCB, 0x85, 0x4C], .bit_1_ixd_z4 0x85), ([0xDD, 0xCB, 0x85, 0x4D], .bit_1_ixd_z5 0x85),
  ([0xDD, 0xCB, 0x85, 0x4E], .bit_1_ixd 0x85), ([0xDD, 0xCB, 0x85, 0x4F], .bit_1_ixd_z7 0x85),
  ([0xDD, 0xCB, 0x85, 0x50], .bit_2_ixd_z0 0x85), ([0xDD, 0xCB, 0x85, 0x51], .bit_2_ixd_z1 0x85),
  ([0xDD, 0xCB, 0x85, 0x52], .bit_2_ixd_z2 0x85), ([0xDD, 0xCB, 0x85, 0x53], .bit_2_ixd_z3 0x85),
  ([0xDD, 0xCB, 0x85, 0x54], .bit_2_ixd_z4 0x85), ([0xDD, 0xCB, 0x85, 0x55], .bit_2_ixd_z5 0x85),
  ([0xDD, 0xCB, 0x85, 0x56], .bit_2_ixd 0x85), ([0xDD, 0xCB, 0x85, 0x57], .bit_2_ixd_z7 0x85),
  ([0xDD, 0xCB, 0x85, 0x58], .bit_3_ixd_z0 0x85), ([0xDD, 0xCB, 0x85, 0x59], .bit_3_ixd_z1 0x85),
  ([0xDD, 0xCB, 0x85, 0x5A], .bit_3_ixd_z2 0x85), ([0xDD, 0xCB, 0x85, 0x5B], .bit_3_ixd_z3 0x85),
  ([0xDD, 0xCB, 0x85, 0x5C], .bit_3_ixd_z4 0x85), ([0xDD, 0xCB, 0x85, 0x5D], .bit_3_ixd_z5 0x85),
  ([0xDD, 0xCB, 0x85, 0x5E], .bit_3_ixd 0x85), ([0xDD, 0xCB, 0x85, 0x5F], .bit_3_ixd_z7 0x85)] := by
  repeat' constructor

theorem test_decode_DDCB_60 : Decodes [
  ([0xDD, 0xCB, 0x85, 0x60], .bit_4_ixd_z0 0x85), ([0xDD, 0xCB, 0x85, 0x61], .bit_4_ixd_z1 0x85),
  ([0xDD, 0xCB, 0x85, 0x62], .bit_4_ixd_z2 0x85), ([0xDD, 0xCB, 0x85, 0x63], .bit_4_ixd_z3 0x85),
  ([0xDD, 0xCB, 0x85, 0x64], .bit_4_ixd_z4 0x85), ([0xDD, 0xCB, 0x85, 0x65], .bit_4_ixd_z5 0x85),
  ([0xDD, 0xCB, 0x85, 0x66], .bit_4_ixd 0x85), ([0xDD, 0xCB, 0x85, 0x67], .bit_4_ixd_z7 0x85),
  ([0xDD, 0xCB, 0x85, 0x68], .bit_5_ixd_z0 0x85), ([0xDD, 0xCB, 0x85, 0x69], .bit_5_ixd_z1 0x85),
  ([0xDD, 0xCB, 0x85, 0x6A], .bit_5_ixd_z2 0x85), ([0xDD, 0xCB, 0x85, 0x6B], .bit_5_ixd_z3 0x85),
  ([0xDD, 0xCB, 0x85, 0x6C], .bit_5_ixd_z4 0x85), ([0xDD, 0xCB, 0x85, 0x6D], .bit_5_ixd_z5 0x85),
  ([0xDD, 0xCB, 0x85, 0x6E], .bit_5_ixd 0x85), ([0xDD, 0xCB, 0x85, 0x6F], .bit_5_ixd_z7 0x85),
  ([0xDD, 0xCB, 0x85, 0x70], .bit_6_ixd_z0 0x85), ([0xDD, 0xCB, 0x85, 0x71], .bit_6_ixd_z1 0x85),
  ([0xDD, 0xCB, 0x85, 0x72], .bit_6_ixd_z2 0x85), ([0xDD, 0xCB, 0x85, 0x73], .bit_6_ixd_z3 0x85),
  ([0xDD, 0xCB, 0x85, 0x74], .bit_6_ixd_z4 0x85), ([0xDD, 0xCB, 0x85, 0x75], .bit_6_ixd_z5 0x85),
  ([0xDD, 0xCB, 0x85, 0x76], .bit_6_ixd 0x85), ([0xDD, 0xCB, 0x85, 0x77], .bit_6_ixd_z7 0x85),
  ([0xDD, 0xCB, 0x85, 0x78], .bit_7_ixd_z0 0x85), ([0xDD, 0xCB, 0x85, 0x79], .bit_7_ixd_z1 0x85),
  ([0xDD, 0xCB, 0x85, 0x7A], .bit_7_ixd_z2 0x85), ([0xDD, 0xCB, 0x85, 0x7B], .bit_7_ixd_z3 0x85),
  ([0xDD, 0xCB, 0x85, 0x7C], .bit_7_ixd_z4 0x85), ([0xDD, 0xCB, 0x85, 0x7D], .bit_7_ixd_z5 0x85),
  ([0xDD, 0xCB, 0x85, 0x7E], .bit_7_ixd 0x85), ([0xDD, 0xCB, 0x85, 0x7F], .bit_7_ixd_z7 0x85)] := by
  repeat' constructor

theorem test_decode_DDCB_80 : Decodes [
  ([0xDD, 0xCB, 0x85, 0x80], .res_0_ixd_b 0x85), ([0xDD, 0xCB, 0x85, 0x81], .res_0_ixd_c 0x85),
  ([0xDD, 0xCB, 0x85, 0x82], .res_0_ixd_d 0x85), ([0xDD, 0xCB, 0x85, 0x83], .res_0_ixd_e 0x85),
  ([0xDD, 0xCB, 0x85, 0x84], .res_0_ixd_h 0x85), ([0xDD, 0xCB, 0x85, 0x85], .res_0_ixd_l 0x85),
  ([0xDD, 0xCB, 0x85, 0x86], .res_0_ixd 0x85), ([0xDD, 0xCB, 0x85, 0x87], .res_0_ixd_a 0x85),
  ([0xDD, 0xCB, 0x85, 0x88], .res_1_ixd_b 0x85), ([0xDD, 0xCB, 0x85, 0x89], .res_1_ixd_c 0x85),
  ([0xDD, 0xCB, 0x85, 0x8A], .res_1_ixd_d 0x85), ([0xDD, 0xCB, 0x85, 0x8B], .res_1_ixd_e 0x85),
  ([0xDD, 0xCB, 0x85, 0x8C], .res_1_ixd_h 0x85), ([0xDD, 0xCB, 0x85, 0x8D], .res_1_ixd_l 0x85),
  ([0xDD, 0xCB, 0x85, 0x8E], .res_1_ixd 0x85), ([0xDD, 0xCB, 0x85, 0x8F], .res_1_ixd_a 0x85),
  ([0xDD, 0xCB, 0x85, 0x90], .res_2_ixd_b 0x85), ([0xDD, 0xCB, 0x85, 0x91], .res_2_ixd_c 0x85),
  ([0xDD, 0xCB, 0x85, 0x92], .res_2_ixd_d 0x85), ([0xDD, 0xCB, 0x85, 0x93], .res_2_ixd_e 0x85),
  ([0xDD, 0xCB, 0x85, 0x94], .res_2_ixd_h 0x85), ([0xDD, 0xCB, 0x85, 0x95], .res_2_ixd_l 0x85),
  ([0xDD, 0xCB, 0x85, 0x96], .res_2_ixd 0x85), ([0xDD, 0xCB, 0x85, 0x97], .res_2_ixd_a 0x85),
  ([0xDD, 0xCB, 0x85, 0x98], .res_3_ixd_b 0x85), ([0xDD, 0xCB, 0x85, 0x99], .res_3_ixd_c 0x85),
  ([0xDD, 0xCB, 0x85, 0x9A], .res_3_ixd_d 0x85), ([0xDD, 0xCB, 0x85, 0x9B], .res_3_ixd_e 0x85),
  ([0xDD, 0xCB, 0x85, 0x9C], .res_3_ixd_h 0x85), ([0xDD, 0xCB, 0x85, 0x9D], .res_3_ixd_l 0x85),
  ([0xDD, 0xCB, 0x85, 0x9E], .res_3_ixd 0x85), ([0xDD, 0xCB, 0x85, 0x9F], .res_3_ixd_a 0x85)] := by
  repeat' constructor

theorem test_decode_DDCB_A0 : Decodes [
  ([0xDD, 0xCB, 0x85, 0xA0], .res_4_ixd_b 0x85), ([0xDD, 0xCB, 0x85, 0xA1], .res_4_ixd_c 0x85),
  ([0xDD, 0xCB, 0x85, 0xA2], .res_4_ixd_d 0x85), ([0xDD, 0xCB, 0x85, 0xA3], .res_4_ixd_e 0x85),
  ([0xDD, 0xCB, 0x85, 0xA4], .res_4_ixd_h 0x85), ([0xDD, 0xCB, 0x85, 0xA5], .res_4_ixd_l 0x85),
  ([0xDD, 0xCB, 0x85, 0xA6], .res_4_ixd 0x85), ([0xDD, 0xCB, 0x85, 0xA7], .res_4_ixd_a 0x85),
  ([0xDD, 0xCB, 0x85, 0xA8], .res_5_ixd_b 0x85), ([0xDD, 0xCB, 0x85, 0xA9], .res_5_ixd_c 0x85),
  ([0xDD, 0xCB, 0x85, 0xAA], .res_5_ixd_d 0x85), ([0xDD, 0xCB, 0x85, 0xAB], .res_5_ixd_e 0x85),
  ([0xDD, 0xCB, 0x85, 0xAC], .res_5_ixd_h 0x85), ([0xDD, 0xCB, 0x85, 0xAD], .res_5_ixd_l 0x85),
  ([0xDD, 0xCB, 0x85, 0xAE], .res_5_ixd 0x85), ([0xDD, 0xCB, 0x85, 0xAF], .res_5_ixd_a 0x85),
  ([0xDD, 0xCB, 0x85, 0xB0], .res_6_ixd_b 0x85), ([0xDD, 0xCB, 0x85, 0xB1], .res_6_ixd_c 0x85),
  ([0xDD, 0xCB, 0x85, 0xB2], .res_6_ixd_d 0x85), ([0xDD, 0xCB, 0x85, 0xB3], .res_6_ixd_e 0x85),
  ([0xDD, 0xCB, 0x85, 0xB4], .res_6_ixd_h 0x85), ([0xDD, 0xCB, 0x85, 0xB5], .res_6_ixd_l 0x85),
  ([0xDD, 0xCB, 0x85, 0xB6], .res_6_ixd 0x85), ([0xDD, 0xCB, 0x85, 0xB7], .res_6_ixd_a 0x85),
  ([0xDD, 0xCB, 0x85, 0xB8], .res_7_ixd_b 0x85), ([0xDD, 0xCB, 0x85, 0xB9], .res_7_ixd_c 0x85),
  ([0xDD, 0xCB, 0x85, 0xBA], .res_7_ixd_d 0x85), ([0xDD, 0xCB, 0x85, 0xBB], .res_7_ixd_e 0x85),
  ([0xDD, 0xCB, 0x85, 0xBC], .res_7_ixd_h 0x85), ([0xDD, 0xCB, 0x85, 0xBD], .res_7_ixd_l 0x85),
  ([0xDD, 0xCB, 0x85, 0xBE], .res_7_ixd 0x85), ([0xDD, 0xCB, 0x85, 0xBF], .res_7_ixd_a 0x85)] := by
  repeat' constructor

theorem test_decode_DDCB_C0 : Decodes [
  ([0xDD, 0xCB, 0x85, 0xC0], .set_0_ixd_b 0x85), ([0xDD, 0xCB, 0x85, 0xC1], .set_0_ixd_c 0x85),
  ([0xDD, 0xCB, 0x85, 0xC2], .set_0_ixd_d 0x85), ([0xDD, 0xCB, 0x85, 0xC3], .set_0_ixd_e 0x85),
  ([0xDD, 0xCB, 0x85, 0xC4], .set_0_ixd_h 0x85), ([0xDD, 0xCB, 0x85, 0xC5], .set_0_ixd_l 0x85),
  ([0xDD, 0xCB, 0x85, 0xC6], .set_0_ixd 0x85), ([0xDD, 0xCB, 0x85, 0xC7], .set_0_ixd_a 0x85),
  ([0xDD, 0xCB, 0x85, 0xC8], .set_1_ixd_b 0x85), ([0xDD, 0xCB, 0x85, 0xC9], .set_1_ixd_c 0x85),
  ([0xDD, 0xCB, 0x85, 0xCA], .set_1_ixd_d 0x85), ([0xDD, 0xCB, 0x85, 0xCB], .set_1_ixd_e 0x85),
  ([0xDD, 0xCB, 0x85, 0xCC], .set_1_ixd_h 0x85), ([0xDD, 0xCB, 0x85, 0xCD], .set_1_ixd_l 0x85),
  ([0xDD, 0xCB, 0x85, 0xCE], .set_1_ixd 0x85), ([0xDD, 0xCB, 0x85, 0xCF], .set_1_ixd_a 0x85),
  ([0xDD, 0xCB, 0x85, 0xD0], .set_2_ixd_b 0x85), ([0xDD, 0xCB, 0x85, 0xD1], .set_2_ixd_c 0x85),
  ([0xDD, 0xCB, 0x85, 0xD2], .set_2_ixd_d 0x85), ([0xDD, 0xCB, 0x85, 0xD3], .set_2_ixd_e 0x85),
  ([0xDD, 0xCB, 0x85, 0xD4], .set_2_ixd_h 0x85), ([0xDD, 0xCB, 0x85, 0xD5], .set_2_ixd_l 0x85),
  ([0xDD, 0xCB, 0x85, 0xD6], .set_2_ixd 0x85), ([0xDD, 0xCB, 0x85, 0xD7], .set_2_ixd_a 0x85),
  ([0xDD, 0xCB, 0x85, 0xD8], .set_3_ixd_b 0x85), ([0xDD, 0xCB, 0x85, 0xD9], .set_3_ixd_c 0x85),
  ([0xDD, 0xCB, 0x85, 0xDA], .set_3_ixd_d 0x85), ([0xDD, 0xCB, 0x85, 0xDB], .set_3_ixd_e 0x85),
  ([0xDD, 0xCB, 0x85, 0xDC], .set_3_ixd_h 0x85), ([0xDD, 0xCB, 0x85, 0xDD], .set_3_ixd_l 0x85),
  ([0xDD, 0xCB, 0x85, 0xDE], .set_3_ixd 0x85), ([0xDD, 0xCB, 0x85, 0xDF], .set_3_ixd_a 0x85)] := by
  repeat' constructor

theorem test_decode_DDCB_E0 : Decodes [
  ([0xDD, 0xCB, 0x85, 0xE0], .set_4_ixd_b 0x85), ([0xDD, 0xCB, 0x85, 0xE1], .set_4_ixd_c 0x85),
  ([0xDD, 0xCB, 0x85, 0xE2], .set_4_ixd_d 0x85), ([0xDD, 0xCB, 0x85, 0xE3], .set_4_ixd_e 0x85),
  ([0xDD, 0xCB, 0x85, 0xE4], .set_4_ixd_h 0x85), ([0xDD, 0xCB, 0x85, 0xE5], .set_4_ixd_l 0x85),
  ([0xDD, 0xCB, 0x85, 0xE6], .set_4_ixd 0x85), ([0xDD, 0xCB, 0x85, 0xE7], .set_4_ixd_a 0x85),
  ([0xDD, 0xCB, 0x85, 0xE8], .set_5_ixd_b 0x85), ([0xDD, 0xCB, 0x85, 0xE9], .set_5_ixd_c 0x85),
  ([0xDD, 0xCB, 0x85, 0xEA], .set_5_ixd_d 0x85), ([0xDD, 0xCB, 0x85, 0xEB], .set_5_ixd_e 0x85),
  ([0xDD, 0xCB, 0x85, 0xEC], .set_5_ixd_h 0x85), ([0xDD, 0xCB, 0x85, 0xED], .set_5_ixd_l 0x85),
  ([0xDD, 0xCB, 0x85, 0xEE], .set_5_ixd 0x85), ([0xDD, 0xCB, 0x85, 0xEF], .set_5_ixd_a 0x85),
  ([0xDD, 0xCB, 0x85, 0xF0], .set_6_ixd_b 0x85), ([0xDD, 0xCB, 0x85, 0xF1], .set_6_ixd_c 0x85),
  ([0xDD, 0xCB, 0x85, 0xF2], .set_6_ixd_d 0x85), ([0xDD, 0xCB, 0x85, 0xF3], .set_6_ixd_e 0x85),
  ([0xDD, 0xCB, 0x85, 0xF4], .set_6_ixd_h 0x85), ([0xDD, 0xCB, 0x85, 0xF5], .set_6_ixd_l 0x85),
  ([0xDD, 0xCB, 0x85, 0xF6], .set_6_ixd 0x85), ([0xDD, 0xCB, 0x85, 0xF7], .set_6_ixd_a 0x85),
  ([0xDD, 0xCB, 0x85, 0xF8], .set_7_ixd_b 0x85), ([0xDD, 0xCB, 0x85, 0xF9], .set_7_ixd_c 0x85),
  ([0xDD, 0xCB, 0x85, 0xFA], .set_7_ixd_d 0x85), ([0xDD, 0xCB, 0x85, 0xFB], .set_7_ixd_e 0x85),
  ([0xDD, 0xCB, 0x85, 0xFC], .set_7_ixd_h 0x85), ([0xDD, 0xCB, 0x85, 0xFD], .set_7_ixd_l 0x85),
  ([0xDD, 0xCB, 0x85, 0xFE], .set_7_ixd 0x85), ([0xDD, 0xCB, 0x85, 0xFF], .set_7_ixd_a 0x85)] := by
  repeat' constructor

theorem test_decode_FD_00 : Decodes [
  ([0xFD, 0x09], .add_iy_bc), ([0xFD, 0x19], .add_iy_de)] := by
  repeat' constructor

theorem test_decode_FD_20 : Decodes [
  ([0xFD, 0x21, 0x34, 0x12], .ld_iy_nn 0x1234), ([0xFD, 0x22, 0x34, 0x12], .ld_mnn_iy 0x1234),
  ([0xFD, 0x23], .inc_iy), ([0xFD, 0x24], .inc_iyh), ([0xFD, 0x25], .dec_iyh),
  ([0xFD, 0x26, 0x5A], .ld_iyh_n 0x5A), ([0xFD, 0x29], .add_iy_iy),
  ([0xFD, 0x2A, 0x34, 0x12], .ld_iy_mnn 0x1234), ([0xFD, 0x2B], .dec_iy), ([0xFD, 0x2C], .inc_iyl),
  ([0xFD, 0x2D], .dec_iyl), ([0xFD, 0x2E, 0x5A], .ld_iyl_n 0x5A),
  ([0xFD, 0x34, 0x85], .inc_iyd 0x85), ([0xFD, 0x35, 0x85], .dec_iyd 0x85),
  ([0xFD, 0x36, 0x85, 0x5A], .ld_iyd_n 0x85 0x5A), ([0xFD, 0x39], .add_iy_sp)] := by
  repeat' constructor

theorem test_decode_FD_40 : Decodes [
  ([0xFD, 0x44], .ld_b_iyh), ([0xFD, 0x45], .ld_b_iyl), ([0xFD, 0x46, 0x85], .ld_b_iyd 0x85),
  ([0xFD, 0x4C], .ld_c_iyh), ([0xFD, 0x4D], .ld_c_iyl), ([0xFD, 0x4E, 0x85], .ld_c_iyd 0x85),
  ([0xFD, 0x54], .ld_d_iyh), ([0xFD, 0x55], .ld_d_iyl), ([0xFD, 0x56, 0x85], .ld_d_iyd 0x85),
  ([0xFD, 0x5C], .ld_e_iyh), ([0xFD, 0x5D], .ld_e_iyl), ([0xFD, 0x5E, 0x85], .ld_e_iyd 0x85)] := by
  repeat' constructor

theorem test_decode_FD_60 : Decodes [
  ([0xFD, 0x60], .ld_iyh_b), ([0xFD, 0x61], .ld_iyh_c), ([0xFD, 0x62], .ld_iyh_d),
  ([0xFD, 0x63], .ld_iyh_e), ([0xFD, 0x64], .ld_iyh_iyh), ([0xFD, 0x65], .ld_iyh_iyl),
  ([0xFD, 0x66, 0x85], .ld_h_iyd 0x85), ([0xFD, 0x67], .ld_iyh_a), ([0xFD, 0x68], .ld_iyl_b),
  ([0xFD, 0x69], .ld_iyl_c), ([0xFD, 0x6A], .ld_iyl_d), ([0xFD, 0x6B], .ld_iyl_e),
  ([0xFD, 0x6C], .ld_iyl_iyh), ([0xFD, 0x6D], .ld_iyl_iyl), ([0xFD, 0x6E, 0x85], .ld_l_iyd 0x85),
  ([0xFD, 0x6F], .ld_iyl_a), ([0xFD, 0x70, 0x85], .ld_iyd_b 0x85),
  ([0xFD, 0x71, 0x85], .ld_iyd_c 0x85), ([0xFD, 0x72, 0x85], .ld_iyd_d 0x85),
  ([0xFD, 0x73, 0x85], .ld_iyd_e 0x85), ([0xFD, 0x74, 0x85], .ld_iyd_h 0x85),
  ([0xFD, 0x75, 0x85], .ld_iyd_l 0x85), ([0xFD, 0x77, 0x85], .ld_iyd_a 0x85),
  ([0xFD, 0x7C], .ld_a_iyh), ([0xFD, 0x7D], .ld_a_iyl), ([0xFD, 0x7E, 0x85], .ld_a_iyd 0x85)] := by
  repeat' constructor

theorem test_decode_FD_80 : Decodes [
  ([0xFD, 0x84], .add_a_iyh), ([0xFD, 0x85], .add_a_iyl), ([0xFD, 0x86, 0x85], .add_a_iyd 0x85),
  ([0xFD, 0x8C], .adc_a_iyh), ([0xFD, 0x8D], .adc_a_iyl), ([0xFD, 0x8E, 0x85], .adc_a_iyd 0x85),
  ([0xFD, 0x94], .sub_iyh), ([0xFD, 0x95], .sub_iyl), ([0xFD, 0x96, 0x85], .sub_iyd 0x85),
  ([0xFD, 0x9C], .sbc_a_iyh), ([0xFD, 0x9D], .sbc_a_iyl), ([0xFD, 0x9E, 0x85], .sbc_a_iyd 0x85)] := by
  repeat' constructor

theorem test_decode_FD_A0 : Decodes [
  ([0xFD, 0xA4], .and_iyh), ([0xFD, 0xA5], .and_iyl), ([0xFD, 0xA6, 0x85], .and_iyd 0x85),
  ([0xFD, 0xAC], .xor_iyh), ([0xFD, 0xAD], .xor_iyl), ([0xFD, 0xAE, 0x85], .xor_iyd 0x85),
  ([0xFD, 0xB4], .or_iyh), ([0xFD, 0xB5], .or_iyl), ([0xFD, 0xB6, 0x85], .or_iyd 0x85),
  ([0xFD, 0xBC], .cp_iyh), ([0xFD, 0xBD], .cp_iyl), ([0xFD, 0xBE, 0x85], .cp_iyd 0x85)] := by
  repeat' constructor

theorem test_decode_FD_E0 : Decodes [
  ([0xFD, 0xE1], .pop_iy), ([0xFD, 0xE3], .ex_msp_iy), ([0xFD, 0xE5], .push_iy),
  ([0xFD, 0xE9], .jp_iy), ([0xFD, 0xF9], .ld_sp_iy)] := by
  repeat' constructor

theorem test_decode_FDCB_00 : Decodes [
  ([0xFD, 0xCB, 0x85, 0x00], .rlc_iyd_b 0x85), ([0xFD, 0xCB, 0x85, 0x01], .rlc_iyd_c 0x85),
  ([0xFD, 0xCB, 0x85, 0x02], .rlc_iyd_d 0x85), ([0xFD, 0xCB, 0x85, 0x03], .rlc_iyd_e 0x85),
  ([0xFD, 0xCB, 0x85, 0x04], .rlc_iyd_h 0x85), ([0xFD, 0xCB, 0x85, 0x05], .rlc_iyd_l 0x85),
  ([0xFD, 0xCB, 0x85, 0x06], .rlc_iyd 0x85), ([0xFD, 0xCB, 0x85, 0x07], .rlc_iyd_a 0x85),
  ([0xFD, 0xCB, 0x85, 0x08], .rrc_iyd_b 0x85), ([0xFD, 0xCB, 0x85, 0x09], .rrc_iyd_c 0x85),
  ([0xFD, 0xCB, 0x85, 0x0A], .rrc_iyd_d 0x85), ([0xFD, 0xCB, 0x85, 0x0B], .rrc_iyd_e 0x85),
  ([0xFD, 0xCB, 0x85, 0x0C], .rrc_iyd_h 0x85), ([0xFD, 0xCB, 0x85, 0x0D], .rrc_iyd_l 0x85),
  ([0xFD, 0xCB, 0x85, 0x0E], .rrc_iyd 0x85), ([0xFD, 0xCB, 0x85, 0x0F], .rrc_iyd_a 0x85),
  ([0xFD, 0xCB, 0x85, 0x10], .rl_iyd_b 0x85), ([0xFD, 0xCB, 0x85, 0x11], .rl_iyd_c 0x85),
  ([0xFD, 0xCB, 0x85, 0x12], .rl_iyd_d 0x85), ([0xFD, 0xCB, 0x85, 0x13], .rl_iyd_e 0x85),
  ([0xFD, 0xCB, 0x85, 0x14], .rl_iyd_h 0x85), ([0xFD, 0xCB, 0x85, 0x15], .rl_iyd_l 0x85),
  ([0xFD, 0xCB, 0x85, 0x16], .rl_iyd 0x85), ([0xFD, 0xCB, 0x85, 0x17], .rl_iyd_a 0x85),
  ([0xFD, 0xCB, 0x85, 0x18], .rr_iyd_b 0x85), ([0xFD, 0xCB, 0x85, 0x19], .rr_iyd_c 0x85),
  ([0xFD, 0xCB, 0x85, 0x1A], .rr_iyd_d 0x85), ([0xFD, 0xCB, 0x85, 0x1B], .rr_iyd_e 0x85),
  ([0xFD, 0xCB, 0x85, 0x1C], .rr_iyd_h 0x85), ([0xFD, 0xCB, 0x85, 0x1D], .rr_iyd_l 0x85),
  ([0xFD, 0xCB, 0x85, 0x1E], .rr_iyd 0x85), ([0xFD, 0xCB, 0x85, 0x1F], .rr_iyd_a 0x85)] := by
  repeat' constructor

theorem test_decode_FDCB_20 : Decodes [
  ([0xFD, 0xCB, 0x85, 0x20], .sla_iyd_b 0x85), ([0xFD, 0xCB, 0x85, 0x21], .sla_iyd_c 0x85),
  ([0xFD, 0xCB, 0x85, 0x22], .sla_iyd_d 0x85), ([0xFD, 0xCB, 0x85, 0x23], .sla_iyd_e 0x85),
  ([0xFD, 0xCB, 0x85, 0x24], .sla_iyd_h 0x85), ([0xFD, 0xCB, 0x85, 0x25], .sla_iyd_l 0x85),
  ([0xFD, 0xCB, 0x85, 0x26], .sla_iyd 0x85), ([0xFD, 0xCB, 0x85, 0x27], .sla_iyd_a 0x85),
  ([0xFD, 0xCB, 0x85, 0x28], .sra_iyd_b 0x85), ([0xFD, 0xCB, 0x85, 0x29], .sra_iyd_c 0x85),
  ([0xFD, 0xCB, 0x85, 0x2A], .sra_iyd_d 0x85), ([0xFD, 0xCB, 0x85, 0x2B], .sra_iyd_e 0x85),
  ([0xFD, 0xCB, 0x85, 0x2C], .sra_iyd_h 0x85), ([0xFD, 0xCB, 0x85, 0x2D], .sra_iyd_l 0x85),
  ([0xFD, 0xCB, 0x85, 0x2E], .sra_iyd 0x85), ([0xFD, 0xCB, 0x85, 0x2F], .sra_iyd_a 0x85),
  ([0xFD, 0xCB, 0x85, 0x30], .sll_iyd_b 0x85), ([0xFD, 0xCB, 0x85, 0x31], .sll_iyd_c 0x85),
  ([0xFD, 0xCB, 0x85, 0x32], .sll_iyd_d 0x85), ([0xFD, 0xCB, 0x85, 0x33], .sll_iyd_e 0x85),
  ([0xFD, 0xCB, 0x85, 0x34], .sll_iyd_h 0x85), ([0xFD, 0xCB, 0x85, 0x35], .sll_iyd_l 0x85),
  ([0xFD, 0xCB, 0x85, 0x36], .sll_iyd 0x85), ([0xFD, 0xCB, 0x85, 0x37], .sll_iyd_a 0x85),
  ([0xFD, 0xCB, 0x85, 0x38], .srl_iyd_b 0x85), ([0xFD, 0xCB, 0x85, 0x39], .srl_iyd_c 0x85),
  ([0xFD, 0xCB, 0x85, 0x3A], .srl_iyd_d 0x85), ([0xFD, 0xCB, 0x85, 0x3B], .srl_iyd_e 0x85),
  ([0xFD, 0xCB, 0x85, 0x3C], .srl_iyd_h 0x85), ([0xFD, 0xCB, 0x85, 0x3D], .srl_iyd_l 0x85),
  ([0xFD, 0xCB, 0x85, 0x3E], .srl_iyd 0x85), ([0xFD, 0xCB, 0x85, 0x3F], .srl_iyd_a 0x85)] := by
  repeat' constructor

theorem test_decode_FDCB_40 : Decodes [
  ([0xFD, 0xCB, 0x85, 0x40], .bit_0_iyd_z0 0x85), ([0xFD, 0xCB, 0x85, 0x41], .bit_0_iyd_z1 0x85),
  ([0xFD, 0xCB, 0x85, 0x42], .bit_0_iyd_z2 0x85), ([0xFD, 0xCB, 0x85, 0x43], .bit_0_iyd_z3 0x85),
  ([0xFD, 0xCB, 0x85, 0x44], .bit_0_iyd_z4 0x85), ([0xFD, 0xCB, 0x85, 0x45], .bit_0_iyd_z5 0x85),
  ([0xFD, 0xCB, 0x85, 0x46], .bit_0_iyd 0x85), ([0xFD, 0xCB, 0x85, 0x47], .bit_0_iyd_z7 0x85),
  ([0xFD, 0xCB, 0x85, 0x48], .bit_1_iyd_z0 0x85), ([0xFD, 0xCB, 0x85, 0x49], .bit_1_iyd_z1 0x85),
  ([0xFD, 0xCB, 0x85, 0x4A], .bit_1_iyd_z2 0x85), ([0xFD, 0xCB, 0x85, 0x4B], .bit_1_iyd_z3 0x85),
  ([0xFD, 0xCB, 0x85, 0x4C], .bit_1_iyd_z4 0x85), ([0xFD, 0xCB, 0x85, 0x4D], .bit_1_iyd_z5 0x85),
  ([0xFD, 0xCB, 0x85, 0x4E], .bit_1_iyd 0x85), ([0xFD, 0xCB, 0x85, 0x4F], .bit_1_iyd_z7 0x85),
  ([0xFD, 0xCB, 0x85, 0x50], .bit_2_iyd_z0 0x85), ([0xFD, 0xCB, 0x85, 0x51], .bit_2_iyd_z1 0x85),
  ([0xFD, 0xCB, 0x85, 0x52], .bit_2_iyd_z2 0x85), ([0xFD, 0xCB, 0x85, 0x53], .bit_2_iyd_z3 0x85),
  ([0xFD, 0xCB, 0x85, 0x54], .bit_2_iyd_z4 0x85), ([0xFD, 0xCB, 0x85, 0x55], .bit_2_iyd_z5 0x85),
  ([0xFD, 0xCB, 0x85, 0x56], .bit_2_iyd 0x85), ([0xFD, 0xCB, 0x85, 0x57], .bit_2_iyd_z7 0x85),
  ([0xFD, 0xCB, 0x85, 0x58], .bit_3_iyd_z0 0x85), ([0xFD, 0xCB, 0x85, 0x59], .bit_3_iyd_z1 0x85),
  ([0xFD, 0xCB, 0x85, 0x5A], .bit_3_iyd_z2 0x85), ([0xFD, 0xCB, 0x85, 0x5B], .bit_3_iyd_z3 0x85),
  ([0xFD, 0xCB, 0x85, 0x5C], .bit_3_iyd_z4 0x85), ([0xFD, 0xCB, 0x85, 0x5D], .bit_3_iyd_z5 0x85),
  ([0xFD, 0xCB, 0x85, 0x5E], .bit_3_iyd 0x85), ([0xFD, 0xCB, 0x85, 0x5F], .bit_3_iyd_z7 0x85)] := by
  repeat' constructor

theorem test_decode_FDCB_60 : Decodes [
  ([0xFD, 0xCB, 0x85, 0x60], .bit_4_iyd_z0 0x85), ([0xFD, 0xCB, 0x85, 0x61], .bit_4_iyd_z1 0x85),
  ([0xFD, 0xCB, 0x85, 0x62], .bit_4_iyd_z2 0x85), ([0xFD, 0xCB, 0x85, 0x63], .bit_4_iyd_z3 0x85),
  ([0xFD, 0xCB, 0x85, 0x64], .bit_4_iyd_z4 0x85), ([0xFD, 0xCB, 0x85, 0x65], .bit_4_iyd_z5 0x85),
  ([0xFD, 0xCB, 0x85, 0x66], .bit_4_iyd 0x85), ([0xFD, 0xCB, 0x85, 0x67], .bit_4_iyd_z7 0x85),
  ([0xFD, 0xCB, 0x85, 0x68], .bit_5_iyd_z0 0x85), ([0xFD, 0xCB, 0x85, 0x69], .bit_5_iyd_z1 0x85),
  ([0xFD, 0xCB, 0x85, 0x6A], .bit_5_iyd_z2 0x85), ([0xFD, 0xCB, 0x85, 0x6B], .bit_5_iyd_z3 0x85),
  ([0xFD, 0xCB, 0x85, 0x6C], .bit_5_iyd_z4 0x85), ([0xFD, 0xCB, 0x85, 0x6D], .bit_5_iyd_z5 0x85),
  ([0xFD, 0xCB, 0x85, 0x6E], .bit_5_iyd 0x85), ([0xFD, 0xCB, 0x85, 0x6F], .bit_5_iyd_z7 0x85),
  ([0xFD, 0xCB, 0x85, 0x70], .bit_6_iyd_z0 0x85), ([0xFD, 0xCB, 0x85, 0x71], .bit_6_iyd_z1 0x85),
  ([0xFD, 0xCB, 0x85, 0x72], .bit_6_iyd_z2 0x85), ([0xFD, 0xCB, 0x85, 0x73], .bit_6_iyd_z3 0x85),
  ([0xFD, 0xCB, 0x85, 0x74], .bit_6_iyd_z4 0x85), ([0xFD, 0xCB, 0x85, 0x75], .bit_6_iyd_z5 0x85),
  ([0xFD, 0xCB, 0x85, 0x76], .bit_6_iyd 0x85), ([0xFD, 0xCB, 0x85, 0x77], .bit_6_iyd_z7 0x85),
  ([0xFD, 0xCB, 0x85, 0x78], .bit_7_iyd_z0 0x85), ([0xFD, 0xCB, 0x85, 0x79], .bit_7_iyd_z1 0x85),
  ([0xFD, 0xCB, 0x85, 0x7A], .bit_7_iyd_z2 0x85), ([0xFD, 0xCB, 0x85, 0x7B], .bit_7_iyd_z3 0x85),
  ([0xFD, 0xCB, 0x85, 0x7C], .bit_7_iyd_z4 0x85), ([0xFD, 0xCB, 0x85, 0x7D], .bit_7_iyd_z5 0x85),
  ([0xFD, 0xCB, 0x85, 0x7E], .bit_7_iyd 0x85), ([0xFD, 0xCB, 0x85, 0x7F], .bit_7_iyd_z7 0x85)] := by
  repeat' constructor

theorem test_decode_FDCB_80 : Decodes [
  ([0xFD, 0xCB, 0x85, 0x80], .res_0_iyd_b 0x85), ([0xFD, 0xCB, 0x85, 0x81], .res_0_iyd_c 0x85),
  ([0xFD, 0xCB, 0x85, 0x82], .res_0_iyd_d 0x85), ([0xFD, 0xCB, 0x85, 0x83], .res_0_iyd_e 0x85),
  ([0xFD, 0xCB, 0x85, 0x84], .res_0_iyd_h 0x85), ([0xFD, 0xCB, 0x85, 0x85], .res_0_iyd_l 0x85),
  ([0xFD, 0xCB, 0x85, 0x86], .res_0_iyd 0x85), ([0xFD, 0xCB, 0x85, 0x87], .res_0_iyd_a 0x85),
  ([0xFD, 0xCB, 0x85, 0x88], .res_1_iyd_b 0x85), ([0xFD, 0xCB, 0x85, 0x89], .res_1_iyd_c 0x85),
  ([0xFD, 0xCB, 0x85, 0x8A], .res_1_iyd_d 0x85), ([0xFD, 0xCB, 0x85, 0x8B], .res_1_iyd_e 0x85),
  ([0xFD, 0xCB, 0x85, 0x8C], .res_1_iyd_h 0x85), ([0xFD, 0xCB, 0x85, 0x8D], .res_1_iyd_l 0x85),
  ([0xFD, 0xCB, 0x85, 0x8E], .res_1_iyd 0x85), ([0xFD, 0xCB, 0x85, 0x8F], .res_1_iyd_a 0x85),
  ([0xFD, 0xCB, 0x85, 0x90], .res_2_iyd_b 0x85), ([0xFD, 0xCB, 0x85, 0x91], .res_2_iyd_c 0x85),
  ([0xFD, 0xCB, 0x85, 0x92], .res_2_iyd_d 0x85), ([0xFD, 0xCB, 0x85, 0x93], .res_2_iyd_e 0x85),
  ([0xFD, 0xCB, 0x85, 0x94], .res_2_iyd_h 0x85), ([0xFD, 0xCB, 0x85, 0x95], .res_2_iyd_l 0x85),
  ([0xFD, 0xCB, 0x85, 0x96], .res_2_iyd 0x85), ([0xFD, 0xCB, 0x85, 0x97], .res_2_iyd_a 0x85),
  ([0xFD, 0xCB, 0x85, 0x98], .res_3_iyd_b 0x85), ([0xFD, 0xCB, 0x85, 0x99], .res_3_iyd_c 0x85),
  ([0xFD, 0xCB, 0x85, 0x9A], .res_3_iyd_d 0x85), ([0xFD, 0xCB, 0x85, 0x9B], .res_3_iyd_e 0x85),
  ([0xFD, 0xCB, 0x85, 0x9C], .res_3_iyd_h 0x85), ([0xFD, 0xCB, 0x85, 0x9D], .res_3_iyd_l 0x85),
  ([0xFD, 0xCB, 0x85, 0x9E], .res_3_iyd 0x85), ([0xFD, 0xCB, 0x85, 0x9F], .res_3_iyd_a 0x85)] := by
  repeat' constructor

theorem test_decode_FDCB_A0 : Decodes [
  ([0xFD, 0xCB, 0x85, 0xA0], .res_4_iyd_b 0x85), ([0xFD, 0xCB, 0x85, 0xA1], .res_4_iyd_c 0x85),
  ([0xFD, 0xCB, 0x85, 0xA2], .res_4_iyd_d 0x85), ([0xFD, 0xCB, 0x85, 0xA3], .res_4_iyd_e 0x85),
  ([0xFD, 0xCB, 0x85, 0xA4], .res_4_iyd_h 0x85), ([0xFD, 0xCB, 0x85, 0xA5], .res_4_iyd_l 0x85),
  ([0xFD, 0xCB, 0x85, 0xA6], .res_4_iyd 0x85), ([0xFD, 0xCB, 0x85, 0xA7], .res_4_iyd_a 0x85),
  ([0xFD, 0xCB, 0x85, 0xA8], .res_5_iyd_b 0x85), ([0xFD, 0xCB, 0x85, 0xA9], .res_5_iyd_c 0x85),
  ([0xFD, 0xCB, 0x85, 0xAA], .res_5_iyd_d 0x85), ([0xFD, 0xCB, 0x85, 0xAB], .res_5_iyd_e 0x85),
  ([0xFD, 0xCB, 0x85, 0xAC], .res_5_iyd_h 0x85), ([0xFD, 0xCB, 0x85, 0xAD], .res_5_iyd_l 0x85),
  ([0xFD, 0xCB, 0x85, 0xAE], .res_5_iyd 0x85), ([0xFD, 0xCB, 0x85, 0xAF], .res_5_iyd_a 0x85),
  ([0xFD, 0xCB, 0x85, 0xB0], .res_6_iyd_b 0x85), ([0xFD, 0xCB, 0x85, 0xB1], .res_6_iyd_c 0x85),
  ([0xFD, 0xCB, 0x85, 0xB2], .res_6_iyd_d 0x85), ([0xFD, 0xCB, 0x85, 0xB3], .res_6_iyd_e 0x85),
  ([0xFD, 0xCB, 0x85, 0xB4], .res_6_iyd_h 0x85), ([0xFD, 0xCB, 0x85, 0xB5], .res_6_iyd_l 0x85),
  ([0xFD, 0xCB, 0x85, 0xB6], .res_6_iyd 0x85), ([0xFD, 0xCB, 0x85, 0xB7], .res_6_iyd_a 0x85),
  ([0xFD, 0xCB, 0x85, 0xB8], .res_7_iyd_b 0x85), ([0xFD, 0xCB, 0x85, 0xB9], .res_7_iyd_c 0x85),
  ([0xFD, 0xCB, 0x85, 0xBA], .res_7_iyd_d 0x85), ([0xFD, 0xCB, 0x85, 0xBB], .res_7_iyd_e 0x85),
  ([0xFD, 0xCB, 0x85, 0xBC], .res_7_iyd_h 0x85), ([0xFD, 0xCB, 0x85, 0xBD], .res_7_iyd_l 0x85),
  ([0xFD, 0xCB, 0x85, 0xBE], .res_7_iyd 0x85), ([0xFD, 0xCB, 0x85, 0xBF], .res_7_iyd_a 0x85)] := by
  repeat' constructor

theorem test_decode_FDCB_C0 : Decodes [
  ([0xFD, 0xCB, 0x85, 0xC0], .set_0_iyd_b 0x85), ([0xFD, 0xCB, 0x85, 0xC1], .set_0_iyd_c 0x85),
  ([0xFD, 0xCB, 0x85, 0xC2], .set_0_iyd_d 0x85), ([0xFD, 0xCB, 0x85, 0xC3], .set_0_iyd_e 0x85),
  ([0xFD, 0xCB, 0x85, 0xC4], .set_0_iyd_h 0x85), ([0xFD, 0xCB, 0x85, 0xC5], .set_0_iyd_l 0x85),
  ([0xFD, 0xCB, 0x85, 0xC6], .set_0_iyd 0x85), ([0xFD, 0xCB, 0x85, 0xC7], .set_0_iyd_a 0x85),
  ([0xFD, 0xCB, 0x85, 0xC8], .set_1_iyd_b 0x85), ([0xFD, 0xCB, 0x85, 0xC9], .set_1_iyd_c 0x85),
  ([0xFD, 0xCB, 0x85, 0xCA], .set_1_iyd_d 0x85), ([0xFD, 0xCB, 0x85, 0xCB], .set_1_iyd_e 0x85),
  ([0xFD, 0xCB, 0x85, 0xCC], .set_1_iyd_h 0x85), ([0xFD, 0xCB, 0x85, 0xCD], .set_1_iyd_l 0x85),
  ([0xFD, 0xCB, 0x85, 0xCE], .set_1_iyd 0x85), ([0xFD, 0xCB, 0x85, 0xCF], .set_1_iyd_a 0x85),
  ([0xFD, 0xCB, 0x85, 0xD0], .set_2_iyd_b 0x85), ([0xFD, 0xCB, 0x85, 0xD1], .set_2_iyd_c 0x85),
  ([0xFD, 0xCB, 0x85, 0xD2], .set_2_iyd_d 0x85), ([0xFD, 0xCB, 0x85, 0xD3], .set_2_iyd_e 0x85),
  ([0xFD, 0xCB, 0x85, 0xD4], .set_2_iyd_h 0x85), ([0xFD, 0xCB, 0x85, 0xD5], .set_2_iyd_l 0x85),
  ([0xFD, 0xCB, 0x85, 0xD6], .set_2_iyd 0x85), ([0xFD, 0xCB, 0x85, 0xD7], .set_2_iyd_a 0x85),
  ([0xFD, 0xCB, 0x85, 0xD8], .set_3_iyd_b 0x85), ([0xFD, 0xCB, 0x85, 0xD9], .set_3_iyd_c 0x85),
  ([0xFD, 0xCB, 0x85, 0xDA], .set_3_iyd_d 0x85), ([0xFD, 0xCB, 0x85, 0xDB], .set_3_iyd_e 0x85),
  ([0xFD, 0xCB, 0x85, 0xDC], .set_3_iyd_h 0x85), ([0xFD, 0xCB, 0x85, 0xDD], .set_3_iyd_l 0x85),
  ([0xFD, 0xCB, 0x85, 0xDE], .set_3_iyd 0x85), ([0xFD, 0xCB, 0x85, 0xDF], .set_3_iyd_a 0x85)] := by
  repeat' constructor

theorem test_decode_FDCB_E0 : Decodes [
  ([0xFD, 0xCB, 0x85, 0xE0], .set_4_iyd_b 0x85), ([0xFD, 0xCB, 0x85, 0xE1], .set_4_iyd_c 0x85),
  ([0xFD, 0xCB, 0x85, 0xE2], .set_4_iyd_d 0x85), ([0xFD, 0xCB, 0x85, 0xE3], .set_4_iyd_e 0x85),
  ([0xFD, 0xCB, 0x85, 0xE4], .set_4_iyd_h 0x85), ([0xFD, 0xCB, 0x85, 0xE5], .set_4_iyd_l 0x85),
  ([0xFD, 0xCB, 0x85, 0xE6], .set_4_iyd 0x85), ([0xFD, 0xCB, 0x85, 0xE7], .set_4_iyd_a 0x85),
  ([0xFD, 0xCB, 0x85, 0xE8], .set_5_iyd_b 0x85), ([0xFD, 0xCB, 0x85, 0xE9], .set_5_iyd_c 0x85),
  ([0xFD, 0xCB, 0x85, 0xEA], .set_5_iyd_d 0x85), ([0xFD, 0xCB, 0x85, 0xEB], .set_5_iyd_e 0x85),
  ([0xFD, 0xCB, 0x85, 0xEC], .set_5_iyd_h 0x85), ([0xFD, 0xCB, 0x85, 0xED], .set_5_iyd_l 0x85),
  ([0xFD, 0xCB, 0x85, 0xEE], .set_5_iyd 0x85), ([0xFD, 0xCB, 0x85, 0xEF], .set_5_iyd_a 0x85),
  ([0xFD, 0xCB, 0x85, 0xF0], .set_6_iyd_b 0x85), ([0xFD, 0xCB, 0x85, 0xF1], .set_6_iyd_c 0x85),
  ([0xFD, 0xCB, 0x85, 0xF2], .set_6_iyd_d 0x85), ([0xFD, 0xCB, 0x85, 0xF3], .set_6_iyd_e 0x85),
  ([0xFD, 0xCB, 0x85, 0xF4], .set_6_iyd_h 0x85), ([0xFD, 0xCB, 0x85, 0xF5], .set_6_iyd_l 0x85),
  ([0xFD, 0xCB, 0x85, 0xF6], .set_6_iyd 0x85), ([0xFD, 0xCB, 0x85, 0xF7], .set_6_iyd_a 0x85),
  ([0xFD, 0xCB, 0x85, 0xF8], .set_7_iyd_b 0x85), ([0xFD, 0xCB, 0x85, 0xF9], .set_7_iyd_c 0x85),
  ([0xFD, 0xCB, 0x85, 0xFA], .set_7_iyd_d 0x85), ([0xFD, 0xCB, 0x85, 0xFB], .set_7_iyd_e 0x85),
  ([0xFD, 0xCB, 0x85, 0xFC], .set_7_iyd_h 0x85), ([0xFD, 0xCB, 0x85, 0xFD], .set_7_iyd_l 0x85),
  ([0xFD, 0xCB, 0x85, 0xFE], .set_7_iyd 0x85), ([0xFD, 0xCB, 0x85, 0xFF], .set_7_iyd_a 0x85)] := by
  repeat' constructor

/-! ### One step on the vectors of the spec -/

/-- The number that holds `bytes`, the first byte least significant. -/
def wordOf : List Nat → Nat
  | [] => 0
  | b :: rest => b + 256 * wordOf rest

/-- The state that the one step on `bytes`, placed at PC, answers. -/
def ran (bytes : List Nat) (s : State) : State :=
  match step (s.withFetchWord (8 * bytes.length) (wordOf bytes)) with
  | .next t => t
  | _ => { s with fault := some 0 }

/-- The same step on `bytes` that are a prefix byte alone, or that a halted core does not fetch. -/
def ranPlain (bytes : List (Nat × Byte)) (s : State) : State :=
  match step { s with mem := bytes } with
  | .next t => t
  | _ => { s with fault := some 0 }

/-- The initial state of the vectors: the reset state with PC 8000. -/
def start : State := { State.reset with pc := 0x8000 }

theorem test_V1_R200 :
    let t := ran [0x41] { start with b := 0x01, c := 0x5A }
    t.b = 0x5A ∧ t.pc = 0x8001 ∧ t.r = 0x01 := by decide

theorem test_V3_R201 :
    let t := ran [0x26, 0xAB] start
    t.h = 0xAB ∧ t.pc = 0x8002 ∧ t.r = 0x01 := by decide

theorem test_V5_R202 :
    let t := ran [0x6E] { start with h := 0x90, l := 0x00, mem := [(0x9000, 0x44)] }
    t.l = 0x44 ∧ t.pc = 0x8001 ∧ t.r = 0x01 := by decide

theorem test_V6_R203 :
    let t := ran [0xDD, 0x66, 0xFE]
      { start with h := 0x11, l := 0x11, ix := 0x9000, mem := [(0x8FFE, 0x77)] }
    t.h = 0x77 ∧ t.pc = 0x8003 ∧ t.r = 0x02 ∧ t.memptr = 0x8FFE := by decide

theorem test_V9_R204 :
    let t := ran [0x74] { start with h := 0x90, l := 0x91 }
    t.pc = 0x8001 ∧ t.r = 0x01 ∧ t.memRead 0x9091 = 0x90 := by decide

theorem test_V10_R205 :
    let t := ran [0xDD, 0x75, 0x80] { start with h := 0x12, l := 0xEE, ix := 0x9000 }
    t.pc = 0x8003 ∧ t.r = 0x02 ∧ t.memptr = 0x8F80 ∧ t.memRead 0x8F80 = 0xEE := by decide

theorem test_V11_R206 :
    let t := ran [0x36, 0x5A] { start with h := 0xFF, l := 0xFF }
    t.pc = 0x8002 ∧ t.r = 0x01 ∧ t.memRead 0xFFFF = 0x5A := by decide

theorem test_V12_R207 :
    let t := ran [0xFD, 0x36, 0x05, 0xA5] { start with iy := 0x9000 }
    t.pc = 0x8004 ∧ t.r = 0x02 ∧ t.memptr = 0x9005 ∧ t.memRead 0x9005 = 0xA5 := by decide

theorem test_V13_R208 :
    let t := ran [0x0A] { start with a := 0x00, b := 0x90, c := 0x00, mem := [(0x9000, 0x21)] }
    t.a = 0x21 ∧ t.pc = 0x8001 ∧ t.r = 0x01 ∧ t.memptr = 0x9001 := by decide

theorem test_V15_R210 :
    let t := ran [0x3A, 0xFF, 0x90] { start with a := 0x00, mem := [(0x90FF, 0x23)] }
    t.a = 0x23 ∧ t.pc = 0x8003 ∧ t.r = 0x01 ∧ t.memptr = 0x9100 := by decide

theorem test_V16_R211 :
    let t := ran [0x02] { start with a := 0x42, b := 0x90, c := 0xFF }
    t.pc = 0x8001 ∧ t.r = 0x01 ∧ t.memptr = 0x4200 ∧ t.a = 0x42 ∧ t.memRead 0x90FF = 0x42 := by decide

theorem test_V18_R213 :
    let t := ran [0x32, 0xFF, 0x90] { start with a := 0x42 }
    t.pc = 0x8003 ∧ t.r = 0x01 ∧ t.memptr = 0x4200 ∧ t.a = 0x42 ∧ t.memRead 0x90FF = 0x42 := by decide

theorem test_V20_R214 :
    let t := ran [0xFD, 0x60] { start with b := 0x99, iy := 0x1234 }
    t.iy = 0x9934 ∧ t.pc = 0x8002 ∧ t.r = 0x02 := by decide

theorem test_V21_R214 :
    let t := ran [0xDD, 0x7D] { start with a := 0x00, ix := 0x12EE }
    t.a = 0xEE ∧ t.pc = 0x8002 ∧ t.r = 0x02 := by decide

theorem test_V22_R215 :
    let t := ran [0xDD, 0x26, 0xAB] { start with ix := 0x0034 }
    t.ix = 0xAB34 ∧ t.pc = 0x8003 ∧ t.r = 0x02 := by decide

theorem test_V24_R221 :
    let t := ran [0xED, 0x47] { start with a := 0x3F, f := 0x00 }
    t.pc = 0x8002 ∧ t.i = 0x3F ∧ t.r = 0x02 ∧ t.a = 0x3F ∧ t.f = 0x00 := by decide

theorem test_V25_R222 :
    let t := ran [0xED, 0x4F] { start with a := 0xFF, f := 0x00 }
    t.pc = 0x8002 ∧ t.r = 0xFF ∧ t.a = 0xFF ∧ t.f = 0x00 := by decide

theorem test_V26_R223 :
    let t := ran [0xED, 0x57] { start with a := 0x00, f := 0x01, i := 0x80, iff2 := true }
    t.a = 0x80 ∧ t.f = 0x85 ∧ t.pc = 0x8002 ∧ t.r = 0x02 ∧ t.q = 0x85 := by decide

theorem test_V29_R224 :
    let t := ran [0xED, 0x5F] { start with f := 0x00, r := 0x7E, iff2 := true }
    t.a = 0x00 ∧ t.f = 0x44 ∧ t.pc = 0x8002 ∧ t.r = 0x00 ∧ t.q = 0x44 := by decide

theorem test_V31_R225 :
    let t := ran [0x31, 0x34, 0x12] start
    t.sp = 0x1234 ∧ t.pc = 0x8003 ∧ t.r = 0x01 := by decide

theorem test_V32_R226 :
    let t := ran [0xFD, 0x21, 0xCD, 0xAB] start
    t.iy = 0xABCD ∧ t.pc = 0x8004 ∧ t.r = 0x02 := by decide

theorem test_V33_R227 :
    let t := ran [0x2A, 0xFF, 0xFF] { start with mem := [(0x0000, 0x12), (0xFFFF, 0x34)] }
    t.h = 0x12 ∧ t.l = 0x34 ∧ t.pc = 0x8003 ∧ t.r = 0x01 := by decide

theorem test_V34_R228 :
    let t := ran [0xED, 0x7B, 0x00, 0x90] { start with mem := [(0x9000, 0xFE), (0x9001, 0xCA)] }
    t.sp = 0xCAFE ∧ t.pc = 0x8004 ∧ t.r = 0x02 ∧ t.memptr = 0x9001 := by decide

theorem test_V36_R229 :
    let t := ran [0xDD, 0x2A, 0x00, 0x90] { start with mem := [(0x9000, 0xFE), (0x9001, 0xCA)] }
    t.ix = 0xCAFE ∧ t.pc = 0x8004 ∧ t.r = 0x02 ∧ t.memptr = 0x9001 := by decide

theorem test_V38_R231 :
    let t := ran [0xED, 0x73, 0xFF, 0xFF] { start with sp := 0xBEEF }
    t.pc = 0x8004 ∧ t.r = 0x02 ∧ t.memRead 0x0000 = 0xBE ∧ t.memRead 0xFFFF = 0xEF := by decide

theorem test_V40_R232 :
    let t := ran [0xFD, 0x22, 0x00, 0x90] { start with iy := 0x1234 }
    t.pc = 0x8004 ∧ t.r = 0x02 ∧ t.memptr = 0x9001 ∧ t.memRead 0x9000 = 0x34 ∧ t.memRead 0x9001 = 0x12 := by decide

theorem test_V41_R233 :
    let t := ran [0xF9] { start with h := 0x12, l := 0x34 }
    t.sp = 0x1234 ∧ t.pc = 0x8001 ∧ t.r = 0x01 := by decide

theorem test_V42_R234 :
    let t := ran [0xDD, 0xF9] { start with ix := 0x4321 }
    t.sp = 0x4321 ∧ t.pc = 0x8002 ∧ t.r = 0x02 := by decide

theorem test_V43_R238 :
    let t := ran [0xEB] { start with d := 0x11, e := 0x22, h := 0x33, l := 0x44 }
    t.d = 0x33 ∧ t.e = 0x44 ∧ t.h = 0x11 ∧ t.l = 0x22 ∧ t.pc = 0x8001 ∧ t.r = 0x01 := by decide

theorem test_V44_R239 :
    let t := ran [0x08] { start with a := 0x12, f := 0x34, q := 0x34, a' := 0x56, f' := 0x78 }
    t.a = 0x56 ∧ t.f = 0x78 ∧ t.pc = 0x8001 ∧ t.r = 0x01 ∧ t.q = 0x00 ∧ t.a' = 0x12 ∧ t.f' = 0x34 := by decide

theorem test_V45_R240 :
    let t := ran [0xD9]
      { start with b := 0x01, c := 0x02, d := 0x03, e := 0x04, h := 0x05, l := 0x06, b' := 0x11, c' := 0x12, d' := 0x13, e' := 0x14, h' := 0x15, l' := 0x16 }
    t.b = 0x11 ∧ t.c = 0x12 ∧ t.d = 0x13 ∧ t.e = 0x14 ∧ t.h = 0x15 ∧ t.l = 0x16 ∧ t.pc = 0x8001 ∧
    t.r = 0x01 ∧ t.b' = 0x01 ∧ t.c' = 0x02 ∧ t.d' = 0x03 ∧ t.e' = 0x04 ∧ t.h' = 0x05 ∧ t.l' = 0x06 := by decide

theorem test_V47_R241 :
    let t := ran [0xE3]
      { start with h := 0x12, l := 0x34, sp := 0xFFFF, mem := [(0x0000, 0x56), (0xFFFF, 0x78)] }
    t.h = 0x56 ∧ t.l = 0x78 ∧ t.pc = 0x8001 ∧ t.r = 0x01 ∧ t.memptr = 0x5678 ∧
    t.memRead 0x0000 = 0x12 ∧ t.memRead 0xFFFF = 0x34 := by decide

theorem test_V48_R242 :
    let t := ran [0xDD, 0xE3]
      { start with ix := 0x1234, sp := 0x9000, mem := [(0x9000, 0x78), (0x9001, 0x56)] }
    t.ix = 0x5678 ∧ t.pc = 0x8002 ∧ t.r = 0x02 ∧ t.memptr = 0x5678 ∧ t.memRead 0x9000 = 0x34 ∧
    t.memRead 0x9001 = 0x12 := by decide

theorem test_V49_R261 :
    let t := ran [0x80] { start with a := 0x7F, f := 0x00, b := 0x01 }
    t.a = 0x80 ∧ t.f = 0x94 ∧ t.pc = 0x8001 ∧ t.r = 0x01 ∧ t.q = 0x94 := by decide

theorem test_V54_R261 :
    let t := ran [0xDD, 0x86, 0xFF]
      { start with a := 0x10, f := 0x00, ix := 0x9000, mem := [(0x8FFF, 0x22)] }
    t.a = 0x32 ∧ t.f = 0x20 ∧ t.pc = 0x8003 ∧ t.r = 0x02 ∧ t.memptr = 0x8FFF ∧ t.q = 0x20 := by decide

theorem test_V55_R261 :
    let t := ran [0xDD, 0x84] { start with a := 0x10, f := 0x00, h := 0x99, ix := 0x2500 }
    t.a = 0x35 ∧ t.f = 0x20 ∧ t.pc = 0x8002 ∧ t.r = 0x02 ∧ t.q = 0x20 := by decide

theorem test_V58_R262 :
    let t := ran [0x8F] { start with a := 0x80, f := 0x01 }
    t.a = 0x01 ∧ t.f = 0x05 ∧ t.pc = 0x8001 ∧ t.r = 0x01 ∧ t.q = 0x05 := by decide

theorem test_V61_R263 :
    let t := ran [0xD6, 0x01] { start with a := 0x80, f := 0x00 }
    t.a = 0x7F ∧ t.f = 0x3E ∧ t.pc = 0x8002 ∧ t.r = 0x01 ∧ t.q = 0x3E := by decide

theorem test_V64_R264 :
    let t := ran [0xDE, 0x7F] { start with a := 0x00, f := 0x01 }
    t.a = 0x80 ∧ t.f = 0x93 ∧ t.pc = 0x8002 ∧ t.r = 0x01 ∧ t.q = 0x93 := by decide

theorem test_V67_R265 :
    let t := ran [0xE6, 0xA8] { start with a := 0xFF, f := 0x01 }
    t.a = 0xA8 ∧ t.f = 0xB8 ∧ t.pc = 0x8002 ∧ t.r = 0x01 ∧ t.q = 0xB8 := by decide

theorem test_V69_R266 :
    let t := ran [0xEE, 0xFF] { start with a := 0x55, f := 0x01 }
    t.a = 0xAA ∧ t.f = 0xAC ∧ t.pc = 0x8002 ∧ t.r = 0x01 ∧ t.q = 0xAC := by decide

theorem test_V71_R267 :
    let t := ran [0xF6, 0x28] { start with a := 0x01, f := 0x00 }
    t.a = 0x29 ∧ t.f = 0x28 ∧ t.pc = 0x8002 ∧ t.r = 0x01 ∧ t.q = 0x28 := by decide

theorem test_V75_R268 :
    let t := ran [0xFD, 0xBE, 0x01]
      { start with a := 0x28, f := 0x00, iy := 0x9000, mem := [(0x9001, 0x28)] }
    t.f = 0x6A ∧ t.pc = 0x8003 ∧ t.r = 0x02 ∧ t.memptr = 0x9001 ∧ t.q = 0x6A ∧ t.a = 0x28 := by decide

theorem test_V76_R269 :
    let t := ran [0x3C] { start with a := 0x7F, f := 0x01 }
    t.a = 0x80 ∧ t.f = 0x95 ∧ t.pc = 0x8001 ∧ t.r = 0x01 ∧ t.q = 0x95 := by decide

theorem test_V80_R271 :
    let t := ran [0xDD, 0x34, 0x02] { start with f := 0x01, ix := 0x9000, mem := [(0x9002, 0x7F)] }
    t.f = 0x95 ∧ t.pc = 0x8003 ∧ t.r = 0x02 ∧ t.memptr = 0x9002 ∧ t.q = 0x95 ∧ t.memRead 0x9002 = 0x80 := by decide

theorem test_V81_R272 :
    let t := ran [0x3D] { start with a := 0x80, f := 0x00 }
    t.a = 0x7F ∧ t.f = 0x3E ∧ t.pc = 0x8001 ∧ t.r = 0x01 ∧ t.q = 0x3E := by decide

theorem test_V86_R274 :
    let t := ran [0xFD, 0x35, 0xFE] { start with f := 0x00, iy := 0x9000 }
    t.f = 0xBA ∧ t.pc = 0x8003 ∧ t.r = 0x02 ∧ t.memptr = 0x8FFE ∧ t.q = 0xBA ∧ t.memRead 0x8FFE = 0xFF := by decide

theorem test_V87_R275 :
    let t := ran [0xDD, 0x24] { start with f := 0x00, ix := 0x7F55 }
    t.f = 0x94 ∧ t.ix = 0x8055 ∧ t.pc = 0x8002 ∧ t.r = 0x02 ∧ t.q = 0x94 := by decide

theorem test_V88_R276 :
    let t := ran [0xFD, 0x2D] { start with f := 0x01, iy := 0x1200 }
    t.f = 0xBB ∧ t.iy = 0x12FF ∧ t.pc = 0x8002 ∧ t.r = 0x02 ∧ t.q = 0xBB := by decide

theorem test_V89_R300 :
    let t := ran [0x09] { start with f := 0xC4, b := 0x00, c := 0x01, h := 0x0F, l := 0xFF }
    t.f = 0xD4 ∧ t.h = 0x10 ∧ t.l = 0x00 ∧ t.pc = 0x8001 ∧ t.r = 0x01 ∧ t.memptr = 0x1000 ∧ t.q = 0xD4 := by decide

theorem test_V94_R301 :
    let t := ran [0xFD, 0x09] { start with f := 0x00, b := 0x10, c := 0x00, iy := 0xF000 }
    t.f = 0x01 ∧ t.iy = 0x0000 ∧ t.pc = 0x8002 ∧ t.r = 0x02 ∧ t.memptr = 0xF001 ∧ t.q = 0x01 := by decide

theorem test_V96_R302 :
    let t := ran [0xED, 0x5A] { start with f := 0x01, d := 0x00, e := 0x00, h := 0x7F, l := 0xFF }
    t.f = 0x94 ∧ t.h = 0x80 ∧ t.l = 0x00 ∧ t.pc = 0x8002 ∧ t.r = 0x02 ∧ t.memptr = 0x8000 ∧ t.q = 0x94 := by decide

theorem test_V98_R303 :
    let t := ran [0xED, 0x42] { start with f := 0x01, b := 0x00, c := 0x00, h := 0x00, l := 0x00 }
    t.f = 0xBB ∧ t.h = 0xFF ∧ t.l = 0xFF ∧ t.pc = 0x8002 ∧ t.r = 0x02 ∧ t.memptr = 0x0001 ∧ t.q = 0xBB := by decide

theorem test_V102_R304 :
    let t := ran [0x03] { start with f := 0x00, b := 0xFF, c := 0xFF }
    t.b = 0x00 ∧ t.c = 0x00 ∧ t.pc = 0x8001 ∧ t.r = 0x01 ∧ t.f = 0x00 := by decide

theorem test_V103_R305 :
    let t := ran [0x3B] { start with f := 0xFF, sp := 0x0000 }
    t.sp = 0xFFFF ∧ t.pc = 0x8001 ∧ t.r = 0x01 ∧ t.f = 0xFF := by decide

theorem test_V104_R306 :
    let t := ran [0xDD, 0x23] { start with ix := 0x00FF }
    t.ix = 0x0100 ∧ t.pc = 0x8002 ∧ t.r = 0x02 := by decide

theorem test_V105_R307 :
    let t := ran [0xFD, 0x2B] { start with iy := 0x0000 }
    t.iy = 0xFFFF ∧ t.pc = 0x8002 ∧ t.r = 0x02 := by decide

theorem test_V109_R308 :
    let t := ran [0x27] { start with a := 0x99, f := 0x01 }
    t.a = 0xF9 ∧ t.f = 0xAD ∧ t.pc = 0x8001 ∧ t.r = 0x01 ∧ t.q = 0xAD := by decide

theorem test_V112_R308 :
    let t := ran [0x27] { start with a := 0xFA, f := 0x13 }
    t.a = 0x94 ∧ t.f = 0x83 ∧ t.pc = 0x8001 ∧ t.r = 0x01 ∧ t.q = 0x83 := by decide

theorem test_V118_R309 :
    let t := ran [0x2F] { start with a := 0xD7, f := 0xC5 }
    t.a = 0x28 ∧ t.f = 0xFF ∧ t.pc = 0x8001 ∧ t.r = 0x01 ∧ t.q = 0xFF := by decide

theorem test_V119_R310 :
    let t := ran [0xED, 0x44] { start with a := 0x80, f := 0x00 }
    t.f = 0x87 ∧ t.pc = 0x8002 ∧ t.r = 0x02 ∧ t.q = 0x87 ∧ t.a = 0x80 := by decide

theorem test_V123_R330 :
    let t := ran [0x07] { start with a := 0x88, f := 0xC4 }
    t.a = 0x11 ∧ t.f = 0xC5 ∧ t.pc = 0x8001 ∧ t.r = 0x01 ∧ t.q = 0xC5 := by decide

theorem test_V125_R331 :
    let t := ran [0x0F] { start with a := 0x01, f := 0x00 }
    t.a = 0x80 ∧ t.f = 0x01 ∧ t.pc = 0x8001 ∧ t.r = 0x01 ∧ t.q = 0x01 := by decide

theorem test_V127_R332 :
    let t := ran [0x17] { start with a := 0x00, f := 0x01 }
    t.a = 0x01 ∧ t.f = 0x00 ∧ t.pc = 0x8001 ∧ t.r = 0x01 := by decide

theorem test_V129_R333 :
    let t := ran [0x1F] { start with a := 0x00, f := 0xD5 }
    t.a = 0x80 ∧ t.f = 0xC4 ∧ t.pc = 0x8001 ∧ t.r = 0x01 ∧ t.q = 0xC4 := by decide

theorem test_V131_R335 :
    let t := ran [0xCB, 0x06] { start with f := 0x00, h := 0x90, l := 0x00, mem := [(0x9000, 0x55)] }
    t.f = 0xAC ∧ t.pc = 0x8002 ∧ t.r = 0x02 ∧ t.q = 0xAC ∧ t.memRead 0x9000 = 0xAA := by decide

theorem test_V132_R336 :
    let t := ran [0xCB, 0x09] { start with f := 0x00, c := 0x01 }
    t.f = 0x81 ∧ t.c = 0x80 ∧ t.pc = 0x8002 ∧ t.r = 0x02 ∧ t.q = 0x81 := by decide

theorem test_V134_R337 :
    let t := ran [0xCB, 0x17] { start with a := 0x7F, f := 0x01 }
    t.a = 0xFF ∧ t.f = 0xAC ∧ t.pc = 0x8002 ∧ t.r = 0x02 ∧ t.q = 0xAC := by decide

theorem test_V136_R338 :
    let t := ran [0xCB, 0x1C] { start with f := 0x01, h := 0x00 }
    t.f = 0x80 ∧ t.h = 0x80 ∧ t.pc = 0x8002 ∧ t.r = 0x02 ∧ t.q = 0x80 := by decide

theorem test_V137_R339 :
    let t := ran [0xCB, 0x25] { start with f := 0x00, l := 0xC0 }
    t.f = 0x81 ∧ t.l = 0x80 ∧ t.pc = 0x8002 ∧ t.r = 0x02 ∧ t.q = 0x81 := by decide

theorem test_V139_R340 :
    let t := ran [0xCB, 0x28] { start with f := 0x01, b := 0x7E }
    t.f = 0x2C ∧ t.b = 0x3F ∧ t.pc = 0x8002 ∧ t.r = 0x02 ∧ t.q = 0x2C := by decide

theorem test_V140_R341 :
    let t := ran [0xCB, 0x37] { start with a := 0x80, f := 0x00 }
    t.a = 0x01 ∧ t.f = 0x01 ∧ t.pc = 0x8002 ∧ t.r = 0x02 ∧ t.q = 0x01 := by decide

theorem test_V143_R342 :
    let t := ran [0xDD, 0xCB, 0x01, 0x3E]
      { start with f := 0x00, ix := 0x9000, mem := [(0x9001, 0xFF)] }
    t.f = 0x29 ∧ t.pc = 0x8004 ∧ t.r = 0x02 ∧ t.memptr = 0x9001 ∧ t.q = 0x29 ∧ t.memRead 0x9001 = 0x7F := by decide

theorem test_V147_R347 :
    let t := ran [0xCB, 0x46]
      { start with f := 0x00, h := 0x90, l := 0x00, memptr := 0x2800, mem := [(0x9000, 0x01)] }
    t.f = 0x38 ∧ t.pc = 0x8002 ∧ t.r = 0x02 ∧ t.q = 0x38 := by decide

theorem test_V149_R348 :
    let t := ran [0xDD, 0xCB, 0xFF, 0x46] { start with f := 0x00, ix := 0x2900 }
    t.f = 0x7C ∧ t.pc = 0x8004 ∧ t.r = 0x02 ∧ t.memptr = 0x28FF ∧ t.q = 0x7C := by decide

theorem test_V151_R348 :
    let t := ran [0xDD, 0xCB, 0x00, 0x47]
      { start with a := 0x00, f := 0x00, ix := 0x9000, mem := [(0x9000, 0x01)] }
    t.f = 0x10 ∧ t.pc = 0x8004 ∧ t.r = 0x02 ∧ t.memptr = 0x9000 ∧ t.q = 0x10 ∧ t.a = 0x00 := by decide

theorem test_V153_R349 :
    let t := ran [0xCB, 0x86] { start with f := 0xFF, h := 0x90, l := 0x00, mem := [(0x9000, 0xFF)] }
    t.pc = 0x8002 ∧ t.r = 0x02 ∧ t.f = 0xFF ∧ t.memRead 0x9000 = 0xFE := by decide

theorem test_V157_R350 :
    let t := ran [0xFD, 0xCB, 0xFB, 0xC6] { start with iy := 0x9005, mem := [(0x9000, 0x10)] }
    t.pc = 0x8004 ∧ t.r = 0x02 ∧ t.memptr = 0x9000 ∧ t.memRead 0x9000 = 0x11 := by decide

theorem test_V158_R351 :
    let t := ran [0xDD, 0xCB, 0x00, 0x00]
      { start with f := 0x00, b := 0x00, ix := 0x9000, mem := [(0x9000, 0x81)] }
    t.f = 0x05 ∧ t.b = 0x03 ∧ t.pc = 0x8004 ∧ t.r = 0x02 ∧ t.memptr = 0x9000 ∧ t.q = 0x05 ∧
    t.memRead 0x9000 = 0x03 := by decide

theorem test_V160_R351 :
    let t := ran [0xDD, 0xCB, 0x00, 0x84]
      { start with h := 0x12, l := 0x34, ix := 0x9000, mem := [(0x9000, 0xFF)] }
    t.h = 0xFE ∧ t.pc = 0x8004 ∧ t.r = 0x02 ∧ t.memptr = 0x9000 ∧ t.memRead 0x9000 = 0xFE := by decide

theorem test_V163_R381 :
    let t := ran [0xED, 0xA0]
      { start with a := 0x20, f := 0x00, b := 0x00, c := 0x01, d := 0xA0, e := 0x00, h := 0x90, l := 0x00, mem := [(0x9000, 0x02)] }
    t.f = 0x20 ∧ t.c = 0x00 ∧ t.e = 0x01 ∧ t.l = 0x01 ∧ t.pc = 0x8002 ∧ t.r = 0x02 ∧ t.q = 0x20 ∧
    t.a = 0x20 ∧ t.memRead 0xA000 = 0x02 := by decide

theorem test_V165_R382 :
    let t := ran [0xED, 0xA8]
      { start with a := 0x00, f := 0x01, b := 0x00, c := 0x10, d := 0xA0, e := 0x00, h := 0x90, l := 0x00, mem := [(0x9000, 0x11)] }
    t.f = 0x05 ∧ t.c = 0x0F ∧ t.d = 0x9F ∧ t.e = 0xFF ∧ t.h = 0x8F ∧ t.l = 0xFF ∧ t.pc = 0x8002 ∧
    t.r = 0x02 ∧ t.q = 0x05 ∧ t.a = 0x00 ∧ t.memRead 0xA000 = 0x11 := by decide

theorem test_V166_R383 :
    let t := ran [0xED, 0xB0]
      { start with a := 0x00, f := 0x00, b := 0x00, c := 0x03, d := 0xA0, e := 0x00, h := 0x90, l := 0x00, mem := [(0x9000, 0x11), (0x9001, 0x22), (0x9002, 0x33)] }
    t.f = 0x04 ∧ t.c = 0x02 ∧ t.e = 0x01 ∧ t.l = 0x01 ∧ t.pc = 0x8000 ∧ t.r = 0x02 ∧
    t.memptr = 0x8001 ∧ t.q = 0x04 ∧ t.a = 0x00 ∧ t.memRead 0xA000 = 0x11 := by decide

theorem test_V172_R385 :
    let t := ran [0xED, 0xA1]
      { start with a := 0x10, f := 0x00, b := 0x00, c := 0x02, h := 0x90, l := 0x00, memptr := 0x1000, mem := [(0x9000, 0x01)] }
    t.f = 0x3E ∧ t.c = 0x01 ∧ t.l = 0x01 ∧ t.pc = 0x8002 ∧ t.r = 0x02 ∧ t.memptr = 0x1001 ∧
    t.q = 0x3E ∧ t.a = 0x10 := by decide

theorem test_V174_R386 :
    let t := ran [0xED, 0xA9]
      { start with a := 0x80, f := 0x00, b := 0x00, c := 0x00, h := 0x90, l := 0x00, memptr := 0x1000, mem := [(0x9000, 0x01)] }
    t.f = 0x3E ∧ t.b = 0xFF ∧ t.c = 0xFF ∧ t.h = 0x8F ∧ t.l = 0xFF ∧ t.pc = 0x8002 ∧ t.r = 0x02 ∧
    t.memptr = 0x0FFF ∧ t.q = 0x3E ∧ t.a = 0x80 := by decide

theorem test_V177_R387 :
    let t := ran [0xED, 0xB1]
      { start with a := 0x99, f := 0x01, b := 0x00, c := 0x02, h := 0x90, l := 0x00, memptr := 0x1000, mem := [(0x9000, 0x11), (0x9001, 0x22)] }
    t.f = 0x8F ∧ t.c = 0x01 ∧ t.l = 0x01 ∧ t.pc = 0x8000 ∧ t.r = 0x02 ∧ t.memptr = 0x8001 ∧
    t.q = 0x8F ∧ t.a = 0x99 := by decide

theorem test_V179_R390 :
    let t := ran [0xED, 0x6F]
      { start with a := 0x7A, f := 0x01, h := 0x90, l := 0x00, mem := [(0x9000, 0x31)] }
    t.a = 0x73 ∧ t.f = 0x21 ∧ t.pc = 0x8002 ∧ t.r = 0x02 ∧ t.memptr = 0x9001 ∧ t.q = 0x21 ∧
    t.memRead 0x9000 = 0x1A := by decide

theorem test_V181_R391 :
    let t := ran [0xED, 0x67]
      { start with a := 0x84, f := 0x00, h := 0x90, l := 0x00, mem := [(0x9000, 0x20)] }
    t.a = 0x80 ∧ t.f = 0x80 ∧ t.pc = 0x8002 ∧ t.r = 0x02 ∧ t.memptr = 0x9001 ∧ t.q = 0x80 ∧
    t.memRead 0x9000 = 0x42 := by decide

theorem test_V183_R411 :
    let t := ran [0xC3, 0x34, 0x12] start
    t.pc = 0x1234 ∧ t.r = 0x01 ∧ t.memptr = 0x1234 := by decide

theorem test_V186_R412 :
    let t := ran [0xFA, 0x34, 0x12] { start with f := 0x80 }
    t.pc = 0x1234 ∧ t.r = 0x01 ∧ t.memptr = 0x1234 ∧ t.f = 0x80 := by decide

theorem test_V190_R413 :
    let t := ran [0x18, 0x80] start
    t.pc = 0x7F82 ∧ t.r = 0x01 ∧ t.memptr = 0x7F82 := by decide

theorem test_V193_R414 :
    let t := ran [0x20, 0x05] { start with f := 0x40, memptr := 0x1111 }
    t.pc = 0x8002 ∧ t.r = 0x01 ∧ t.f = 0x40 := by decide

theorem test_V195_R415 :
    let t := ran [0x10, 0xFE] { start with f := 0x5A, b := 0x02 }
    t.b = 0x01 ∧ t.pc = 0x8000 ∧ t.r = 0x01 ∧ t.memptr = 0x8000 ∧ t.f = 0x5A := by decide

theorem test_V199_R417 :
    let t := ran [0xDD, 0xE9] { start with h := 0x12, l := 0x34, ix := 0x4321 }
    t.pc = 0x4321 ∧ t.r = 0x02 := by decide

theorem test_V201_R418 :
    let t := ran [0xCD, 0x34, 0x12] { start with sp := 0x0001 }
    t.sp = 0xFFFF ∧ t.pc = 0x1234 ∧ t.r = 0x01 ∧ t.memptr = 0x1234 ∧ t.memRead 0x0000 = 0x80 ∧
    t.memRead 0xFFFF = 0x03 := by decide

theorem test_V203_R419 :
    let t := ran [0xC4, 0x34, 0x12] { start with f := 0x40, sp := 0x9000 }
    t.pc = 0x8003 ∧ t.r = 0x01 ∧ t.memptr = 0x1234 ∧ t.f = 0x40 := by decide

theorem test_V204_R419 :
    let t := ran [0xDC, 0x34, 0x12] { start with f := 0x01, sp := 0x9000 }
    t.sp = 0x8FFE ∧ t.pc = 0x1234 ∧ t.r = 0x01 ∧ t.memptr = 0x1234 ∧ t.f = 0x01 ∧
    t.memRead 0x8FFE = 0x03 ∧ t.memRead 0x8FFF = 0x80 := by decide

theorem test_V206_R420 :
    let t := ran [0xC9] { start with sp := 0xFFFF, mem := [(0x0000, 0x12), (0xFFFF, 0x34)] }
    t.sp = 0x0001 ∧ t.pc = 0x1234 ∧ t.r = 0x01 ∧ t.memptr = 0x1234 := by decide

theorem test_V207_R421 :
    let t := ran [0xC0]
      { start with f := 0x40, sp := 0x9000, memptr := 0x1111, mem := [(0x9000, 0x34), (0x9001, 0x12)] }
    t.pc = 0x8001 ∧ t.r = 0x01 ∧ t.f = 0x40 := by decide

theorem test_V209_R422 :
    let t := ran [0xED, 0x4D]
      { start with sp := 0x9000, iff1 := false, iff2 := true, mem := [(0x9000, 0x34), (0x9001, 0x12)] }
    t.sp = 0x9002 ∧ t.pc = 0x1234 ∧ t.r = 0x02 ∧ t.iff1 = true ∧ t.memptr = 0x1234 := by decide

theorem test_V211_R423 :
    let t := ran [0xED, 0x45]
      { start with sp := 0x9000, iff1 := true, iff2 := false, mem := [(0x9000, 0x34), (0x9001, 0x12)] }
    t.sp = 0x9002 ∧ t.pc = 0x1234 ∧ t.r = 0x02 ∧ t.iff1 = false ∧ t.memptr = 0x1234 := by decide

theorem test_V215_R424 :
    let t := ran [0xEF] { start with sp := 0x9000, pc := 0xFFFF }
    t.sp = 0x8FFE ∧ t.pc = 0x0028 ∧ t.r = 0x01 ∧ t.memptr = 0x0028 := by decide

theorem test_V216_R425 :
    let t := ran [0xF5] { start with a := 0x12, f := 0xD7, sp := 0x9000 }
    t.sp = 0x8FFE ∧ t.pc = 0x8001 ∧ t.r = 0x01 ∧ t.a = 0x12 ∧ t.f = 0xD7 ∧ t.memRead 0x8FFE = 0xD7 ∧
    t.memRead 0x8FFF = 0x12 := by decide

theorem test_V218_R426 :
    let t := ran [0xDD, 0xE5] { start with ix := 0x1234, sp := 0x9000 }
    t.sp = 0x8FFE ∧ t.pc = 0x8002 ∧ t.r = 0x02 ∧ t.memRead 0x8FFE = 0x34 ∧ t.memRead 0x8FFF = 0x12 := by decide

theorem test_V219_R427 :
    let t := ran [0xF1]
      { start with a := 0x00, f := 0x00, sp := 0x9000, q := 0x55, mem := [(0x9000, 0xFF), (0x9001, 0x12)] }
    t.a = 0x12 ∧ t.f = 0xFF ∧ t.sp = 0x9002 ∧ t.pc = 0x8001 ∧ t.r = 0x01 ∧ t.q = 0x00 := by decide

theorem test_V221_R428 :
    let t := ran [0xFD, 0xE1] { start with sp := 0x9000, mem := [(0x9000, 0x34), (0x9001, 0x12)] }
    t.iy = 0x1234 ∧ t.sp = 0x9002 ∧ t.pc = 0x8002 ∧ t.r = 0x02 := by decide

theorem test_V222_R452 :
    let t := ran [0xDB, 0xFE] { start with a := 0x7F, f := 0x5A, portInputs := [0xBF] }
    t.a = 0xBF ∧ t.pc = 0x8002 ∧ t.r = 0x01 ∧ t.memptr = 0x7FFF ∧ t.f = 0x5A := by decide

theorem test_V224_R453 :
    let t := ran [0xED, 0x40] { start with f := 0x00, b := 0x12, c := 0x34, portInputs := [0xA8] }
    t.f = 0xA8 ∧ t.b = 0xA8 ∧ t.pc = 0x8002 ∧ t.r = 0x02 ∧ t.memptr = 0x1235 ∧ t.q = 0xA8 := by decide

theorem test_V226_R454 :
    let t := ran [0xED, 0x70] { start with f := 0x00, b := 0x12, c := 0x34, portInputs := [0x81] }
    t.f = 0x84 ∧ t.pc = 0x8002 ∧ t.r = 0x02 ∧ t.memptr = 0x1235 ∧ t.q = 0x84 := by decide

theorem test_V227_R455 :
    let t := ran [0xD3, 0xFF] { start with a := 0x42 }
    t.pc = 0x8002 ∧ t.r = 0x01 ∧ t.memptr = 0x4200 ∧ t.a = 0x42 ∧ t.portHist = [.write 0x42FF 0x42] := by decide

theorem test_V229_R456 :
    let t := ran [0xED, 0x79] { start with a := 0x10, b := 0x7F, c := 0xFD }
    t.pc = 0x8002 ∧ t.r = 0x02 ∧ t.memptr = 0x7FFE ∧ t.a = 0x10 ∧ t.portHist = [.write 0x7FFD 0x10] := by decide

theorem test_V231_R457 :
    let t := ran [0xED, 0x71] { start with b := 0x12, c := 0x34 }
    t.pc = 0x8002 ∧ t.r = 0x02 ∧ t.memptr = 0x1235 ∧ t.portHist = [.write 0x1234 0x00] := by decide

theorem test_V233_R458 :
    let t := ran [0xED, 0xA2]
      { start with f := 0x00, b := 0x01, c := 0xFF, h := 0x90, l := 0x00, portInputs := [0x01] }
    t.f = 0x40 ∧ t.b = 0x00 ∧ t.l = 0x01 ∧ t.pc = 0x8002 ∧ t.r = 0x02 ∧ t.memptr = 0x0200 ∧
    t.q = 0x40 ∧ t.memRead 0x9000 = 0x01 := by decide

theorem test_V234_R459 :
    let t := ran [0xED, 0xAA]
      { start with f := 0x00, b := 0x10, c := 0x00, h := 0x90, l := 0x00, portInputs := [0xFF] }
    t.f = 0x1F ∧ t.b = 0x0F ∧ t.h = 0x8F ∧ t.l = 0xFF ∧ t.pc = 0x8002 ∧ t.r = 0x02 ∧
    t.memptr = 0x0FFF ∧ t.q = 0x1F ∧ t.memRead 0x9000 = 0xFF := by decide

theorem test_V236_R461 :
    let t := ran [0xED, 0xBA]
      { start with f := 0x00, b := 0x01, c := 0x34, h := 0x90, l := 0x00, portInputs := [0x00] }
    t.f = 0x44 ∧ t.b = 0x00 ∧ t.h = 0x8F ∧ t.l = 0xFF ∧ t.pc = 0x8002 ∧ t.r = 0x02 ∧
    t.memptr = 0x0133 ∧ t.q = 0x44 := by decide

theorem test_V237_R462 :
    let t := ran [0xED, 0xA3]
      { start with f := 0x00, b := 0x02, c := 0x34, h := 0x90, l := 0xFF, mem := [(0x90FF, 0x80)] }
    t.f = 0x02 ∧ t.b = 0x01 ∧ t.h = 0x91 ∧ t.l = 0x00 ∧ t.pc = 0x8002 ∧ t.r = 0x02 ∧
    t.memptr = 0x0135 ∧ t.q = 0x02 ∧ t.portHist = [.write 0x0134 0x80] := by decide

theorem test_V239_R463 :
    let t := ran [0xED, 0xAB]
      { start with f := 0x00, b := 0x00, c := 0x34, h := 0x90, l := 0x00, mem := [(0x9000, 0x7F)] }
    t.f = 0xBD ∧ t.b = 0xFF ∧ t.h = 0x8F ∧ t.l = 0xFF ∧ t.pc = 0x8002 ∧ t.r = 0x02 ∧
    t.memptr = 0xFF33 ∧ t.q = 0xBD ∧ t.portHist = [.write 0xFF34 0x7F] := by decide

theorem test_V241_R465 :
    let t := ran [0xED, 0xBB]
      { start with f := 0x00, b := 0x02, c := 0x34, h := 0x90, l := 0x01, mem := [(0x9000, 0x11), (0x9001, 0x22)] }
    t.f = 0x04 ∧ t.b = 0x01 ∧ t.l = 0x00 ∧ t.pc = 0x8000 ∧ t.r = 0x02 ∧ t.memptr = 0x0133 ∧
    t.q = 0x04 ∧ t.portHist = [.write 0x0134 0x22] := by decide

theorem test_V242_R480 :
    let t := ran [0x00] { start with f := 0x55, skipInt := true, q := 0x55 }
    t.pc = 0x8001 ∧ t.r = 0x01 ∧ t.skipInt = false ∧ t.q = 0x00 ∧ t.f = 0x55 := by decide

theorem test_V243_R481 :
    let t := ran [0x76] start
    t.pc = 0x8001 ∧ t.r = 0x01 ∧ t.halted = true := by decide

theorem test_V245_R482 :
    let t := ran [0xF3] { start with iff1 := true, iff2 := true }
    t.pc = 0x8001 ∧ t.r = 0x01 ∧ t.iff1 = false ∧ t.iff2 = false := by decide

theorem test_V246_R483 :
    let t := ran [0xFB] start
    t.pc = 0x8001 ∧ t.r = 0x01 ∧ t.iff1 = true ∧ t.iff2 = true ∧ t.skipInt = true := by decide

theorem test_V250_R485 :
    let t := ran [0xED, 0x46] { start with im := .im1 }
    t.pc = 0x8002 ∧ t.r = 0x02 ∧ t.im = .im0 := by decide

theorem test_V251_R485 :
    let t := ran [0xED, 0x56] { start with im := .im2 }
    t.pc = 0x8002 ∧ t.r = 0x02 ∧ t.im = .im1 := by decide

theorem test_V252_R485 :
    let t := ran [0xED, 0x5E] { start with im := .im0 }
    t.pc = 0x8002 ∧ t.r = 0x02 ∧ t.im = .im2 := by decide

theorem test_V259_R486 :
    let t := ran [0x37] { start with a := 0x00, f := 0x28, q := 0x00 }
    t.f = 0x29 ∧ t.pc = 0x8001 ∧ t.r = 0x01 ∧ t.q = 0x29 ∧ t.a = 0x00 := by decide

theorem test_V263_R486 :
    let t := ran [0x37] { start with a := 0x20, f := 0x08, q := 0x08 }
    t.f = 0x21 ∧ t.pc = 0x8001 ∧ t.r = 0x01 ∧ t.q = 0x21 ∧ t.a = 0x20 := by decide

theorem test_V266_R487 :
    let t := ran [0x3F] { start with a := 0x00, f := 0x00, q := 0x00 }
    t.f = 0x01 ∧ t.pc = 0x8001 ∧ t.r = 0x01 ∧ t.q = 0x01 ∧ t.a = 0x00 := by decide

theorem test_V268_R487 :
    let t := ran [0x3F] { start with a := 0x00, f := 0x29, q := 0x00 }
    t.f = 0x38 ∧ t.pc = 0x8001 ∧ t.r = 0x01 ∧ t.q = 0x38 ∧ t.a = 0x00 := by decide

theorem test_V270_R153 :
    let t := ranPlain [(0x8000, 0xDD), (0x8001, 0x21), (0x8002, 0x34), (0x8003, 0x12)]
      { start with f := 0x55, q := 0x55 }
    t.pc = 0x8001 ∧ t.r = 0x00 ∧ t.pfx = some .dd ∧ t.f = 0x55 := by decide

theorem test_V275_R156 :
    let t := ran [0xDD, 0xCB, 0x00, 0xC6] { start with ix := 0x9000, r := 0xFE }
    t.pc = 0x8004 ∧ t.r = 0x80 ∧ t.memptr = 0x9000 ∧ t.memRead 0x9000 = 0x01 := by decide

theorem test_V276_R163 :
    let t := ran [0xDD, 0x00] start
    t.pc = 0x8001 ∧ t.r = 0x00 ∧ t.fault = some 0xDD00 := by decide

theorem test_V285_R151 :
    let t := ranPlain [] { start with r := 0x10, halted := true, q := 0x44 }
    t.pc = 0x8000 ∧ t.r = 0x10 ∧ t.q = 0x00 := by decide

theorem test_V287_R151 :
    let t := ranPlain [] { start with iff1 := false, im := .im1, halted := true, intPending := true }
    t.pc = 0x8000 ∧ t.r = 0x00 := by decide

theorem test_V288_R151 :
    let t := ranPlain [] { start with halted := true, skipInt := true, nmiPending := true }
    t.pc = 0x8000 ∧ t.r = 0x00 := by decide

theorem test_V290_R505 :
    let t := ran [0x00]
      { start with sp := 0x9000, iff1 := false, iff2 := true, nmiPending := true, intData := 0xFF }
    t.sp = 0x8FFE ∧ t.pc = 0x0066 ∧ t.r = 0x01 ∧ t.iff2 = false ∧ t.memptr = 0x0066 ∧
    t.nmiPending = false ∧ t.memRead 0x8FFE = 0x01 ∧ t.memRead 0x8FFF = 0x80 := by decide

theorem test_V291_R505 :
    let t := ran [0x00]
      { start with sp := 0x9000, iff1 := true, iff2 := true, im := .im1, nmiPending := true, intPending := true, intData := 0xFF }
    t.sp = 0x8FFE ∧ t.pc = 0x0066 ∧ t.r = 0x01 ∧ t.iff1 = false ∧ t.memptr = 0x0066 ∧
    t.nmiPending = false ∧ t.memRead 0x8FFE = 0x01 ∧ t.memRead 0x8FFF = 0x80 := by decide

theorem test_V292_R511 :
    let t := ran [0x00]
      { start with sp := 0x9000, iff1 := true, iff2 := true, im := .im0, intPending := true, intData := 0xFF }
    t.sp = 0x8FFE ∧ t.pc = 0x0038 ∧ t.r = 0x01 ∧ t.iff1 = false ∧ t.iff2 = false ∧
    t.memptr = 0x0038 ∧ t.intPending = false ∧ t.memRead 0x8FFE = 0x01 ∧ t.memRead 0x8FFF = 0x80 := by decide

theorem test_V295_R512 :
    let t := ran [0x00, 0x34, 0x12]
      { start with sp := 0x9000, iff1 := true, iff2 := true, im := .im0, intPending := true, intData := 0xCD }
    t.sp = 0x8FFE ∧ t.pc = 0x1234 ∧ t.r = 0x01 ∧ t.iff1 = false ∧ t.iff2 = false ∧
    t.memptr = 0x1234 ∧ t.intPending = false ∧ t.memRead 0x8FFE = 0x01 ∧ t.memRead 0x8FFF = 0x80 := by decide

theorem test_V296_R512 :
    let t := ran [0x00, 0x34, 0x12]
      { start with sp := 0x8003, iff1 := true, iff2 := true, im := .im0, intPending := true, intData := 0xCD }
    t.sp = 0x8001 ∧ t.pc = 0x8001 ∧ t.r = 0x01 ∧ t.iff1 = false ∧ t.iff2 = false ∧
    t.memptr = 0x8001 ∧ t.intPending = false ∧ t.memRead 0x8001 = 0x01 ∧ t.memRead 0x8002 = 0x80 := by decide

theorem test_V297_R515 :
    let t := ran [0x00]
      { start with sp := 0x9000, iff1 := true, iff2 := true, im := .im0, intPending := true, intData := 0x00 }
    t.pc = 0x8001 ∧ t.r = 0x01 ∧ t.iff1 = false ∧ t.iff2 = false ∧ t.intPending = false := by decide

theorem test_V300_R514 :
    let t := ran [0x00]
      { start with sp := 0x9000, i := 0x90, iff1 := true, iff2 := true, im := .im2, intPending := true, intData := 0xFE, mem := [(0x90FE, 0x34), (0x90FF, 0x12)] }
    t.sp = 0x8FFE ∧ t.pc = 0x1234 ∧ t.r = 0x01 ∧ t.iff1 = false ∧ t.iff2 = false ∧
    t.memptr = 0x1234 ∧ t.intPending = false ∧ t.memRead 0x8FFE = 0x01 ∧ t.memRead 0x8FFF = 0x80 := by decide

theorem test_V302_R514 :
    let t := ran [0x00]
      { start with sp := 0x9000, i := 0xFF, iff1 := true, iff2 := true, im := .im2, intPending := true, intData := 0xFF, mem := [(0x0000, 0x12), (0xFFFF, 0x34)] }
    t.sp = 0x8FFE ∧ t.pc = 0x1234 ∧ t.r = 0x01 ∧ t.iff1 = false ∧ t.iff2 = false ∧
    t.memptr = 0x1234 ∧ t.intPending = false ∧ t.memRead 0x8FFE = 0x01 ∧ t.memRead 0x8FFF = 0x80 := by decide

theorem test_V303_R506 :
    let t := ran [0x00]
      { start with sp := 0x9000, iff1 := false, iff2 := true, im := .im1, intPending := true, intData := 0xFF }
    t.pc = 0x8001 ∧ t.r = 0x01 := by decide

theorem test_V304_R504 :
    let t := ran [0xFB]
      { start with sp := 0x9000, iff1 := true, iff2 := true, im := .im1, skipInt := true, intPending := true, intData := 0xFF }
    t.pc = 0x8001 ∧ t.r = 0x01 := by decide

/-! ### The fixed functions on table words -/

theorem test_decodeTableWord_main : decodeTableWord 8 0x41 = some .ld_b_c := by decide
theorem test_decodeTableWord_operand_zero : decodeTableWord 8 0x21 = some (.ld_hl_nn 0) := by decide
theorem test_decodeTableWord_prefixed : decodeTableWord 32 0xC605CBDD = some (.set_0_ixd 5) := by decide
theorem test_decodeTableWord_bare : decodeTableWord 8 0xED = some .prefix_ed := by decide
theorem test_withFetchWord_reset :
    (ran [0x3E, 0x7F] State.reset).a = 0x7F ∧ (ran [0x3E, 0x7F] State.reset).pc = 2 := by decide

/-! ### Timing (R560, R561: 21 and 16 T-states, 4 of them the prefix step's) -/

theorem test_reportedCycles_ldir :
    reportedCycles .ldir { start with c := 2 } = 17 ∧ reportedCycles .ldir { start with c := 1 } = 12 := by decide

/-! ### Witnesses of the statements' hypotheses, clause by clause -/

/-! ### The port-write hook (R88: it runs before the same step's controller accesses) -/

theorem test_hook_before_controller :
    let t := ran [0xD3, 0xFF]
      { start with a := 0x42, im := .im2, i := 0x3B, intData := 0xFE, intPending := true, iff1 := true,
                   sp := 0x9000, portHooks := [[(0x3BFE, 0x34), (0x3BFF, 0x12)]] }
    t.pc = 0x1234 ∧ t.portHooks = [] ∧ t.memRead 0x3BFF = 0x12 ∧ t.memRead 0x8FFE = 0x02 := by decide

/-- Without a hook, and with one that rewrites a byte twice. -/
theorem witness_PortOutput :
    start.portHooks = [] ∧
    (let s : State := { start with portHooks := [[(0xFFFF, 0x11), (0xFFFF, 0x22)]] }
     ∃ t, exec .out_portC_0 s = .next t ∧ t.memRead 0xFFFF = 0x22) :=
  ⟨rfl, _, rfl, by decide⟩

theorem witness_BitwiseLogic :
    (AluOp.and = .and ∨ AluOp.and = .xor ∨ AluOp.and = .or) ∧
    (AluOp.xor = .and ∨ AluOp.xor = .xor ∨ AluOp.xor = .or) ∧
    (AluOp.or = .and ∨ AluOp.or = .xor ∨ AluOp.or = .or) := by decide

theorem witness_OperandForms :
    (∃ t, exec (.alu .add (.r .b)) start = .next t) ∧ (∃ t, exec (.alu .cp (.n 0xFF)) start = .next t) ∧
    (∃ t, exec (.alu .sub .hl) start = .next t) ∧
    (∃ t, exec (.alu .sbc (.idx .ix 0x80)) start = .next t) ∧
    (∃ t, exec (.alu .or (.half .iy .lo)) start = .next t) :=
  ⟨⟨_, rfl⟩, ⟨_, rfl⟩, ⟨_, rfl⟩, ⟨_, rfl⟩, ⟨_, rfl⟩⟩

theorem witness_EveryInstructionCompletes : start.fault = none ∧ stepWith true start =
    .next { start with pc := 0x8001, r := 1 } := ⟨rfl, rfl⟩

theorem witness_ShadowBankOnlyByExchange :
    Instr.ex_de_hl ≠ .ex_af_afAlt ∧ Instr.ex_de_hl ≠ .exx ∧ ∃ t, exec .ex_de_hl start = .next t :=
  ⟨by decide, by decide, _, rfl⟩

/-- Each clause of the frame has an instruction it speaks of, and its exceptions run too. -/
theorem witness_ControlStateFrame :
    (∃ t, exec .nop start = .next t) ∧ (∀ y, Instr.nop ≠ .retRow y) ∧ (∀ y, Instr.nop ≠ .imRow y) ∧
    (∀ p, Instr.nop ≠ .prefixOf p) ∧ (∃ t, exec .ei start = .next t) ∧
    (∃ t, exec .reti start = .next t) ∧ (∃ t, exec .prefix_dd start = .next t) :=
  ⟨⟨_, rfl⟩, by intro y; cases y <;> decide, by intro y; cases y <;> decide,
    by intro p; cases p <;> decide, ⟨_, rfl⟩, ⟨_, rfl⟩, ⟨_, rfl⟩⟩

theorem witness_QLatchLaw :
    (∃ t, exec .prefix_ed start = .next t) ∧ Instr.prefix_ed.desc.category = .bare ∧
    (∃ t, exec .scf start = .next t ∧ writesFlags Instr.scf.form = true) ∧
    (∃ t, exec .nop start = .next t ∧ writesFlags Instr.nop.form = false ∧
      Instr.nop.desc.category ≠ .bare) ∧
    (∃ t, exec .pop_af start = .next t) :=
  ⟨⟨_, rfl⟩, rfl, ⟨_, rfl, rfl⟩, ⟨_, rfl, rfl, by decide⟩, ⟨_, rfl⟩⟩

/-- One witness per category: a bare prefix, EI, and a prefixed `normal` instruction. -/
theorem witness_StepRunsDecodedInstruction :
    start.fault = none ∧ start.halted = false ∧ Instr.WellFormed .prefix_dd ∧
    decodeStep Config.undocRegistered none 0xDD 0 0 = .ok .prefix_dd ∧
    decodeStep Config.undocRegistered none 0xFB 0 0 = .ok .ei ∧
    decodeStep Config.undocRegistered (some .ed) 0x44 0 0 = .ok .neg ∧
    ({ start with mem := [(0x8000, 0xDD)] } : State).memRead start.pc = 0xDD := by decide

theorem witness_RefreshIncrement :
    decodeStep true none 0xCB 0 0 = .ok .prefix_cb ∧ decodeStep true (some .cb) 0x00 0 0 = .ok .rlc_b ∧
    decodeStep true none 0x00 0 0 = .ok .nop := by decide

theorem witness_AbsentIndexFaults :
    (let s : State := { start with pfx := some .dd }
     s.fault = none ∧ s.halted = false ∧
       decodeStep Config.undocRegistered s.pfx (s.memRead s.pc) (s.memRead (s.pc + 1))
         (s.memRead (s.pc + 2)) = .absent 0xDD00) ∧
    ({ start with fault := some 0xDD00 } : State).fault = some 0xDD00 := by decide

/-- A setter that would clear the latch, on a core whose latch is set. -/
theorem witness_AbsentIndexFaults_setters :
    let s : State := { start with fault := some 0xDD00 }
    s.fault = some 0xDD00 ∧ (∀ e x y, HostMove.restore start ≠ .reset e x y) ∧
      (s.hostMove (.restore start)).fault = some 0xDD00 ∧ (s.hostMove (.reset 0 0 0)).fault = none :=
  ⟨rfl, nofun, rfl, rfl⟩

theorem witness_HaltedStep :
    (let s : State := { start with halted := true }
     s.fault = none ∧ s.halted = true) ∧
    (let s : State := { start with halted := true, intPending := true }
     s.fault = none ∧ s.haltHang) :=
  ⟨⟨rfl, rfl⟩, rfl, rfl, .inr ⟨rfl, rfl⟩⟩

/-- `JR -2` and `JP (IX)` at PC hang; a NOP at PC is the end of a run that is to stop there. -/
theorem witness_HaltedStep_runs :
    (let s : State := { start with mem := [(0x8000, 0x18), (0x8001, 0xFE)] }
     s.fault = none ∧ s.jumpHang) ∧
    (let s : State := { start with ix := 0x8000, mem := [(0x8000, 0xDD), (0x8001, 0xE9)] }
     s.fault = none ∧ s.jumpHang) ∧
    (start.hasStep ∧ start.halted = false ∧ start.pfx = none ∧ start.jumpTarget ≠ some start.pc) ∧
    start.finalAt 0x8000 :=
  ⟨by decide, by decide, by decide, by decide⟩

theorem witness_PrefixStep :
    let s : State := { start with mem := [(0x8000, 0xFD)], nmiPending := true }
    s.fault = none ∧ s.halted = false ∧ s.pfx = none ∧ s.memRead s.pc = Pfx.byte .fd := by decide

theorem witness_ControllerPriority :
    ({ start with skipInt := true, nmiPending := true } : State).skipInt = true ∧
    (let s : State := { start with nmiPending := true, intPending := true, iff1 := true }
     s.skipInt = false ∧ s.nmiPending = true) ∧
    (let s : State := { start with intPending := true, iff1 := true }
     s.skipInt = false ∧ s.nmiPending = false ∧ s.intPending = true ∧ s.iff1 = true) ∧
    (let s : State := { start with intPending := true }
     s.nmiPending = false ∧ (s.intPending = false ∨ s.iff1 = false)) := by decide

/-- The push at SP = 0001 wraps. -/
theorem witness_NmiEntry :
    let s : State := { start with sp := 1, nmiPending := true }
    s.skipInt = false ∧ s.nmiPending = true ∧ s.interruptController.memRead 0xFFFF = 0x00 ∧
      s.interruptController.memRead 0x0000 = 0x80 := by decide

/-- One state for each case of the dispatch; the last case transfers no control. -/
theorem witness_IntEntry :
    let s : State := { start with intPending := true, iff1 := true }
    (s.skipInt = false ∧ s.nmiPending = false ∧ s.intPending = true ∧ s.iff1 = true) ∧
    ({ s with intData := 0xFF } : State).intData &&& 0xC7 = 0xC7 ∧
    ({ s with intData := 0xCD } : State).intData &&& 0xC7 ≠ 0xC7 ∧
    ({ s with im := .im2, i := 0xFF, intData := 0xFF } : State).interruptController.pc = 0 ∧
    ({ s with intData := 0xC4 } : State).interruptController.pc = s.pc := by decide

theorem witness_EiShadow :
    (let s : State := { start with mem := [(0x8000, 0xFB)], intPending := true }
     s.fault = none ∧ s.halted = false ∧ s.pfx = none ∧ s.memRead s.pc = 0xFB) ∧
    (let s : State := { start with skipInt := true }
     s.fault = none ∧ s.halted = false ∧ Instr.nop.desc.category = .normal ∧
       decodeStep Config.undocRegistered s.pfx (s.memRead s.pc) (s.memRead (s.pc + 1))
         (s.memRead (s.pc + 2)) = .ok .nop ∧ ∃ t, step s = .next t) :=
  ⟨by decide, by decide, by decide, by decide, by decide, _, rfl⟩

theorem witness_DecodeOfEncode :
    Instr.registered false (.ld_ixd_n 0x80 0xFF) = true ∧
    (Instr.ld_ixd_n 0x80 0xFF).desc.category ≠ .bare ∧
    Instr.registered false .prefix_cb = true ∧ Instr.prefix_cb.desc.category = .bare := by decide

theorem witness_EncodeOfDecode :
    decodeBytes true [0xED, 0x4B, 0xFF, 0xFF, 0x00] = .ok (.ld_bc_mnn 0xFFFF) [0x00] := by decide

theorem witness_RegisteredEntries :
    decodeStep true (some .ed) 0x77 0 0 = .absent 0xED77 ∧ decodeStep true (some .ed) 0x40 0 0 = .ok .in_b_portC ∧
    decodeStep true (some .ed) 0xA3 0 0 = .ok .outi ∧ decodeStep true (some .ed) 0xA4 0 0 = .absent 0xEDA4 ∧
    decodeStep true (some .dd) 0x76 0 0 = .absent 0xDD76 ∧
    decodeStep true (some .fd) 0x7F 0 0 = .absent 0xFD7F := by decide

theorem witness_InvariantStep : start.Inv ∧ ∃ t, stepWith true start = .next t :=
  ⟨⟨rfl, fun h => by cases h⟩, _, rfl⟩

end Sys2Proof.Tests
end

/-! ## The background: what ordinary actions neither read nor write

The shadow bank and the control state are named in the actions of twelve forms only. Every other action
commutes with a change of them (`Form.exec_withBackground`); so it answers the same whatever they hold,
and, with the background it starts from put in place of itself, it keeps them. -/

namespace Sys2Proof.Machine

/-- `s` with the shadow bank of `bank` (R31). -/
def State.withShadow (s bank : State) : State :=
  { s with a' := bank.a', f' := bank.f', b' := bank.b', c' := bank.c', d' := bank.d',
           e' := bank.e', h' := bank.h', l' := bank.l' }

/-- `s` with the control state of `o`: I, R, the interrupt flip-flops and mode, the latches and the
interrupt line (R36, R37, R40 to R44, R48, R49). -/
def State.withControl (s o : State) : State :=
  { s with i := o.i, r := o.r, iff1 := o.iff1, iff2 := o.iff2, im := o.im, halted := o.halted
           skipInt := o.skipInt, pfx := o.pfx, fault := o.fault, nmiPending := o.nmiPending
           intPending := o.intPending, intData := o.intData }

/-- `s` with the background of `o`: its shadow bank and its control state. -/
def State.withBackground (s o : State) : State := (s.withShadow o).withControl o

/-- A result whose next state has the background of `o`. -/
def withBackgroundAfter (o : State) : Result → Result
  | .next t => .next (t.withBackground o)
  | .fault e => .fault e
  | .refused e => .refused e

section
variable (s o : State)

theorem setR8_withBackground (r : R8) (v : Byte) :
    (s.withBackground o).setR8 r v = (s.setR8 r v).withBackground o := by cases r <;> rfl

theorem setPair_withBackground (p : Pair) (v : Word) :
    (s.withBackground o).setPair p v = (s.setPair p v).withBackground o := by cases p <;> rfl

theorem setPair2_withBackground (p : Pair2) (v : Word) :
    (s.withBackground o).setPair2 p v = (s.setPair2 p v).withBackground o := by cases p <;> rfl

theorem setXy_withBackground (x : Xy) (v : Word) :
    (s.withBackground o).setXy x v = (s.setXy x v).withBackground o := by cases x <;> rfl

theorem setHalf_withBackground (x : Xy) (k : Half) (v : Byte) :
    (s.withBackground o).setHalf x k v = (s.setHalf x k v).withBackground o := by
  cases x <;> cases k <;> rfl

theorem setMemptr_withBackground (v : Word) :
    (s.withBackground o).setMemptr v = (s.setMemptr v).withBackground o := rfl

theorem memWrite_withBackground (a : Word) (v : Byte) :
    (s.withBackground o).memWrite a v = (s.memWrite a v).withBackground o := rfl

theorem memWrite2_withBackground (a v : Word) :
    (s.withBackground o).memWrite2 a v = (s.memWrite2 a v).withBackground o := rfl

theorem push16_withBackground (v : Word) :
    (s.withBackground o).push16 v = (s.push16 v).withBackground o := rfl

theorem exchangeAtSp_withBackground (v : Word) :
    exchangeAtSp v (s.withBackground o) = (exchangeAtSp v s).withBackground o := rfl

theorem portWrite_withBackground (pa : Word) (v : Byte) :
    (s.withBackground o).portWrite pa v = (s.portWrite pa v).withBackground o := rfl

theorem hl_withBackground : (s.withBackground o).hl = s.hl := rfl

theorem ea_withBackground (x : Xy) (d : Byte) : (s.withBackground o).ea x d = s.ea x d := rfl

theorem writeDst8_withBackground (dst : Dst8) (v : Byte) :
    writeDst8 dst v (s.withBackground o) = (writeDst8 dst v s).withBackground o := by
  cases dst <;>
    simp only [writeDst8, hl_withBackground, ea_withBackground, setR8_withBackground,
      setHalf_withBackground, memWrite_withBackground, setMemptr_withBackground]

theorem writeM8_withBackground (m : M8) (v : Byte) :
    writeM8 m v (s.withBackground o) = (writeM8 m v s).withBackground o := by
  cases m <;>
    simp only [writeM8, hl_withBackground, ea_withBackground, setR8_withBackground,
      memWrite_withBackground, setMemptr_withBackground]

end
end Sys2Proof.Machine

namespace Sys2Proof
open Machine

/-- The forms whose action reads or writes the background: they are dealt with one by one. -/
def Form.touchesBackground (f : Form) : Bool :=
  match f with
  | .ex_af_afAlt | .exx | .ei | .di | .retRow _ | .imRow _ | .ld_i_a | .ld_r_a | .ld_a_i | .ld_a_r
  | .halt | .prefixOf _ => true
  | _ => false

/-- Every other action neither reads nor writes the background. -/
theorem Form.exec_withBackground {f : Form} (hf : f.touchesBackground = false) (s o : State) :
    f.exec (s.withBackground o) = withBackgroundAfter o (f.exec s) := by
  cases f with
  | ex_af_afAlt | exx | ei | di | retRow | imRow | ld_i_a | ld_r_a | ld_a_i | ld_a_r | halt | prefixOf =>
    cases hf
  | ldRR | ldRN | ldRHl | ldRXy | ldPlainHalf | inR =>
    simp only [Form.exec, loadRegReg_eq, loadRegImm_eq, loadRegHl_eq, loadRegIdx_eq, loadPlainHalf_eq,
      inRegC_eq, setR8_withBackground]
    rfl
  | ldHalfPlain | ldHalfHalf | ldHalfN =>
    simp only [Form.exec, loadHalfPlain_eq, loadHalfHalf_eq, loadHalfImm_eq, setHalf_withBackground]
    rfl
  | ldPairNn | ldPairMnn | incPair | decPair =>
    simp only [Form.exec, loadPairImm_eq, loadPairDirect_eq, incrementPair_eq, decrementPair_eq,
      setPair_withBackground]
    rfl
  | pop =>
    simp only [Form.exec, popPair_eq, setPair2_withBackground]
    rfl
  | ldXyNn | ldXyMnn | incXy | decXy | addXy | popXy =>
    simp only [Form.exec, loadXyImm_eq, loadXyDirect_eq, incrementXy_eq, decrementXy_eq, addXyPair_eq,
      popXyReg_eq, setXy_withBackground]
    rfl
  | ldHlR | ldXyR | ldXyN | ld_mhl_n | ld_mbc_a | ld_mde_a | ld_mnn_a | rrd | rld =>
    simp only [Form.exec, storeHlReg_eq, storeIdxReg_eq, storeIdxImm_eq, storeHlImm_eq, storeABc,
      storeADe, storeADirect, storeATo_eq, rotateDigitRight_eq, rotateDigitLeft_eq,
      memWrite_withBackground]
    rfl
  | ldMnnPair | ldMnnXy | ld_mnn_hl =>
    simp only [Form.exec, storePairDirect, storeXyDirect, storeHlDirect, storeWordAt_eq,
      memWrite2_withBackground]
    rfl
  | exSpXy | ex_msp_hl =>
    simp only [Form.exec, exchangeStackXy_eq, exchangeStackHl_eq, exchangeAtSp_withBackground,
      setXy_withBackground]
    rfl
  | push | pushXy | rst | call_nn =>
    simp only [Form.exec, pushPair_eq, pushXyReg_eq, restart_eq, callTo_eq, push16_withBackground]
    rfl
  | inc8 | dec8 =>
    simp only [Form.exec, increment8_eq, decrement8_eq, writeDst8_withBackground]
    rfl
  | rot | res | set =>
    simp only [Form.exec, rotateShift_eq, bitReset_eq, bitSet_eq, writeM8_withBackground]
    rfl
  | ldStep | inStep | inRep =>
    simp only [Form.exec, blockLoadOnce_eq, blockLoadMove_eq, blockInOnce_eq, blockInRepeat_eq,
      blockInMove_eq, memWrite_withBackground]
    rfl
  | outR | out_portN_a | out_portC_0 | outStep | outRep =>
    simp only [Form.exec, outCReg, outCZero, outC_eq, outPortA_eq, blockOutOnce_eq, blockOutRepeat_eq,
      blockOutMove_eq, portWrite_withBackground]
    rfl
  | jrCc | callCc | retCc | djnz_e | ldRep | cpRep =>
    simp only [Form.exec, jumpRelativeIf_eq, callIf_eq, returnIf_eq, decrementJump_eq,
      blockLoadRepeat_eq, blockLoadMove_eq, blockCompareRepeat_eq, push16_withBackground,
      memWrite_withBackground, apply_ite (withBackgroundAfter o)]
    rfl
  | alu | bit | jpCc =>
    simp only [Form.exec, aluAccumulator_eq, bitTest_eq, jumpIf_eq]
    rfl
  | _ => rfl

theorem Form.withBackground_of_exec {f : Form} (hf : f.touchesBackground = false) {s t : State}
    (h : f.exec s = .next t) (o : State) : f.exec (s.withBackground o) = .next (t.withBackground o) := by
  rw [Form.exec_withBackground hf, h]; rfl

/-- An action that does not touch the background keeps it: with the background it starts from put in
place of itself, it answers the same. -/
theorem Form.background_kept {f : Form} (hf : f.touchesBackground = false) {s t : State}
    (h : f.exec s = .next t) : t.withBackground s = t := by
  have hs : f.exec s = .next (t.withBackground s) := Form.withBackground_of_exec hf h s
  rw [h] at hs
  exact (Host.Outcome.next.inj hs).symm

theorem Form.control_kept {f : Form} (hf : f.touchesBackground = false) {s t : State}
    (h : f.exec s = .next t) : t.withControl s = t := by
  rw [← Form.background_kept hf h]; rfl

/-- No action but the two exchanges reads the shadow bank. -/
theorem Form.exec_withShadow {f : Form} (haf : f ≠ .ex_af_afAlt) (hxx : f ≠ .exx) {s t : State}
    (h : f.exec s = .next t) (bank : State) :
    f.exec (s.withShadow bank) = .next (t.withShadow bank) := by
  cases hf : f.touchesBackground with
  | false =>
    have hw : f.exec (s.withShadow bank) = .next ((t.withBackground s).withShadow bank) :=
      Form.withBackground_of_exec hf h (s.withShadow bank)
    rwa [Form.background_kept hf h] at hw
  | true =>
    cases f with
    | ex_af_afAlt => exact absurd rfl haf
    | exx => exact absurd rfl hxx
    | ei | di | retRow | imRow | ld_i_a | ld_r_a | ld_a_i | ld_a_r | halt | prefixOf => cases h; rfl
    | _ => cases hf

end Sys2Proof

/-! ## The shadow bank (O40) -/

namespace Sys2Proof
open Machine

/-- An instruction that is not the row of a form has another form. -/
theorem form_ne {i : Instr} {f : Form} (h : i ≠ f.instr) : i.form ≠ f := by
  rintro rfl
  exact h (instr_form i).symm

/-- Settles O40. That no other action reads the bank is `Form.exec_withShadow`; that none writes it
follows, with the bank the action starts from put in place of itself. -/
theorem shadowBankOnlyByExchange : Obligations.ShadowBankOnlyByExchange := by
  intro i s t bank haf hxx h
  rw [exec_form] at h
  have hread : ∀ b, i.form.exec (s.withShadow b) = .next (t.withShadow b) :=
    Form.exec_withShadow (form_ne haf) (form_ne hxx) h
  have hkept : t = t.withShadow s := by
    have hs := hread s
    rw [show s.withShadow s = s from rfl, h] at hs
    exact Host.Outcome.next.inj hs
  refine ⟨?_, by rw [exec_form]; exact hread bank⟩
  rw [hkept]
  exact ⟨rfl, rfl, rfl, rfl, rfl, rfl, rfl, rfl⟩

end Sys2Proof

/-! ## The control state (O41) -/

namespace Sys2Proof
open Machine

/-- What the control state after `i` owes to the state before. -/
def ControlFrame (i : Instr) (s t : State) : Prop :=
  ((∀ y, i ≠ .retRow y) → i ≠ .ei → i ≠ .di → t.iff1 = s.iff1) ∧
    (i ≠ .ei → i ≠ .di → t.iff2 = s.iff2) ∧
    ((∀ y, i ≠ .imRow y) → t.im = s.im) ∧
    (i ≠ .ld_i_a → t.i = s.i) ∧
    (i ≠ .ld_r_a → t.r = s.r) ∧
    (i ≠ .halt → t.halted = s.halted) ∧
    (i ≠ .ei → t.skipInt = s.skipInt) ∧
    ((∀ p, i ≠ .prefixOf p) → t.pfx = s.pfx) ∧
    t.fault = s.fault ∧ t.nmiPending = s.nmiPending ∧ t.intPending = s.intPending ∧
    t.intData = s.intData

theorem controlFrame_of_kept (i : Instr) {s t : State} (h : t.withControl s = t) :
    ControlFrame i s t := by
  rw [← h]
  exact ⟨fun _ _ _ => rfl, fun _ _ => rfl, fun _ => rfl, fun _ => rfl, fun _ => rfl, fun _ => rfl,
    fun _ => rfl, fun _ => rfl, rfl, rfl, rfl, rfl⟩

theorem Form.controlFrame (f : Form) {s t : State} (h : f.exec s = .next t) :
    ControlFrame f.instr s t := by
  cases hf : f.touchesBackground with
  | false => exact controlFrame_of_kept _ (Form.control_kept hf h)
  | true =>
    cases f with
    | ei | di | ld_i_a | ld_r_a | halt => cases h; simp [ControlFrame, Form.instr]
    | retRow y =>
      cases h
      exact ⟨fun hr => absurd rfl (hr y), fun _ _ => rfl, fun _ => rfl, fun _ => rfl, fun _ => rfl,
        fun _ => rfl, fun _ => rfl, fun _ => rfl, rfl, rfl, rfl, rfl⟩
    | imRow y =>
      cases h
      exact ⟨fun _ _ _ => rfl, fun _ _ => rfl, fun hm => absurd rfl (hm y), fun _ => rfl, fun _ => rfl,
        fun _ => rfl, fun _ => rfl, fun _ => rfl, rfl, rfl, rfl, rfl⟩
    | prefixOf p =>
      cases h
      exact ⟨fun _ _ _ => rfl, fun _ _ => rfl, fun _ => rfl, fun _ => rfl, fun _ => rfl, fun _ => rfl,
        fun _ => rfl, fun hp => absurd rfl (hp p), rfl, rfl, rfl, rfl⟩
    | ex_af_afAlt | exx | ld_a_i | ld_a_r => cases h; exact controlFrame_of_kept _ rfl
    | _ => cases hf

/-- Settles O41, form by form. -/
theorem controlStateFrame : Obligations.ControlStateFrame := by
  intro i s t h
  rw [exec_form] at h
  have hframe := Form.controlFrame i.form h
  rwa [instr_form] at hframe

end Sys2Proof

/-! ## Q and F (O42) -/

namespace Sys2Proof.Machine

theorem q_of_done {u t : State} {len : Word} (h : u.done len = .next t) : t.q = 0 := by cases h; rfl
theorem q_of_goto {u t : State} {a : Word} (h : u.goto a = .next t) : t.q = 0 := by cases h; rfl
theorem f_of_done {u t : State} {len : Word} (h : u.done len = .next t) : t.f = u.f := by cases h; rfl
theorem f_of_goto {u t : State} {a : Word} (h : u.goto a = .next t) : t.f = u.f := by cases h; rfl
theorem q_of_doneFlags {u t : State} {g : Byte} {len : Word} (h : u.doneFlags g len = .next t) :
    t.q = t.f := by cases h; rfl
theorem q_of_gotoFlags {u t : State} {g : Byte} {a : Word} (h : u.gotoFlags g a = .next t) :
    t.q = t.f := by cases h; rfl

theorem writeM8_f (m : M8) (v : Byte) (s : State) : (writeM8 m v s).f = s.f := by
  cases m <;> simp [writeM8]

theorem of_ite_next {c : Prop} [Decidable c] {x y : Result} {t : State}
    (h : (if c then x else y) = .next t) : x = .next t ∨ y = .next t := by
  split at h
  · exact .inl h
  · exact .inr h

end Sys2Proof.Machine

namespace Sys2Proof
open Machine

/-- What an action does to F and Q (R46, R157): a `bare` entry leaves both; or the action writes F through
the flag logic; or it clears Q and keeps F, which only `POP AF` and `EX AF,AF'` load as data. -/
inductive Form.FlagEffect (f : Form) (s t : State) : Prop where
  | latch (hbare : f.category = .bare) (hw : writesFlags f = false) (hq : t.q = s.q) (hf : t.f = s.f)
  | write (hbare : f.category ≠ .bare) (hw : writesFlags f = true) (hq : t.q = t.f)
  | silent (hbare : f.category ≠ .bare) (hw : writesFlags f = false) (hq : t.q = 0)
      (hf : t.f = s.f ∨ f = .pop .af ∨ f = .ex_af_afAlt)

theorem Form.flagEffect {f : Form} {s t : State} (h : f.exec s = .next t) : f.FlagEffect s t := by
  cases f with
  | prefixOf => cases h; exact .latch rfl rfl rfl rfl
  | alu | inc8 | dec8 | addHl | addXy | adcHl | sbcHl | daa | cpl | negRow | rlca | rrca | rla | rra
  | rot | bit | ldStep | cpStep | rrd | rld | inR | in_portC | inStep | outStep | scf | ccf | ld_a_i
  | ld_a_r => exact .write nofun rfl (q_of_doneFlags h)
  | ldRep | cpRep | inRep | outRep =>
    rcases of_ite_next h with h | h
    · exact .write nofun rfl (q_of_gotoFlags h)
    · exact .write nofun rfl (q_of_doneFlags h)
  | ex_af_afAlt => exact .silent nofun rfl (q_of_done h) (.inr (.inr rfl))
  | pop qq =>
    cases qq with
    | af => exact .silent nofun rfl (q_of_done h) (.inr (.inl rfl))
    | bc | de | hl => exact .silent nofun rfl (q_of_done h) (.inl ((f_of_done h).trans rfl))
  | jp_nn | jr_e | jp_hl | jpXy | call_nn | ret | rst | retRow =>
    exact .silent nofun rfl (q_of_goto h) (.inl ((f_of_goto h).trans (by simp)))
  | jpCc | jrCc | callCc | retCc | djnz_e =>
    rcases of_ite_next h with h | h
    · exact .silent nofun rfl (q_of_goto h) (.inl ((f_of_goto h).trans (by simp)))
    · exact .silent nofun rfl (q_of_done h) (.inl ((f_of_done h).trans (by simp)))
  | res _ m | set _ m =>
    exact .silent nofun rfl (q_of_done h) (.inl ((f_of_done h).trans (writeM8_f m _ s)))
  | exSpXy | ex_msp_hl =>
    exact .silent nofun rfl (q_of_done h) (.inl ((f_of_done h).trans (by simp [exchangeAtSp])))
  | _ => exact .silent nofun rfl (q_of_done h) (.inl ((f_of_done h).trans (by simp)))

/-- Settles O42, by the three flag effects. -/
theorem qLatchLaw : Obligations.QLatchLaw := by
  intro i s t h
  rw [exec_form] at h
  have hlaw := Form.flagEffect h
  have hq : i.desc.category ≠ .bare → t.q = if writesFlags i.form then t.f else 0 := by
    rw [category_form]
    intro hb
    cases hlaw with
    | latch hbare => exact absurd hbare hb
    | write _ hw hq => rw [if_pos hw, hq]
    | silent _ hw hq _ => rw [hq, hw]; rfl
  refine ⟨?_, hq, ?_, ?_⟩
  · rw [category_form]
    intro hb
    cases hlaw with
    | latch _ _ hq _ => exact hq
    | write hbare _ _ => exact absurd hb hbare
    | silent hbare _ _ _ => exact absurd hb hbare
  · intro hw hpop haf
    cases hlaw with
    | latch _ _ _ hf => exact hf
    | write _ hw' _ => rw [hw] at hw'; cases hw'
    | silent _ _ _ hf =>
      rcases hf with hf | hf | hf
      · exact hf
      · exact absurd hf (form_ne hpop)
      · exact absurd hf (form_ne haf)
  · rintro (rfl | rfl)
    · exact hq nofun
    · exact hq nofun

end Sys2Proof

/-! ## The invariant (O59, O60) -/

namespace Sys2Proof.Machine

theorem wf_memWrite2 {s : State} (a v : Word) (h : s.mem.wf = true) :
    (s.memWrite2 a v).mem.wf = true := Memory.wf_write _ _ (Memory.wf_write _ _ h)

theorem wf_push16 {s : State} (v : Word) (h : s.mem.wf = true) : (s.push16 v).mem.wf = true :=
  Memory.wf_write _ _ (Memory.wf_write _ _ h)

theorem wf_exchangeAtSp {s : State} (v : Word) (h : s.mem.wf = true) :
    (exchangeAtSp v s).mem.wf = true := Memory.wf_write _ _ (Memory.wf_write _ _ h)

theorem wf_hookedMem {s : State} (h : s.mem.wf = true) : s.hookedMem.wf = true :=
  Memory.wf_expose _ h

theorem wf_writeDst8 {s : State} (dst : Dst8) (v : Byte) (h : s.mem.wf = true) :
    (writeDst8 dst v s).mem.wf = true := by
  cases dst <;> simp [writeDst8, Memory.wf_write, h]

theorem wf_writeM8 {s : State} (m : M8) (v : Byte) (h : s.mem.wf = true) :
    (writeM8 m v s).mem.wf = true := by
  cases m <;> simp [writeM8, Memory.wf_write, h]

@[simp] theorem latchSrc8_mem (src : Src8) (s : State) : (latchSrc8 src s).mem = s.mem := by
  cases src <;> rfl

@[simp] theorem latchM8_mem (m : M8) (s : State) : (latchM8 m s).mem = s.mem := by
  cases m <;> rfl

/-- Every action ends by writing F, Q and PC alone (R157). -/
theorem wf_of_next {u t : State} {g q : Byte} {p : Word}
    (h : (.next { u with f := g, q := q, pc := p } : Result) = .next t) (hu : u.mem.wf = true) :
    t.mem.wf = true := by
  cases h; exact hu

end Sys2Proof.Machine

namespace Sys2Proof
open Machine

/-- Every action keeps the canonical form of memory: it changes memory by the named stores alone. -/
theorem Form.wf_of_exec {f : Form} {s t : State} (h : f.exec s = .next t) (hm : s.mem.wf = true) :
    t.mem.wf = true := by
  cases f with
  | prefixOf => cases h; exact hm
  | ldHlR | ldXyR | ldXyN | ld_mhl_n | ld_mbc_a | ld_mde_a | ld_mnn_a | rrd | rld =>
    exact wf_of_next h (by simp [Memory.wf_write, hm])
  | ldMnnPair | ldMnnXy | ld_mnn_hl => exact wf_of_next h (by simp [wf_memWrite2, hm])
  | exSpXy | ex_msp_hl => exact wf_of_next h (by simp [wf_exchangeAtSp, hm])
  | push | pushXy | rst | call_nn => exact wf_of_next h (by simp [wf_push16, hm])
  | inc8 dst | dec8 dst => exact wf_of_next h (wf_writeDst8 dst _ hm)
  | rot _ m | res _ m | set _ m => exact wf_of_next h (wf_writeM8 m _ hm)
  | outR | out_portN_a | out_portC_0 => exact wf_of_next h (by simp [wf_hookedMem, hm])
  | ldStep => exact wf_of_next h (by simp [blockLoadMove, Memory.wf_write, hm])
  | inStep => exact wf_of_next h (by simp [blockInMove, Memory.wf_write, hm])
  | outStep => exact wf_of_next h (by simp [blockOutMove_eq, wf_hookedMem, hm])
  | cpStep => exact wf_of_next h (by simpa [blockCompareMove] using hm)
  | ldRep | cpRep | inRep | outRep =>
    rcases of_ite_next h with h | h <;>
      exact wf_of_next h (by simp [blockLoadMove, blockCompareMove, blockInMove, blockOutMove_eq,
        Memory.wf_write, wf_hookedMem, hm])
  | jpCc | jrCc | callCc | retCc | djnz_e =>
    rcases of_ite_next h with h | h <;> exact wf_of_next h (by simp [wf_push16, hm])
  | _ => exact wf_of_next h (by simpa using hm)

theorem wf_of_exec {i : Instr} {s t : State} (h : exec i s = .next t) (hm : s.mem.wf = true) :
    t.mem.wf = true := by
  rw [exec_form] at h
  exact Form.wf_of_exec h hm

end Sys2Proof

namespace Sys2Proof.Machine

/-- A controller pass keeps the invariant: an accepted interrupt ends the halt. -/
theorem interruptController_inv {s : State} (h : s.Inv) : s.interruptController.Inv := by
  have hpush := wf_push16 s.pc h.memory
  rcases interruptController_cases s with hc | ⟨-, -, hc⟩ | ⟨-, -, -, -, hc⟩
  · rwa [hc]
  · rw [hc, acceptNmi_eq]
    exact ⟨hpush, nofun⟩
  · rw [hc, acceptInt_eq]
    split
    · exact ⟨hpush, nofun⟩
    · exact ⟨h.memory, nofun⟩

theorem haltedStep_inv {s : State} (h : s.Inv) : s.haltedStep.Inv :=
  ⟨(interruptController_inv h).memory, (interruptController_inv h).halted⟩

theorem runInstruction_next {i : Instr} {s t : State} (h : runInstruction i s = .next t) :
    ∃ u, exec i (s.beforeAction i) = .next u ∧ t = u.afterAction i := by
  unfold runInstruction at h
  split at h
  · next u hu => exact ⟨u, hu, (Host.Outcome.next.inj h).symm⟩
  · cases h
  · cases h

theorem ne_halt_of_category {i : Instr} (h : i.desc.category ≠ .normal) : i ≠ .halt := by
  rintro rfl
  exact h rfl

theorem ne_prefixOf_of_category {i : Instr} (h : i.desc.category ≠ .bare) (p : Pfx) :
    i ≠ .prefixOf p := by
  rintro rfl
  cases p <;> exact h rfl

/-- A `bare` entry and EI leave the core running; any other action leaves `pfx` empty, and its step clears
the skip flag before the controller runs (R158, R159). -/
theorem runInstruction_inv {i : Instr} {s t : State} (hm : s.mem.wf = true) (hh : s.halted = false)
    (h : runInstruction i s = .next t) : t.Inv := by
  obtain ⟨u, hu, rfl⟩ := runInstruction_next h
  have hwf : u.mem.wf = true := wf_of_exec hu hm
  obtain ⟨-, -, -, -, -, hhalt, -, hpfx, -⟩ := controlStateFrame i _ u hu
  have hrun (hi : i ≠ .halt) : u.Inv :=
    ⟨hwf, fun hu1 => by simp [hhalt hi, State.beforeAction, hh] at hu1⟩
  unfold State.afterAction
  cases hc : i.desc.category with
  | bare => exact hrun (ne_halt_of_category (by simp [hc]))
  | enableInterrupts => exact interruptController_inv (hrun (ne_halt_of_category (by simp [hc])))
  | normal =>
    have hnone : u.pfx = none := hpfx (ne_prefixOf_of_category (by simp [hc]))
    exact interruptController_inv ⟨hwf, fun _ => ⟨hnone, rfl⟩⟩

end Sys2Proof.Machine

namespace Sys2Proof
open Machine

/-- Settles O59, by the outcomes of a step. -/
theorem invariantStep : Obligations.InvariantStep := by
  intro undoc s t hs h
  rcases stepWith_cases undoc s with ⟨idx, -, he⟩ | ⟨-, -, he⟩ | ⟨idx, -, hh, -, he⟩ | ⟨i, -, hh, -, he⟩
  · rw [he] at h; cases h
  · rw [he] at h; cases h
    exact haltedStep_inv hs
  · rw [he] at h; cases h
    exact ⟨hs.memory, fun hr => by rw [raiseUnimplemented_halted, hh] at hr; cases hr⟩
  · rw [he] at h
    exact runInstruction_inv hs.memory hh h

/-- Settles O60: memory is empty and the core runs. -/
theorem invariantReset : Obligations.InvariantReset := ⟨rfl, nofun⟩

/-- Settles O57: every value stands in `State.reset`. -/
theorem resetValues : Obligations.ResetValues := by
  unfold Obligations.ResetValues
  decide

end Sys2Proof

namespace Sys2Proof.Machine

/-- The word that a 16-bit write laid at `a` reads back (R83, R85). -/
@[simp] theorem memRead2_memWrite2_self (s : State) (a v : Word) : (s.memWrite2 a v).memRead2 a = v := by
  rw [State.memRead2, memRead_memWrite2_hi, memRead_memWrite2_lo, mkWord_hiByte_loByte]

end Sys2Proof.Machine

namespace Sys2Proof
open Machine

/-- Settles O56, by the read-after-write laws of a byte and of a word. -/
theorem memoryReadAfterWrite : Obligations.MemoryReadAfterWrite :=
  ⟨memRead_memWrite, memRead_memWrite2, memRead2_memWrite2_self⟩

end Sys2Proof

/-! ## Encoding and decoding (O52 to O55)

`Form.pfx` and `Form.bytes` lay out the bytes of every form by the fields of its opcode. They are tied to
the encoder, to the step length and to the decoder by one check per row (`Form.laidOut`); that nothing else
decodes follows the branches of the decoder (`spells_of_decodeForm`). The two together say what a step
decodes (`decodeStep_eq_ok_iff`) and what a byte sequence decodes to (`decodeTail_eq_ok_iff`). -/

namespace Sys2Proof

/-! ### The layout of each form's bytes -/

/-- The opcode byte with fields `x`, `y`, `z` (R118). -/
def opByte (x y z : Nat) : Byte := BitVec.ofNat 8 (64 * x + 8 * y + z)

/-- The code of a register, with 6 left to `(HL)` (R118). -/
def R8.code (r : R8) : Nat :=
  match r with
  | .b => 0 | .c => 1 | .d => 2 | .e => 3 | .h => 4 | .l => 5 | .a => 7

/-- The code of a register that DD and FD leave as it is (R214). -/
def Plain.code (r : Plain) : Nat :=
  match r with
  | .b => 0 | .c => 1 | .d => 2 | .e => 3 | .a => 7

/-- The code of a half of an index register (R118, R214). -/
def Half.code (h : Half) : Nat :=
  match h with
  | .hi => 4 | .lo => 5

/-- The space of the instructions on an index register (R7, R110). -/
def Xy.pfx (xy : Xy) : Pfx :=
  match xy with
  | .ix => .dd | .iy => .fd

/-- The space of the accumulator operations on an operand (R119, R122). -/
def Src8.pfx (src : Src8) : Option Pfx :=
  match src with
  | .r _ | .n _ | .hl => none
  | .idx xy _ | .half xy _ => some xy.pfx

/-- The space of INC and DEC on an operand (R119, R122). -/
def Dst8.pfx (dst : Dst8) : Option Pfx :=
  match dst with
  | .r _ | .hl => none
  | .idx xy _ | .half xy _ => some xy.pfx

/-- The space of the bit operations on an operand (R120, R123). -/
def M8.pfx (m : M8) : Pfx :=
  match m with
  | .r _ | .hl => .cb
  | .idx xy _ | .idxCopy xy _ _ => xy.pfx

/-- The `pfx` that a form's opcode follows: none in the main space (R110). -/
def Form.pfx (f : Form) : Option Pfx :=
  match f with
  | .alu _ src => src.pfx
  | .inc8 dst | .dec8 dst => dst.pfx
  | .rot _ m | .bit _ m | .res _ m | .set _ m => some m.pfx
  | .ldRXy _ xy _ | .ldXyR xy _ _ | .ldXyN xy _ _ | .ldPlainHalf _ xy _ | .ldHalfPlain xy _ _
  | .ldHalfHalf xy _ _ | .ldHalfN xy _ _ | .ldXyNn xy _ | .ldXyMnn xy _ | .ldMnnXy _ xy | .ldSpXy xy
  | .exSpXy xy | .addXy xy _ | .incXy xy | .decXy xy | .jpXy xy | .pushXy xy | .popXy xy => some xy.pfx
  | .ldPairMnn _ _ | .ldMnnPair _ _ | .adcHl _ | .sbcHl _ | .negRow _ | .ldStep _ | .ldRep _ | .cpStep _
  | .cpRep _ | .inStep _ | .inRep _ | .outStep _ | .outRep _ | .retRow _ | .inR _ | .outR _ | .imRow _
  | .ld_i_a | .ld_r_a | .ld_a_i | .ld_a_r | .rrd | .rld | .in_portC | .out_portC_0 => some .ed
  | _ => none

/-- The bytes of `alu[y]` on an operand (R119, R122). -/
def Src8.bytes (y : Nat) (src : Src8) : List Byte :=
  match src with
  | .r q => [opByte 2 y q.code]
  | .n m => [opByte 3 y 6, m]
  | .hl => [opByte 2 y 6]
  | .idx _ d => [opByte 2 y 6, d]
  | .half _ h => [opByte 2 y h.code]

/-- The bytes of INC (`z = 4`) and DEC (`z = 5`) on an operand (R119, R122). -/
def Dst8.bytes (z : Nat) (dst : Dst8) : List Byte :=
  match dst with
  | .r q => [opByte 0 q.code z]
  | .hl => [opByte 0 6 z]
  | .idx _ d => [opByte 0 6 z, d]
  | .half _ h => [opByte 0 h.code z]

/-- The bytes of the operation of fields `x`, `y` on an operand (R120, R123). -/
def M8.bytes (x y : Nat) (m : M8) : List Byte :=
  match m with
  | .r q => [opByte x y q.code]
  | .hl => [opByte x y 6]
  | .idx _ d => [0xCB, d, opByte x y 6]
  | .idxCopy _ d q => [0xCB, d, opByte x y q.code]

/-- The bytes of a form's row without its `pfx` byte (R119 to R123). The tables of R118 list the constructors
in order, but for the registers, so a condition, a pair or an operation has its `ctorIdx` as its code. -/
def Form.bytes (f : Form) : List Byte :=
  match f with
  | .ldRR dst src => [opByte 1 dst.code src.code]
  | .ldRN r n => [opByte 0 r.code 6, n]
  | .ldRHl r => [opByte 1 r.code 6]
  | .ldRXy r _ d => [opByte 1 r.code 6, d]
  | .ldHlR r => [opByte 1 6 r.code]
  | .ldXyR _ d r => [opByte 1 6 r.code, d]
  | .ldXyN _ d n => [opByte 0 6 6, d, n]
  | .ldPlainHalf r _ h => [opByte 1 r.code h.code]
  | .ldHalfPlain _ h r => [opByte 1 h.code r.code]
  | .ldHalfHalf _ h k => [opByte 1 h.code k.code]
  | .ldHalfN _ h n => [opByte 0 h.code 6, n]
  | .ldPairNn p nn => [opByte 0 (2 * p.ctorIdx) 1, loByte nn, hiByte nn]
  | .ldXyNn _ nn => [opByte 0 4 1, loByte nn, hiByte nn]
  | .ldPairMnn p nn => [opByte 1 (2 * p.ctorIdx + 1) 3, loByte nn, hiByte nn]
  | .ldXyMnn _ nn => [opByte 0 5 2, loByte nn, hiByte nn]
  | .ldMnnPair nn p => [opByte 1 (2 * p.ctorIdx) 3, loByte nn, hiByte nn]
  | .ldMnnXy nn _ => [opByte 0 4 2, loByte nn, hiByte nn]
  | .ldSpXy _ => [opByte 3 7 1]
  | .exSpXy _ => [opByte 3 4 3]
  | .alu op src => src.bytes op.ctorIdx
  | .inc8 dst => dst.bytes 4
  | .dec8 dst => dst.bytes 5
  | .addHl p => [opByte 0 (2 * p.ctorIdx + 1) 1]
  | .addXy _ p => [opByte 0 (2 * p.ctorIdx + 1) 1]
  | .adcHl p => [opByte 1 (2 * p.ctorIdx + 1) 2]
  | .sbcHl p => [opByte 1 (2 * p.ctorIdx) 2]
  | .incPair p => [opByte 0 (2 * p.ctorIdx) 3]
  | .decPair p => [opByte 0 (2 * p.ctorIdx + 1) 3]
  | .incXy _ => [opByte 0 4 3]
  | .decXy _ => [opByte 0 5 3]
  | .negRow y => [opByte 1 y.ctorIdx 4]
  | .rot op m => m.bytes 0 op.ctorIdx
  | .bit b m => m.bytes 1 b.ctorIdx
  | .res b m => m.bytes 2 b.ctorIdx
  | .set b m => m.bytes 3 b.ctorIdx
  | .ldStep dir => [opByte 2 (4 + dir.ctorIdx) 0]
  | .ldRep dir => [opByte 2 (6 + dir.ctorIdx) 0]
  | .cpStep dir => [opByte 2 (4 + dir.ctorIdx) 1]
  | .cpRep dir => [opByte 2 (6 + dir.ctorIdx) 1]
  | .inStep dir => [opByte 2 (4 + dir.ctorIdx) 2]
  | .inRep dir => [opByte 2 (6 + dir.ctorIdx) 2]
  | .outStep dir => [opByte 2 (4 + dir.ctorIdx) 3]
  | .outRep dir => [opByte 2 (6 + dir.ctorIdx) 3]
  | .jpCc cc nn => [opByte 3 cc.ctorIdx 2, loByte nn, hiByte nn]
  | .jrCc cc e => [opByte 0 (4 + cc.ctorIdx) 0, e]
  | .jpXy _ => [opByte 3 5 1]
  | .callCc cc nn => [opByte 3 cc.ctorIdx 4, loByte nn, hiByte nn]
  | .retCc cc => [opByte 3 cc.ctorIdx 0]
  | .retRow y => [opByte 1 y.ctorIdx 5]
  | .rst p => [opByte 3 p.ctorIdx 7]
  | .push q => [opByte 3 (2 * q.ctorIdx) 5]
  | .pop q => [opByte 3 (2 * q.ctorIdx) 1]
  | .pushXy _ => [opByte 3 4 5]
  | .popXy _ => [opByte 3 4 1]
  | .inR r => [opByte 1 r.code 0]
  | .outR r => [opByte 1 r.code 1]
  | .imRow y => [opByte 1 y.ctorIdx 6]
  | .prefixOf p => [p.byte]
  | .nop => [opByte 0 0 0]
  | .ld_mbc_a => [opByte 0 0 2]
  | .rlca => [opByte 0 0 7]
  | .ex_af_afAlt => [opByte 0 1 0]
  | .ld_a_mbc => [opByte 0 1 2]
  | .rrca => [opByte 0 1 7]
  | .djnz_e e => [opByte 0 2 0, e]
  | .ld_mde_a => [opByte 0 2 2]
  | .rla => [opByte 0 2 7]
  | .jr_e e => [opByte 0 3 0, e]
  | .ld_a_mde => [opByte 0 3 2]
  | .rra => [opByte 0 3 7]
  | .ld_mnn_hl nn => [opByte 0 4 2, loByte nn, hiByte nn]
  | .daa => [opByte 0 4 7]
  | .ld_hl_mnn nn => [opByte 0 5 2, loByte nn, hiByte nn]
  | .cpl => [opByte 0 5 7]
  | .ld_mnn_a nn => [opByte 0 6 2, loByte nn, hiByte nn]
  | .ld_mhl_n n => [opByte 0 6 6, n]
  | .scf => [opByte 0 6 7]
  | .ld_a_mnn nn => [opByte 0 7 2, loByte nn, hiByte nn]
  | .ccf => [opByte 0 7 7]
  | .halt => [opByte 1 6 6]
  | .jp_nn nn => [opByte 3 0 3, loByte nn, hiByte nn]
  | .ret => [opByte 3 1 1]
  | .call_nn nn => [opByte 3 1 5, loByte nn, hiByte nn]
  | .out_portN_a n => [opByte 3 2 3, n]
  | .exx => [opByte 3 3 1]
  | .in_a_portN n => [opByte 3 3 3, n]
  | .ex_msp_hl => [opByte 3 4 3]
  | .jp_hl => [opByte 3 5 1]
  | .ex_de_hl => [opByte 3 5 3]
  | .di => [opByte 3 6 3]
  | .ld_sp_hl => [opByte 3 7 1]
  | .ei => [opByte 3 7 3]
  | .ld_i_a => [opByte 1 0 7]
  | .ld_r_a => [opByte 1 1 7]
  | .ld_a_i => [opByte 1 2 7]
  | .ld_a_r => [opByte 1 3 7]
  | .rrd => [opByte 1 4 7]
  | .rld => [opByte 1 5 7]
  | .in_portC => [opByte 1 6 0]
  | .out_portC_0 => [opByte 1 6 1]

end Sys2Proof

namespace Sys2Proof
open Machine

/-- The byte of `p`, if there is one. -/
def prefixBytes (p : Option Pfx) : List Byte := p.toList.map Pfx.byte

/-- The entry that three bytes beginning with `bs` select when `p` is latched, all entries registered; `u`
and `v` are what may follow `bs`. -/
def decodeAt (p : Option Pfx) (bs : List Byte) (u v : Byte) : Decoded Form :=
  match bs with
  | [] => .absent 0
  | [b0] => decodeForm true p b0 u v
  | [b0, b1] => decodeForm true p b0 b1 v
  | b0 :: b1 :: b2 :: _ => decodeForm true p b0 b1 b2

/-- A form's layout is its row's encoding, its `bytes` are as many as the row's step consumes (R113), and they
select the form, whatever follows them. -/
structure Form.LaidOut (f : Form) : Prop where
  encode : encode f.instr = prefixBytes f.pfx ++ f.bytes
  stepLen : f.instr.desc.stepLen = f.bytes.length
  decode : ∀ u v, decodeAt f.pfx f.bytes u v = .ok f

/-- The two bytes of an operand word read back as the word. -/
theorem ok_word (mk : Word → Form) (nn : Word) :
    Decoded.ok (mk (mkWord (hiByte nn) (loByte nn))) = .ok (mk nn) := by
  rw [mkWord_hiByte_loByte]

theorem laidOut_rot (op : RotOp) (m : M8) : (Form.rot op m).LaidOut := by
  cases m with
  | r r => cases r <;> cases op <;> exact ⟨rfl, rfl, fun _ _ => rfl⟩
  | hl => cases op <;> exact ⟨rfl, rfl, fun _ _ => rfl⟩
  | idx xy _ => cases xy <;> cases op <;> exact ⟨rfl, rfl, fun _ _ => rfl⟩
  | idxCopy xy _ r => cases xy <;> cases r <;> cases op <;> exact ⟨rfl, rfl, fun _ _ => rfl⟩

theorem laidOut_bit_res_set (b : BitNo) (m : M8) :
    (Form.bit b m).LaidOut ∧ (Form.res b m).LaidOut ∧ (Form.set b m).LaidOut := by
  cases m with
  | r r =>
    cases r <;> cases b <;>
      exact ⟨⟨rfl, rfl, fun _ _ => rfl⟩, ⟨rfl, rfl, fun _ _ => rfl⟩, ⟨rfl, rfl, fun _ _ => rfl⟩⟩
  | hl =>
    cases b <;>
      exact ⟨⟨rfl, rfl, fun _ _ => rfl⟩, ⟨rfl, rfl, fun _ _ => rfl⟩, ⟨rfl, rfl, fun _ _ => rfl⟩⟩
  | idx xy _ =>
    cases xy <;> cases b <;>
      exact ⟨⟨rfl, rfl, fun _ _ => rfl⟩, ⟨rfl, rfl, fun _ _ => rfl⟩, ⟨rfl, rfl, fun _ _ => rfl⟩⟩
  | idxCopy xy _ r =>
    cases xy <;> cases r <;> cases b <;>
      exact ⟨⟨rfl, rfl, fun _ _ => rfl⟩, ⟨rfl, rfl, fun _ _ => rfl⟩, ⟨rfl, rfl, fun _ _ => rfl⟩⟩

/-- Every row, its operands apart, is compared with the encoder, the table and the decoder. -/
theorem Form.laidOut (f : Form) : f.LaidOut := by
  cases f with
  | ldRR dst src => cases dst <;> cases src <;> exact ⟨rfl, rfl, fun _ _ => rfl⟩
  | ldRN r _ | ldRHl r | ldHlR r | inR r | outR r => cases r <;> exact ⟨rfl, rfl, fun _ _ => rfl⟩
  | ldRXy r xy _ | ldXyR xy _ r => cases r <;> cases xy <;> exact ⟨rfl, rfl, fun _ _ => rfl⟩
  | ldPlainHalf r xy h | ldHalfPlain xy h r =>
    cases r <;> cases xy <;> cases h <;> exact ⟨rfl, rfl, fun _ _ => rfl⟩
  | ldHalfHalf xy h k => cases xy <;> cases h <;> cases k <;> exact ⟨rfl, rfl, fun _ _ => rfl⟩
  | ldHalfN xy h _ => cases xy <;> cases h <;> exact ⟨rfl, rfl, fun _ _ => rfl⟩
  | ldXyN xy _ _ | ldSpXy xy | exSpXy xy | incXy xy | decXy xy | jpXy xy | pushXy xy | popXy xy =>
    cases xy <;> exact ⟨rfl, rfl, fun _ _ => rfl⟩
  | addXy xy p => cases xy <;> cases p <;> exact ⟨rfl, rfl, fun _ _ => rfl⟩
  | addHl k | adcHl k | sbcHl k | incPair k | decPair k | push k | pop k | retCc k | jrCc k _ | rst k
  | negRow k | retRow k | imRow k | prefixOf k | ldStep k | ldRep k | cpStep k | cpRep k | inStep k
  | inRep k | outStep k | outRep k =>
    cases k <;> exact ⟨rfl, rfl, fun _ _ => rfl⟩
  | alu op src =>
    cases src with
    | r r => cases r <;> cases op <;> exact ⟨rfl, rfl, fun _ _ => rfl⟩
    | n _ | hl => cases op <;> exact ⟨rfl, rfl, fun _ _ => rfl⟩
    | idx xy _ => cases xy <;> cases op <;> exact ⟨rfl, rfl, fun _ _ => rfl⟩
    | half xy h => cases xy <;> cases h <;> cases op <;> exact ⟨rfl, rfl, fun _ _ => rfl⟩
  | inc8 dst | dec8 dst =>
    cases dst with
    | r r => cases r <;> exact ⟨rfl, rfl, fun _ _ => rfl⟩
    | hl => exact ⟨rfl, rfl, fun _ _ => rfl⟩
    | idx xy _ => cases xy <;> exact ⟨rfl, rfl, fun _ _ => rfl⟩
    | half xy h => cases xy <;> cases h <;> exact ⟨rfl, rfl, fun _ _ => rfl⟩
  | rot op m => exact laidOut_rot op m
  | bit b m => exact (laidOut_bit_res_set b m).1
  | res b m => exact (laidOut_bit_res_set b m).2.1
  | set b m => exact (laidOut_bit_res_set b m).2.2
  | ldPairNn p nn => cases p <;> exact ⟨rfl, rfl, fun _ _ => ok_word (.ldPairNn _) nn⟩
  | ldXyNn xy nn => cases xy <;> exact ⟨rfl, rfl, fun _ _ => ok_word (.ldXyNn _) nn⟩
  | ldPairMnn p nn => cases p <;> exact ⟨rfl, rfl, fun _ _ => ok_word (.ldPairMnn _) nn⟩
  | ldXyMnn xy nn => cases xy <;> exact ⟨rfl, rfl, fun _ _ => ok_word (.ldXyMnn _) nn⟩
  | ldMnnPair nn p => cases p <;> exact ⟨rfl, rfl, fun _ _ => ok_word (.ldMnnPair · _) nn⟩
  | ldMnnXy nn xy => cases xy <;> exact ⟨rfl, rfl, fun _ _ => ok_word (.ldMnnXy · _) nn⟩
  | jpCc cc nn => cases cc <;> exact ⟨rfl, rfl, fun _ _ => ok_word (.jpCc _) nn⟩
  | callCc cc nn => cases cc <;> exact ⟨rfl, rfl, fun _ _ => ok_word (.callCc _) nn⟩
  | ld_mnn_hl nn => exact ⟨rfl, rfl, fun _ _ => ok_word .ld_mnn_hl nn⟩
  | ld_hl_mnn nn => exact ⟨rfl, rfl, fun _ _ => ok_word .ld_hl_mnn nn⟩
  | ld_mnn_a nn => exact ⟨rfl, rfl, fun _ _ => ok_word .ld_mnn_a nn⟩
  | ld_a_mnn nn => exact ⟨rfl, rfl, fun _ _ => ok_word .ld_a_mnn nn⟩
  | jp_nn nn => exact ⟨rfl, rfl, fun _ _ => ok_word .jp_nn nn⟩
  | call_nn nn => exact ⟨rfl, rfl, fun _ _ => ok_word .call_nn nn⟩
  | _ => exact ⟨rfl, rfl, fun _ _ => rfl⟩

end Sys2Proof

namespace Sys2Proof
open Machine

/-! ### The code tables, read backwards (R118) -/

theorem R8.code_of_ofCode {c : Nat} {r : R8} (h : R8.ofCode c = some r) : r.code = c := by
  unfold R8.ofCode at h; split at h <;> cases h <;> rfl
theorem Plain.code_of_ofCode {c : Nat} {r : Plain} (h : Plain.ofCode c = some r) : r.code = c := by
  unfold Plain.ofCode at h; split at h <;> cases h <;> rfl
theorem Half.code_of_ofCode {c : Nat} {k : Half} (h : Half.ofCode c = some k) : k.code = c := by
  unfold Half.ofCode at h; split at h <;> cases h <;> rfl
theorem Pair.code_of_ofCode {c : Nat} {p : Pair} (h : Pair.ofCode c = some p) : p.ctorIdx = c := by
  unfold Pair.ofCode at h; split at h <;> cases h <;> rfl
theorem Pair2.code_of_ofCode {c : Nat} {q : Pair2} (h : Pair2.ofCode c = some q) : q.ctorIdx = c := by
  unfold Pair2.ofCode at h; split at h <;> cases h <;> rfl
theorem AddPair.code_of_ofCode {c : Nat} {p : AddPair} (h : AddPair.ofCode c = some p) : p.ctorIdx = c := by
  unfold AddPair.ofCode at h; split at h <;> cases h <;> rfl
theorem Cond.code_of_ofCode {c : Nat} {cc : Cond} (h : Cond.ofCode c = some cc) : cc.ctorIdx = c := by
  unfold Cond.ofCode at h; split at h <;> cases h <;> rfl
theorem JrCond.code_of_ofCode {c : Nat} {cc : JrCond} (h : JrCond.ofCode c = some cc) : cc.ctorIdx = c := by
  unfold JrCond.ofCode at h; split at h <;> cases h <;> rfl
theorem AluOp.code_of_ofCode {c : Nat} {o : AluOp} (h : AluOp.ofCode c = some o) : o.ctorIdx = c := by
  unfold AluOp.ofCode at h; split at h <;> cases h <;> rfl
theorem RotOp.code_of_ofCode {c : Nat} {o : RotOp} (h : RotOp.ofCode c = some o) : o.ctorIdx = c := by
  unfold RotOp.ofCode at h; split at h <;> cases h <;> rfl
theorem BitNo.code_of_ofCode {c : Nat} {b : BitNo} (h : BitNo.ofCode c = some b) : b.ctorIdx = c := by
  unfold BitNo.ofCode at h; split at h <;> cases h <;> rfl
theorem Rst.code_of_ofCode {c : Nat} {p : Rst} (h : Rst.ofCode c = some p) : p.ctorIdx = c := by
  unfold Rst.ofCode at h; split at h <;> cases h <;> rfl

theorem opByte_fields {x y z : Nat} (hx : x < 4) (hy : y < 8) (hz : z < 8) :
    (opByte x y z).toNat / 64 = x ∧ (opByte x y z).toNat / 8 % 8 = y ∧ (opByte x y z).toNat % 8 = z := by
  simp only [opByte, BitVec.toNat_ofNat]
  omega

/-- Every byte is the opcode byte of its fields. -/
theorem exists_opByte (op : Byte) : ∃ x y z, x < 4 ∧ y < 8 ∧ z < 8 ∧ op = opByte x y z := by
  refine ⟨op.toNat / 64, op.toNat / 8 % 8, op.toNat % 8, by omega, by omega, by omega,
    BitVec.eq_of_toNat_eq ?_⟩
  simp only [opByte, BitVec.toNat_ofNat]
  omega

theorem Src8.spelling {y z : Nat} {src : Src8} (h : Src8.ofCode z = some src) :
    src.pfx = none ∧ src.bytes y = [opByte 2 y z] := by
  unfold Src8.ofCode at h
  split at h
  · cases h; simp_all [Src8.pfx, Src8.bytes]
  · obtain ⟨r, hr, rfl⟩ := Option.map_eq_some_iff.mp h
    simp [Src8.pfx, Src8.bytes, R8.code_of_ofCode hr]

theorem Dst8.spelling {y z : Nat} {dst : Dst8} (h : Dst8.ofCode y = some dst) :
    dst.pfx = none ∧ dst.bytes z = [opByte 0 y z] := by
  unfold Dst8.ofCode at h
  split at h
  · cases h; simp_all [Dst8.pfx, Dst8.bytes]
  · obtain ⟨r, hr, rfl⟩ := Option.map_eq_some_iff.mp h
    simp [Dst8.pfx, Dst8.bytes, R8.code_of_ofCode hr]

theorem M8.spelling {x y z : Nat} {m : M8} (h : M8.ofCode z = some m) :
    m.pfx = .cb ∧ m.bytes x y = [opByte x y z] := by
  unfold M8.ofCode at h
  split at h
  · cases h; simp_all [M8.pfx, M8.bytes]
  · obtain ⟨r, hr, rfl⟩ := Option.map_eq_some_iff.mp h
    simp [M8.pfx, M8.bytes, R8.code_of_ofCode hr]

theorem M8.spellingXy {x y z : Nat} {xy : Xy} {d : Byte} {m : M8} (h : M8.ofCodeXy xy d z = some m) :
    m.pfx = xy.pfx ∧ m.bytes x y = [0xCB, d, opByte x y z] := by
  unfold M8.ofCodeXy at h
  split at h
  · cases h; simp_all [M8.pfx, M8.bytes]
  · obtain ⟨r, hr, rfl⟩ := Option.map_eq_some_iff.mp h
    simp [M8.pfx, M8.bytes, R8.code_of_ofCode hr]

/-- The three bytes begin with the form's, under the form's `pfx`. -/
def Form.Spells (f : Form) (p : Option Pfx) (b0 b1 b2 : Byte) : Prop :=
  f.pfx = p ∧ f.bytes <+: [b0, b1, b2]

section
variable {α : Type} {o : Option α} {f : Form} {p : Option Pfx} {b0 b1 b2 : Byte}

theorem spells_of_map {mk : α → Form} (h : o.map mk = some f)
    (hs : ∀ a, o = some a → (mk a).Spells p b0 b1 b2) : f.Spells p b0 b1 b2 := by
  obtain ⟨a, ha, rfl⟩ := Option.map_eq_some_iff.mp h
  exact hs a ha

/-- The two families that share a code table of pairs: `q` chooses the family, `p` the pair (R119, R121). -/
theorem spells_of_pairs {mk mk' : Pair → Form} {y : Nat}
    (h : (if y % 2 = 0 then (Pair.ofCode (y / 2)).map mk else (Pair.ofCode (y / 2)).map mk') = some f)
    (hs : ∀ a : Pair, 2 * a.ctorIdx = y → (mk a).Spells p b0 b1 b2)
    (hs' : ∀ a : Pair, 2 * a.ctorIdx + 1 = y → (mk' a).Spells p b0 b1 b2) : f.Spells p b0 b1 b2 := by
  split at h
  · exact spells_of_map h fun a ha => hs a (by rw [Pair.code_of_ofCode ha]; omega)
  · exact spells_of_map h fun a ha => hs' a (by rw [Pair.code_of_ofCode ha]; omega)

end

/-! ### What decodes is spelled by the bytes it is decoded from -/

section
variable {op o1 o2 : Byte} {f : Form} {y z : Nat} (hy : y < 8) (hz : z < 8)
include hy hz

/-- Main space, `x = 0` (R119). -/
theorem spells_of_decodeMain_x0 (h : decodeMain (opByte 0 y z) o1 o2 = some f) :
    f.Spells none (opByte 0 y z) o1 o2 := by
  obtain ⟨ex, ey, ez⟩ := opByte_fields (x := 0) (by omega) hy hz
  interval_cases z <;> simp only [decodeMain, ex, ey, ez] at h
  · split at h
    on_goal 5 =>
      refine spells_of_map h fun cc hc => ⟨rfl, ?_⟩
      have hy4 : 4 + cc.ctorIdx = y := by grind [JrCond.code_of_ofCode hc]
      simp [Form.bytes, hy4]
    all_goals cases h; exact ⟨rfl, _, rfl⟩
  · exact spells_of_pairs h (fun a ha => ⟨rfl, by simp [Form.bytes, ha]⟩)
      fun a ha => ⟨rfl, by simp [Form.bytes, ha]⟩
  · interval_cases y <;> cases h <;> exact ⟨rfl, by simp [Form.bytes]⟩
  · exact spells_of_pairs h (fun a ha => ⟨rfl, by simp [Form.bytes, ha]⟩)
      fun a ha => ⟨rfl, by simp [Form.bytes, ha]⟩
  · refine spells_of_map h fun dst hd => ?_
    obtain ⟨hp, hb⟩ := Dst8.spelling (z := 4) hd
    exact ⟨hp, by simp [Form.bytes, hb]⟩
  · refine spells_of_map h fun dst hd => ?_
    obtain ⟨hp, hb⟩ := Dst8.spelling (z := 5) hd
    exact ⟨hp, by simp [Form.bytes, hb]⟩
  · split at h
    · cases h; exact ⟨rfl, by simp_all [Form.bytes]⟩
    · exact spells_of_map h fun r hr => ⟨rfl, by simp [Form.bytes, R8.code_of_ofCode hr]⟩
  · interval_cases y <;> cases h <;> exact ⟨rfl, _, rfl⟩

/-- Main space, `x = 1` (R119). -/
theorem spells_of_decodeMain_x1 (h : decodeMain (opByte 1 y z) o1 o2 = some f) :
    f.Spells none (opByte 1 y z) o1 o2 := by
  obtain ⟨ex, ey, ez⟩ := opByte_fields (x := 1) (by omega) hy hz
  simp only [decodeMain, ex, ey, ez] at h
  rcases eq_or_ne y 6 with rfl | hy6
  · rw [if_pos rfl] at h
    split at h
    · subst z; cases h; exact ⟨rfl, _, rfl⟩
    · exact spells_of_map h fun r hr => ⟨rfl, by simp [Form.bytes, R8.code_of_ofCode hr]⟩
  · rw [if_neg hy6] at h
    obtain ⟨r, hr, h'⟩ := Option.bind_eq_some_iff.mp h
    split at h'
    · subst z; cases h'; exact ⟨rfl, by simp [Form.bytes, R8.code_of_ofCode hr]⟩
    · exact spells_of_map h' fun r' hr' =>
        ⟨rfl, by simp [Form.bytes, R8.code_of_ofCode hr, R8.code_of_ofCode hr']⟩

/-- Main space, `x = 2` (R119). -/
theorem spells_of_decodeMain_x2 (h : decodeMain (opByte 2 y z) o1 o2 = some f) :
    f.Spells none (opByte 2 y z) o1 o2 := by
  obtain ⟨ex, ey, ez⟩ := opByte_fields (x := 2) (by omega) hy hz
  simp only [decodeMain, ex, ey, ez] at h
  obtain ⟨o, ho, h'⟩ := Option.bind_eq_some_iff.mp h
  refine spells_of_map h' fun src hs => ?_
  obtain ⟨hp, hb⟩ := Src8.spelling (y := y) hs
  exact ⟨hp, by simp [Form.bytes, AluOp.code_of_ofCode ho, hb]⟩

/-- Main space, `x = 3` (R119). -/
theorem spells_of_decodeMain_x3 (h : decodeMain (opByte 3 y z) o1 o2 = some f) :
    f.Spells none (opByte 3 y z) o1 o2 := by
  obtain ⟨ex, ey, ez⟩ := opByte_fields (x := 3) (by omega) hy hz
  have heven : y % 2 = 0 → 2 * (y / 2) = y := by omega
  interval_cases z <;> simp only [decodeMain, ex, ey, ez] at h
  · exact spells_of_map h fun cc hc => ⟨rfl, by simp [Form.bytes, Cond.code_of_ofCode hc]⟩
  · split at h
    · exact spells_of_map h fun q hq => ⟨rfl, by simp [Form.bytes, Pair2.code_of_ofCode hq, heven ‹_›]⟩
    · obtain ⟨q, hq, rfl⟩ : ∃ q < 4, y = 2 * q + 1 := ⟨y / 2, by omega, by omega⟩
      interval_cases q <;> cases h <;> exact ⟨rfl, _, rfl⟩
  · exact spells_of_map h fun cc hc => ⟨rfl, by simp [Form.bytes, Cond.code_of_ofCode hc]⟩
  · interval_cases y <;> cases h <;> exact ⟨rfl, by simp [Form.bytes, Pfx.byte, opByte]⟩
  · exact spells_of_map h fun cc hc => ⟨rfl, by simp [Form.bytes, Cond.code_of_ofCode hc]⟩
  · split at h
    · exact spells_of_map h fun q hq => ⟨rfl, by simp [Form.bytes, Pair2.code_of_ofCode hq, heven ‹_›]⟩
    · obtain ⟨q, hq, rfl⟩ : ∃ q < 4, y = 2 * q + 1 := ⟨y / 2, by omega, by omega⟩
      interval_cases q <;> cases h <;> exact ⟨rfl, by simp [Form.bytes, Pfx.byte, opByte]⟩
  · exact spells_of_map h fun o ho =>
      ⟨rfl, by simp [Form.bytes, Src8.bytes, AluOp.code_of_ofCode ho]⟩
  · exact spells_of_map h fun k hk => ⟨rfl, by simp [Form.bytes, Rst.code_of_ofCode hk]⟩

/-- ED space, `x = 1` (R121). -/
theorem spells_of_decodeEd_x1 (h : decodeEd (opByte 1 y z) o1 o2 = some f) :
    f.Spells (some .ed) (opByte 1 y z) o1 o2 := by
  obtain ⟨ex, ey, ez⟩ := opByte_fields (x := 1) (by omega) hy hz
  interval_cases z <;> simp only [decodeEd, ex, ey, ez] at h
  · split at h
    · subst y; cases h; exact ⟨rfl, _, rfl⟩
    · exact spells_of_map h fun r hr => ⟨rfl, by simp [Form.bytes, R8.code_of_ofCode hr]⟩
  · split at h
    · subst y; cases h; exact ⟨rfl, _, rfl⟩
    · exact spells_of_map h fun r hr => ⟨rfl, by simp [Form.bytes, R8.code_of_ofCode hr]⟩
  · exact spells_of_pairs h (fun a ha => ⟨rfl, by simp [Form.bytes, ha]⟩)
      fun a ha => ⟨rfl, by simp [Form.bytes, ha]⟩
  · exact spells_of_pairs h (fun a ha => ⟨rfl, by simp [Form.bytes, ha]⟩)
      fun a ha => ⟨rfl, by simp [Form.bytes, ha]⟩
  · exact spells_of_map h fun k hk => ⟨rfl, by simp [Form.bytes, BitNo.code_of_ofCode hk]⟩
  · exact spells_of_map h fun k hk => ⟨rfl, by simp [Form.bytes, BitNo.code_of_ofCode hk]⟩
  · exact spells_of_map h fun k hk => ⟨rfl, by simp [Form.bytes, BitNo.code_of_ofCode hk]⟩
  · interval_cases y <;> cases h <;> exact ⟨rfl, _, rfl⟩

/-- ED space, `x = 2`: the block instructions (R121). -/
theorem spells_of_decodeEd_x2 (h : decodeEd (opByte 2 y z) o1 o2 = some f) :
    f.Spells (some .ed) (opByte 2 y z) o1 o2 := by
  obtain ⟨ex, ey, ez⟩ := opByte_fields (x := 2) (by omega) hy hz
  simp only [decodeEd, ex, ey, ez] at h
  clear ex ey ez
  interval_cases y <;> interval_cases z <;> cases h <;> exact ⟨rfl, _, rfl⟩

/-- DD and FD spaces, `x = 0` (R122). -/
theorem spells_of_decodeXy_x0 {xy : Xy} (h : decodeXy xy (opByte 0 y z) o1 o2 = some f) :
    f.Spells (some xy.pfx) (opByte 0 y z) o1 o2 := by
  obtain ⟨ex, ey, ez⟩ := opByte_fields (x := 0) (by omega) hy hz
  interval_cases z <;> simp only [decodeXy, ex, ey, ez] at h
  · cases h
  · split at h
    · have hodd : 2 * (y / 2) + 1 = y := by omega
      exact spells_of_map h fun p hp => ⟨rfl, by simp [Form.bytes, AddPair.code_of_ofCode hp, hodd]⟩
    · split at h
      · obtain rfl : y = 4 := by omega
        cases h; exact ⟨rfl, by simp [Form.bytes]⟩
      · cases h
  · interval_cases y <;> cases h <;> exact ⟨rfl, by simp [Form.bytes]⟩
  · interval_cases y <;> cases h <;> exact ⟨rfl, _, rfl⟩
  · split at h
    · subst y; cases h; exact ⟨rfl, _, rfl⟩
    · exact spells_of_map h fun k hk => ⟨rfl, by simp [Form.bytes, Dst8.bytes, Half.code_of_ofCode hk]⟩
  · split at h
    · subst y; cases h; exact ⟨rfl, _, rfl⟩
    · exact spells_of_map h fun k hk => ⟨rfl, by simp [Form.bytes, Dst8.bytes, Half.code_of_ofCode hk]⟩
  · split at h
    · subst y; cases h; exact ⟨rfl, _, rfl⟩
    · exact spells_of_map h fun k hk => ⟨rfl, by simp [Form.bytes, Half.code_of_ofCode hk]⟩
  · cases h

/-- DD and FD spaces, `x = 1` (R122). -/
theorem spells_of_decodeXy_x1 {xy : Xy} (h : decodeXy xy (opByte 1 y z) o1 o2 = some f) :
    f.Spells (some xy.pfx) (opByte 1 y z) o1 o2 := by
  obtain ⟨ex, ey, ez⟩ := opByte_fields (x := 1) (by omega) hy hz
  simp only [decodeXy, ex, ey, ez] at h
  split at h
  · subst y
    exact spells_of_map h fun r hr => ⟨rfl, by simp [Form.bytes, R8.code_of_ofCode hr]⟩
  split at h
  · subst z
    exact spells_of_map h fun r hr => ⟨rfl, by simp [Form.bytes, R8.code_of_ofCode hr]⟩
  split at h
  · next k l hk hl =>
    cases h
    exact ⟨rfl, by simp [Form.bytes, Half.code_of_ofCode hk, Half.code_of_ofCode hl]⟩
  · next k hk _ =>
    exact spells_of_map h fun r hr =>
      ⟨rfl, by simp [Form.bytes, Half.code_of_ofCode hk, Plain.code_of_ofCode hr]⟩
  · next k _ hk =>
    exact spells_of_map h fun r hr =>
      ⟨rfl, by simp [Form.bytes, Half.code_of_ofCode hk, Plain.code_of_ofCode hr]⟩
  · cases h

/-- DD and FD spaces, `x = 2` (R122). -/
theorem spells_of_decodeXy_x2 {xy : Xy} (h : decodeXy xy (opByte 2 y z) o1 o2 = some f) :
    f.Spells (some xy.pfx) (opByte 2 y z) o1 o2 := by
  obtain ⟨ex, ey, ez⟩ := opByte_fields (x := 2) (by omega) hy hz
  simp only [decodeXy, ex, ey, ez] at h
  obtain ⟨o, ho, h'⟩ := Option.bind_eq_some_iff.mp h
  split at h'
  · subst z; cases h'
    exact ⟨rfl, by simp [Form.bytes, Src8.bytes, AluOp.code_of_ofCode ho]⟩
  · exact spells_of_map h' fun k hk =>
      ⟨rfl, by simp [Form.bytes, Src8.bytes, AluOp.code_of_ofCode ho, Half.code_of_ofCode hk]⟩

/-- DD and FD spaces, `x = 3` (R122). -/
theorem spells_of_decodeXy_x3 {xy : Xy} (h : decodeXy xy (opByte 3 y z) o1 o2 = some f) :
    f.Spells (some xy.pfx) (opByte 3 y z) o1 o2 := by
  obtain ⟨ex, ey, ez⟩ := opByte_fields (x := 3) (by omega) hy hz
  simp only [decodeXy, ex, ey, ez] at h
  split at h <;> cases h <;> exact ⟨rfl, _, rfl⟩

end

theorem spells_of_decodeMain {op o1 o2 : Byte} {f : Form} (h : decodeMain op o1 o2 = some f) :
    f.Spells none op o1 o2 := by
  obtain ⟨x, y, z, hx, hy, hz, rfl⟩ := exists_opByte op
  interval_cases x
  · exact spells_of_decodeMain_x0 hy hz h
  · exact spells_of_decodeMain_x1 hy hz h
  · exact spells_of_decodeMain_x2 hy hz h
  · exact spells_of_decodeMain_x3 hy hz h

theorem spells_of_decodeEd {op o1 o2 : Byte} {f : Form} (h : decodeEd op o1 o2 = some f) :
    f.Spells (some .ed) op o1 o2 := by
  obtain ⟨x, y, z, hx, hy, hz, rfl⟩ := exists_opByte op
  obtain ⟨ex, -, -⟩ := opByte_fields hx hy hz
  interval_cases x
  · simp only [decodeEd, ex] at h; cases h
  · exact spells_of_decodeEd_x1 hy hz h
  · exact spells_of_decodeEd_x2 hy hz h
  · simp only [decodeEd, ex] at h; cases h

theorem spells_of_decodeXy {xy : Xy} {op o1 o2 : Byte} {f : Form} (h : decodeXy xy op o1 o2 = some f) :
    f.Spells (some xy.pfx) op o1 o2 := by
  obtain ⟨x, y, z, hx, hy, hz, rfl⟩ := exists_opByte op
  interval_cases x
  · exact spells_of_decodeXy_x0 hy hz h
  · exact spells_of_decodeXy_x1 hy hz h
  · exact spells_of_decodeXy_x2 hy hz h
  · exact spells_of_decodeXy_x3 hy hz h

theorem spells_of_decodeBitOp {x y : Nat} {m : M8} {f : Form} {b0 b1 b2 : Byte} (hx : x < 4)
    (h : decodeBitOp x y m = some f) (hm : m.bytes x y <+: [b0, b1, b2]) :
    f.Spells (some m.pfx) b0 b1 b2 := by
  unfold decodeBitOp at h
  interval_cases x
  · exact spells_of_map h fun o ho => ⟨rfl, by simpa [Form.bytes, RotOp.code_of_ofCode ho] using hm⟩
  all_goals
    exact spells_of_map h fun b hb => ⟨rfl, by simpa [Form.bytes, BitNo.code_of_ofCode hb] using hm⟩

theorem spells_of_decodeCb {op o1 o2 : Byte} {f : Form} (h : decodeCb op = some f) :
    f.Spells (some .cb) op o1 o2 := by
  obtain ⟨x, y, z, hx, hy, hz, rfl⟩ := exists_opByte op
  obtain ⟨ex, ey, ez⟩ := opByte_fields hx hy hz
  simp only [decodeCb, ex, ey, ez] at h
  obtain ⟨m, hm, h'⟩ := Option.bind_eq_some_iff.mp h
  obtain ⟨hp, hb⟩ := M8.spelling (x := x) (y := y) hm
  exact hp ▸ spells_of_decodeBitOp hx h' (by simp [hb])

theorem spells_of_decodeXyCb {xy : Xy} {d op : Byte} {f : Form} (h : decodeXyCb xy d op = some f) :
    f.Spells (some xy.pfx) 0xCB d op := by
  obtain ⟨x, y, z, hx, hy, hz, rfl⟩ := exists_opByte op
  obtain ⟨ex, ey, ez⟩ := opByte_fields hx hy hz
  simp only [decodeXyCb, ex, ey, ez] at h
  obtain ⟨m, hm, h'⟩ := Option.bind_eq_some_iff.mp h
  obtain ⟨hp, hb⟩ := M8.spellingXy (x := x) (y := y) hm
  exact hp ▸ spells_of_decodeBitOp hx h' (by simp [hb])

end Sys2Proof

namespace Sys2Proof
open Machine

/-! ### One step's decoding (R152, R154) -/

theorem lookupEntry_eq_ok_iff {undoc : Bool} {idx : Nat} {o : Option Form} {f : Form} :
    lookupEntry undoc idx o = .ok f ↔ o = some f ∧ (undoc || f.always) = true := by
  cases o with
  | none => simp [lookupEntry]
  | some g =>
    simp only [lookupEntry, Option.some.injEq]
    split <;> grind

/-- `UNDOC_REGISTERED` decides no more than whether the entry is registered (R125). -/
theorem decodeForm_eq_ok_iff {undoc : Bool} {p : Option Pfx} {b0 b1 b2 : Byte} {f : Form} :
    decodeForm undoc p b0 b1 b2 = .ok f ↔
      decodeForm true p b0 b1 b2 = .ok f ∧ (undoc || f.always) = true := by
  unfold decodeForm
  split
  case h_4 | h_5 => split <;> simp [lookupEntry_eq_ok_iff]
  all_goals simp [lookupEntry_eq_ok_iff]

theorem spells_of_decodeForm {p : Option Pfx} {b0 b1 b2 : Byte} {f : Form}
    (h : decodeForm true p b0 b1 b2 = .ok f) : f.Spells p b0 b1 b2 := by
  unfold decodeForm at h
  split at h
  · exact spells_of_decodeMain (lookupEntry_eq_ok_iff.mp h).1
  · exact spells_of_decodeCb (lookupEntry_eq_ok_iff.mp h).1
  · exact spells_of_decodeEd (lookupEntry_eq_ok_iff.mp h).1
  all_goals
    split at h
    · subst b0; exact spells_of_decodeXyCb (lookupEntry_eq_ok_iff.mp h).1
    · exact spells_of_decodeXy (lookupEntry_eq_ok_iff.mp h).1

/-- The bytes of a form select it, whatever follows them. -/
theorem Form.decodeForm_of_prefix {f : Form} {b0 : Byte} {bs : List Byte} (h : f.bytes <+: b0 :: bs) :
    decodeForm true f.pfx b0 (bs.headD 0) (bs.tail.headD 0) = .ok f := by
  have hd := f.laidOut.decode
  obtain ⟨rest, hr⟩ := h
  generalize f.bytes = l at hd hr
  rcases l with _ | ⟨c0, _ | ⟨c1, _ | ⟨c2, l⟩⟩⟩
  · cases hd 0 0
  · cases hr; exact hd _ _
  · cases hr; exact hd 0 _
  · cases hr; exact hd 0 0

/-- What the three bytes at PC decode to: the instruction whose encoding they begin with, if it is
registered. -/
theorem decodeStep_eq_ok_iff {undoc : Bool} {p : Option Pfx} {b0 b1 b2 : Byte} {i : Instr} :
    decodeStep undoc p b0 b1 b2 = .ok i ↔
      ∃ f : Form, f.instr = i ∧ f.Spells p b0 b1 b2 ∧ i.registered undoc = true := by
  have hstep : decodeStep undoc p b0 b1 b2 = .ok i ↔
      ∃ f : Form, decodeForm undoc p b0 b1 b2 = .ok f ∧ f.instr = i := by
    unfold decodeStep; split <;> simp [*]
  rw [hstep]
  constructor
  · rintro ⟨f, hf, rfl⟩
    obtain ⟨ht, hreg⟩ := decodeForm_eq_ok_iff.mp hf
    exact ⟨f, rfl, spells_of_decodeForm ht, by rwa [Instr.registered, (agrees f).always]⟩
  · rintro ⟨f, rfl, ⟨rfl, hb⟩, hreg⟩
    rw [Instr.registered, (agrees f).always] at hreg
    exact ⟨f, decodeForm_eq_ok_iff.mpr ⟨f.decodeForm_of_prefix hb, hreg⟩, rfl⟩

/-! ### A whole instruction's decoding (R127) -/

theorem decodeHead_eq (undoc : Bool) (p : Option Pfx) (b0 : Byte) (bs : List Byte) :
    decodeHead undoc p b0 bs = decodeStep undoc p b0 (bs.headD 0) (bs.tail.headD 0) := by
  rcases bs with _ | ⟨b1, _ | ⟨b2, bs⟩⟩ <;> rfl

/-- The bytes a list lacks count as 0 for the selection, and a form that fits in the list does not use
them. -/
theorem prefix_of_padded {l : List Byte} {b0 : Byte} {bs : List Byte}
    (h : l <+: [b0, bs.headD 0, bs.tail.headD 0]) (hlen : l.length ≤ bs.length + 1) : l <+: b0 :: bs := by
  rcases bs with _ | ⟨b1, _ | ⟨b2, bs⟩⟩
  · exact List.prefix_of_prefix_length_le h ⟨[0, 0], rfl⟩ hlen
  · exact List.prefix_of_prefix_length_le h ⟨[0], rfl⟩ hlen
  · exact h.trans ⟨bs, rfl⟩

theorem Form.bytes_ne_nil (f : Form) : f.bytes ≠ [] := by
  intro h
  have hd := f.laidOut.decode 0 0
  rw [h] at hd
  cases hd

/-- What a step leaves of the bytes from its opcode byte on. -/
theorem Form.rest_of_bytes {f : Form} {b0 : Byte} {bs rest : List Byte} (h : b0 :: bs = f.bytes ++ rest) :
    f.bytes.length ≤ bs.length + 1 ∧ bs.drop (f.bytes.length - 1) = rest := by
  obtain ⟨c, l, hl⟩ := List.exists_cons_of_ne_nil f.bytes_ne_nil
  rw [hl] at h ⊢
  cases h
  simp

/-- What an opcode byte and the bytes after it decode to: an instruction whose encoding they begin with. -/
theorem decodeTail_eq_ok_iff {undoc : Bool} {p : Option Pfx} {b0 : Byte} {bs rest : List Byte} {i : Instr} :
    decodeTail undoc p b0 bs = .ok i rest ↔
      ∃ f : Form, f.instr = i ∧ f.pfx = p ∧ b0 :: bs = f.bytes ++ rest ∧ i.registered undoc = true := by
  unfold decodeTail
  rw [decodeHead_eq]
  constructor
  · intro h
    split at h
    · cases h
    next hi =>
    split at h
    next hlen =>
      cases h
      obtain ⟨f, rfl, ⟨hp, hb⟩, hreg⟩ := decodeStep_eq_ok_iff.mp hi
      rw [f.laidOut.stepLen] at hlen ⊢
      obtain ⟨t, ht⟩ := prefix_of_padded hb hlen
      exact ⟨f, rfl, hp, by rw [(Form.rest_of_bytes ht.symm).2, ht], hreg⟩
    · cases h
  · rintro ⟨f, rfl, rfl, hb, hreg⟩
    have hs := spells_of_decodeForm (f.decodeForm_of_prefix ⟨rest, hb.symm⟩)
    obtain ⟨hlen, hrest⟩ := Form.rest_of_bytes hb
    rw [decodeStep_eq_ok_iff.mpr ⟨f, rfl, hs, hreg⟩]
    dsimp only
    rw [f.laidOut.stepLen, if_pos hlen, hrest]

theorem ofByte_byte (p : Pfx) : Pfx.ofByte p.byte = some p := by cases p <;> rfl

theorem byte_of_ofByte {v : Byte} {p : Pfx} (h : Pfx.ofByte v = some p) : v = p.byte := by
  unfold Pfx.ofByte at h
  split at h
  · cases h; assumption
  split at h
  · cases h; assumption
  split at h
  · cases h; assumption
  split at h
  · cases h; assumption
  · cases h

theorem decodeBytes_prefixed (undoc : Bool) (p : Pfx) (b1 : Byte) (bs : List Byte) :
    decodeBytes undoc (p.byte :: b1 :: bs) = decodeTail undoc (some p) b1 bs := by
  simp only [decodeBytes, ofByte_byte]

/-- A byte that `Pfx.ofByte` does not know, or a byte alone, is the opcode byte (R153). -/
theorem decodeBytes_plain (undoc : Bool) {b0 : Byte} {bs : List Byte}
    (h : Pfx.ofByte b0 = none ∨ bs = []) : decodeBytes undoc (b0 :: bs) = decodeTail undoc none b0 bs := by
  rcases h with h | rfl
  · simp only [decodeBytes, h]
  · cases h : Pfx.ofByte b0 <;> simp only [decodeBytes, h]

theorem Form.eq_prefixOf_of_bare {f : Form} (h : f.category = .bare) : ∃ p, f = .prefixOf p := by
  cases f with
  | prefixOf p => exact ⟨p, rfl⟩
  | _ => cases h

/-- In the main space only the rows of category `bare` begin with a byte of `Pfx.ofByte` (R110). -/
theorem Form.ofByte_none {f : Form} (hp : f.pfx = none) (hb : f.category ≠ .bare) {b0 : Byte}
    {bs : List Byte} (h : f.bytes = b0 :: bs) : Pfx.ofByte b0 = none := by
  cases hq : Pfx.ofByte b0 with
  | none => rfl
  | some q =>
    have hf := f.decodeForm_of_prefix (by rw [h] : f.bytes <+: b0 :: bs)
    have hq' : decodeForm true none q.byte (bs.headD 0) (bs.tail.headD 0) = .ok (.prefixOf q) := by
      cases q <;> rfl
    rw [hp, byte_of_ofByte hq, hq'] at hf
    cases hf
    exact absurd rfl hb

/-- Settles O52: the bytes after those of `pfx` select the form, and those of `pfx` lead to its space. -/
theorem decodeOfEncode : Obligations.DecodeOfEncode := by
  intro undoc i hreg
  obtain ⟨f, rfl⟩ : ∃ f : Form, f.instr = i := ⟨i.form, instr_form i⟩
  obtain ⟨henc, -, -⟩ := f.laidOut
  obtain ⟨b0, bs, hb⟩ := List.exists_cons_of_ne_nil f.bytes_ne_nil
  have htail (rest) : decodeTail undoc f.pfx b0 (bs ++ rest) = .ok f.instr rest :=
    decodeTail_eq_ok_iff.mpr ⟨f, rfl, rfl, by rw [hb]; rfl, hreg⟩
  rw [henc, hb, (agrees f).category]
  constructor
  · intro rest hcat
    cases hp : f.pfx with
    | none =>
      rw [hp] at htail
      have hnone := f.ofByte_none hp hcat hb
      exact (decodeBytes_plain undoc (.inl hnone)).trans (htail rest)
    | some p =>
      rw [hp] at htail
      exact (decodeBytes_prefixed undoc p _ _).trans (htail rest)
  · intro hcat
    obtain ⟨p, rfl⟩ := Form.eq_prefixOf_of_bare hcat
    cases hb
    exact (decodeBytes_plain undoc (.inr rfl)).trans (htail [])

/-- Settles O53, by what a step decodes, in the main space or after a `pfx` byte. -/
theorem encodeOfDecode : Obligations.EncodeOfDecode := by
  intro undoc bytes i rest h
  have hrow {p : Option Pfx} {b0 bs} (h : decodeTail undoc p b0 bs = .ok i rest) :
      prefixBytes p ++ b0 :: bs = encode i ++ rest ∧ i.registered undoc = true := by
    obtain ⟨f, rfl, rfl, hb, hreg⟩ := decodeTail_eq_ok_iff.mp h
    exact ⟨by rw [f.laidOut.encode, hb, List.append_assoc], hreg⟩
  cases bytes with
  | nil => cases h
  | cons b0 bs =>
    cases hp : Pfx.ofByte b0 with
    | none => exact hrow ((decodeBytes_plain undoc (.inl hp)).symm.trans h)
    | some p =>
      cases bs with
      | nil => exact hrow ((decodeBytes_plain undoc (.inr rfl)).symm.trans h)
      | cons b1 bs =>
        rw [byte_of_ofByte hp] at h ⊢
        exact hrow ((decodeBytes_prefixed undoc p b1 bs).symm.trans h)

end Sys2Proof

namespace Sys2Proof
open Machine

/-! ### Which entries exist: a question about the opcode byte alone -/

theorem decodeMain_isSome_operands (op o1 o2 : Byte) :
    (decodeMain op o1 o2).isSome = (decodeMain op 0 0).isSome := by
  unfold decodeMain
  dsimp only
  repeat' split
  all_goals simp

theorem decodeEd_isSome_operands (op o1 o2 : Byte) :
    (decodeEd op o1 o2).isSome = (decodeEd op 0 0).isSome := by
  unfold decodeEd
  dsimp only
  repeat' split
  all_goals simp

theorem decodeXy_isSome_operands (xy : Xy) (op o1 o2 : Byte) :
    (decodeXy xy op o1 o2).isSome = (decodeXy xy op 0 0).isSome := by
  unfold decodeXy
  dsimp only
  repeat' split
  case h_3.isTrue => cases AluOp.ofCode (op.toNat / 8 % 8) <;> rfl
  all_goals simp

theorem decodeMain_isSome (op o1 o2 : Byte) : (decodeMain op o1 o2).isSome = true := by
  rw [decodeMain_isSome_operands]
  revert op
  decide

theorem decodeCb_isSome : ∀ op : Byte, (decodeCb op).isSome = true := by decide

theorem decodeBitOp_isSome_operand (x y : Nat) (m m' : M8) :
    (decodeBitOp x y m).isSome = (decodeBitOp x y m').isSome := by
  unfold decodeBitOp
  split <;> simp

theorem decodeXyCb_isSome_operands (xy : Xy) (d op : Byte) :
    (decodeXyCb xy d op).isSome = (decodeXyCb xy 0 op).isSome := by
  unfold decodeXyCb M8.ofCodeXy
  split
  · exact decodeBitOp_isSome_operand _ _ _ _
  · cases R8.ofCode (op.toNat % 8) with
    | none => rfl
    | some r => exact decodeBitOp_isSome_operand _ _ _ _

theorem decodeXyCb_isSome (xy : Xy) (d op : Byte) : (decodeXyCb xy d op).isSome = true := by
  rw [decodeXyCb_isSome_operands]
  revert op
  cases xy <;> decide

/-! ### Absent entries (R124, R125) -/

/-- A form in the main or the CB space is registered whatever `UNDOC_REGISTERED` is. -/
theorem Form.always_of_unindexed {f : Form} (h : f.pfx = none ∨ f.pfx = some .cb) : f.always = true := by
  cases f with
  | alu _ src =>
    cases src with
    | half xy _ => cases xy <;> simp [Form.pfx, Src8.pfx, Xy.pfx] at h
    | _ => rfl
  | inc8 dst | dec8 dst =>
    cases dst with
    | half xy _ => cases xy <;> simp [Form.pfx, Dst8.pfx, Xy.pfx] at h
    | _ => rfl
  | rot _ m | bit _ m | res _ m | set _ m =>
    cases m with
    | idxCopy xy _ _ => cases xy <;> simp [Form.pfx, M8.pfx, Xy.pfx] at h
    | _ => rfl
  | ldPlainHalf _ xy _ | ldHalfPlain xy _ _ | ldHalfHalf xy _ _ | ldHalfN xy _ _ =>
    cases xy <;> simp [Form.pfx, Xy.pfx] at h
  | negRow | retRow | imRow | in_portC | out_portC_0 => simp [Form.pfx] at h
  | _ => rfl

theorem decodeStep_of_decodeForm {undoc : Bool} {p : Option Pfx} {b0 b1 b2 : Byte} {f : Form}
    (h : decodeForm undoc p b0 b1 b2 = .ok f) : ∃ i, decodeStep undoc p b0 b1 b2 = .ok i :=
  ⟨f.instr, by simp only [decodeStep, h]⟩

theorem decodeStep_eq_absent_iff {undoc : Bool} {p : Option Pfx} {b0 b1 b2 : Byte} {idx : Nat} :
    decodeStep undoc p b0 b1 b2 = .absent idx ↔ decodeForm undoc p b0 b1 b2 = .absent idx := by
  unfold decodeStep
  split <;> simp [*]

theorem lookupEntry_eq_absent_iff {idx : Nat} {o : Option Form} :
    lookupEntry true idx o = .absent idx ↔ o.isSome = false := by
  cases o <;> simp [lookupEntry]

/-- Every byte of the main space and of the CB space is registered, whatever `UNDOC_REGISTERED` is. -/
theorem decodeStep_total {p : Option Pfx} (hp : p = none ∨ p = some .cb) (undoc : Bool) (b0 b1 b2 : Byte) :
    ∃ i, decodeStep undoc p b0 b1 b2 = .ok i := by
  obtain ⟨f, hf⟩ : ∃ f, decodeForm true p b0 b1 b2 = .ok f := by
    rcases hp with rfl | rfl
    · obtain ⟨f, hf⟩ := Option.isSome_iff_exists.mp (decodeMain_isSome b0 b1 b2)
      exact ⟨f, lookupEntry_eq_ok_iff.mpr ⟨hf, rfl⟩⟩
    · obtain ⟨f, hf⟩ := Option.isSome_iff_exists.mp (decodeCb_isSome b0)
      exact ⟨f, lookupEntry_eq_ok_iff.mpr ⟨hf, rfl⟩⟩
  have halways := Form.always_of_unindexed ((spells_of_decodeForm hf).1 ▸ hp)
  exact decodeStep_of_decodeForm (decodeForm_eq_ok_iff.mpr ⟨hf, by rw [halways, Bool.or_true]⟩)

theorem decodeForm_xyCb (undoc : Bool) (xy : Xy) (b1 b2 : Byte) :
    ∃ idx, decodeForm undoc (some xy.pfx) 0xCB b1 b2 = lookupEntry undoc idx (decodeXyCb xy b1 b2) := by
  cases xy <;> exact ⟨_, rfl⟩

theorem decodeForm_xy (undoc : Bool) (xy : Xy) {b0 : Byte} (h : b0 ≠ 0xCB) (b1 b2 : Byte) :
    decodeForm undoc (some xy.pfx) b0 b1 b2 =
      lookupEntry undoc (xy.pfx.byte.toNat * 256 + b0.toNat) (decodeXy xy b0 b1 b2) := by
  cases xy <;> exact if_neg h

theorem decodeStep_xyCb_total (xy : Xy) (b1 b2 : Byte) :
    ∃ i, decodeStep true (some xy.pfx) 0xCB b1 b2 = .ok i := by
  obtain ⟨f, hf⟩ := Option.isSome_iff_exists.mp (decodeXyCb_isSome xy b1 b2)
  obtain ⟨idx, hd⟩ := decodeForm_xyCb true xy b1 b2
  exact decodeStep_of_decodeForm (hd.trans (lookupEntry_eq_ok_iff.mpr ⟨hf, rfl⟩))

/-- Settles O54. Whether an entry is there is asked of the opcode byte alone, and checked for each. -/
theorem registeredEntries : Obligations.RegisteredEntries := by
  intro b0 b1 b2
  refine ⟨fun undoc => ⟨decodeStep_total (.inl rfl) undoc b0 b1 b2,
    decodeStep_total (.inr rfl) undoc b0 b1 b2⟩, ?_, ?_, ?_⟩
  · rw [decodeStep_eq_absent_iff]
    refine lookupEntry_eq_absent_iff.trans ?_
    rw [decodeEd_isSome_operands]
    revert b0
    decide
  · intro x p
    have hp : p = x.pfx := by cases x <;> rfl
    clear_value p
    subst hp
    refine ⟨?_, decodeStep_xyCb_total x b1 b2⟩
    by_cases hcb : b0 = 0xCB
    · subst hcb
      obtain ⟨i, hi⟩ := decodeStep_xyCb_total x b1 b2
      exact iff_of_false (by rw [hi]; nofun) (not_not.mpr (.inl rfl))
    · rw [decodeStep_eq_absent_iff, decodeForm_xy true x hcb, lookupEntry_eq_absent_iff,
        decodeXy_isSome_operands]
      clear b1 b2
      revert b0
      cases x <;> decide
  · intro p i
    simp [decodeStep_eq_ok_iff, Instr.registered, ← exists_and_right, and_assoc]

/-- Settles O55: each word is run. -/
theorem sanityWords : Obligations.SanityWords := by
  unfold Obligations.SanityWords
  decide

end Sys2Proof

/-! ## The engine step (O43 to O47) -/

namespace Sys2Proof
open Machine

/-! ### The refresh register (R37, R156) -/

theorem incR_toNat (k : BitVec 7) (r : Byte) :
    (incR k r).toNat = r.toNat / 128 * 128 + (r.toNat + k.toNat) % 128 := by
  have hmsb : r.msb.toNat = r.toNat / 128 := by
    have hr := r.isLt
    rw [BitVec.msb_eq_decide, Bool.toNat, Bool.cond_decide]
    split <;> omega
  rw [incR, BitVec.toNat_append, ← Nat.shiftLeft_add_eq_or_of_lt (BitVec.isLt _), Nat.shiftLeft_eq,
    BitVec.toNat_ofBool, hmsb]
  simp

theorem incR_bit7 (k : BitVec 7) (r : Byte) : (incR k r).getLsbD 7 = r.getLsbD 7 := by
  rw [incR, BitVec.getLsbD_append]
  simp [BitVec.msb_eq_getLsbD_last]

@[simp] theorem incR_zero (r : Byte) : incR 0 r = r := by
  apply BitVec.eq_of_toNat_eq
  rw [incR_toNat]
  exact Nat.div_add_mod' _ _

/-- A form's index is above 0xFF exactly if its opcode follows a `pfx` byte (R111). -/
theorem Form.prefixed_eq (f : Form) : f.prefixed = f.pfx.isSome := by
  cases f with
  | alu _ src => cases src <;> rfl
  | inc8 dst | dec8 dst => cases dst <;> rfl
  | _ => rfl

theorem Form.refresh_toNat (f : Form) :
    f.refresh.toNat = if f.category = .bare then 0 else if f.pfx.isSome then 2 else 1 := by
  rw [Form.refresh, Form.prefixed_eq]
  cases f.category <;> cases f.pfx <;> rfl

/-- Settles O44: what is decoded under `p` is a form of the space of `p`. -/
theorem refreshIncrement : Obligations.RefreshIncrement := by
  refine ⟨fun k r => ⟨incR_bit7 k r, by rw [incR_toNat]; omega⟩, ?_⟩
  intro undoc p b0 b1 b2 i hd
  obtain ⟨f, rfl, ⟨rfl, -⟩, -⟩ := decodeStep_eq_ok_iff.mp hd
  rw [(agrees f).refresh, (agrees f).category, f.refresh_toNat]

/-! ### A running step (R152 to R161) -/

theorem ite_next (c : Prop) [Decidable c] (t u : State) :
    ∃ v, (if c then .next t else .next u : Result) = .next v :=
  ⟨if c then t else u, by split <;> rfl⟩

/-- Every action answers a next state (R500): it ends in one of the four ways of R157, and those with a
condition end so on both branches. -/
theorem Form.exec_next (f : Form) (s : State) : ∃ t, f.exec s = .next t := by
  cases f with
  | ldRep | cpRep | inRep | outRep | jpCc | jrCc | callCc | retCc | djnz_e => exact ite_next _ _ _
  | _ => exact ⟨_, rfl⟩

theorem exec_next (i : Instr) (s : State) : ∃ t, exec i s = .next t := by
  rw [exec_form]
  exact i.form.exec_next s

theorem stepWith_of_exec {undoc : Bool} {s t : State} {i : Instr} (hf : s.fault = none)
    (hh : s.halted = false) (hd : s.fetch undoc = .ok i) (he : exec i (s.beforeAction i) = .next t) :
    stepWith undoc s = .next (t.afterAction i) := by
  rw [stepWith_running undoc hf hh hd, runInstruction, he]

/-- Settles O43. -/
theorem stepRunsDecodedInstruction : Obligations.StepRunsDecodedInstruction := by
  intro s i hf hh _ hd
  obtain ⟨t, ht⟩ := exec_next i (s.beforeAction i)
  exact ⟨t, ht, stepWith_of_exec hf hh hd ht⟩

theorem fetch_of_decodeForm {undoc : Bool} {s : State} {f : Form}
    (hd : decodeForm undoc s.pfx (s.memRead s.pc) (s.memRead (s.pc + 1)) (s.memRead (s.pc + 2)) = .ok f) :
    s.fetch undoc = .ok f.instr := by
  simp only [State.fetch, decodeStep, hd]

theorem decodeForm_pfx_byte (undoc : Bool) (p : Pfx) (b1 b2 : Byte) :
    decodeForm undoc none p.byte b1 b2 = .ok (.prefixOf p) := by
  cases p <;> cases undoc <;> rfl

/-- The step on a byte of `p` (R153): R gains 0, and after the action nothing follows. -/
theorem stepWith_pfx_byte (undoc : Bool) {s : State} {p : Pfx} (hf : s.fault = none)
    (hh : s.halted = false) (hp : s.pfx = none) (hb : s.memRead s.pc = p.byte) :
    stepWith undoc s = .next { s with pfx := some p, pc := s.pc + 1 } := by
  have hd : s.fetch undoc = .ok (Instr.prefixOf p) :=
    fetch_of_decodeForm (by rw [hp, hb]; exact decodeForm_pfx_byte undoc p _ _)
  have hbare : (Instr.prefixOf p).desc.category = .bare := (agrees (.prefixOf p)).category
  have hr : refreshStep (.prefixOf p) = 0 := (agrees (.prefixOf p)).refresh
  rw [stepWith_of_exec hf hh hd (exec_eq_prefixOf p _), State.afterAction, hbare, State.beforeAction, hr,
    incR_zero]

/-- Settles O47. -/
theorem prefixStep : Obligations.PrefixStep :=
  fun _ _ hf hh hp hb => stepWith_pfx_byte _ hf hh hp hb

/-! ### The fault latch (R163, R501) -/

theorem hostMove_keeps_fault {s : State} {idx : Nat} {m : HostMove} (h : s.fault = some idx)
    (hm : ∀ entry pageA pageB, m ≠ .reset entry pageA pageB) : (s.hostMove m).fault = some idx := by
  cases m with
  | reset entry pageA pageB => exact absurd rfl (hm entry pageA pageB)
  | restore core => simp [State.hostMove, h]
  | setNmi | setInt | setIntData | setMemory | setPortInputs | setPortHooks => exact h

/-- Settles O45. -/
theorem absentIndexFaults : Obligations.AbsentIndexFaults :=
  ⟨fun _ _ hf hh hd => stepWith_absent _ hf hh hd, fun _ _ h => stepWith_faulted _ h,
    fun _ _ _ h hm => hostMove_keeps_fault h hm⟩

/-! ### The halted step, and jumps to themselves (R151, R557) -/

/-- A halted core that hangs has nothing for the controller to take. -/
theorem interruptController_of_haltHang {s : State} (h : s.haltHang) : s.interruptController = s := by
  obtain ⟨-, hskip | ⟨hiff, hn⟩⟩ := h
  · exact interruptController_skip hskip
  · exact interruptController_idle hn (.inr hiff)

/-- A `normal` action that ends with interrupts masked and no NMI: the step clears the skip flag, and the
controller takes nothing. -/
theorem afterAction_masked {t : State} {i : Instr} (hc : i.desc.category = .normal)
    (hiff : t.iff1 = false) (hn : t.nmiPending = false) : t.afterAction i = { t with skipInt := false } := by
  rw [State.afterAction, hc]
  exact interruptController_idle hn (.inr hiff)

/-- `s` after a jump to `a` that leaves MEMPTR at `m`. -/
def Machine.State.jumped (s : State) (m a : Word) : State := { s with memptr := m, q := 0, pc := a }

/-- The step of a `normal` form whose action, with interrupts masked, jumps to `a`. -/
theorem stepWith_jump {undoc : Bool} {s : State} {f : Form} {m a : Word} (hf : s.fault = none)
    (hh : s.halted = false) (hiff : s.iff1 = false) (hn : s.nmiPending = false)
    (hd : decodeForm undoc s.pfx (s.memRead s.pc) (s.memRead (s.pc + 1)) (s.memRead (s.pc + 2)) = .ok f)
    (hc : f.category = .normal)
    (he : f.exec (s.beforeAction f.instr) = .next ((s.beforeAction f.instr).jumped m a)) :
    stepWith undoc s = .next { (s.beforeAction f.instr).jumped m a with skipInt := false } := by
  rw [← (agrees f).exec] at he
  rw [stepWith_of_exec hf hh (fetch_of_decodeForm hd) he]
  exact congrArg _ (afterAction_masked ((agrees f).category.trans hc) hiff hn)

/-- A form that `plainJumpTarget` sends to `a` jumps there (R411 to R416). -/
theorem exec_of_plainJumpTarget {s : State} {f : Form} {a : Word} (h : plainJumpTarget s f = some a) :
    f.category = .normal ∧ ∃ m, f.exec s = .next (s.jumped m a) := by
  cases f with
  | jr_e | jp_nn | jp_hl => cases h; exact ⟨rfl, _, rfl⟩
  | jrCc cc e =>
    rw [plainJumpTarget_jrCc, Option.ite_none_right_eq_some] at h
    obtain ⟨hcc, ⟨⟩⟩ := h
    exact ⟨rfl, _, if_pos hcc⟩
  | jpCc cc nn =>
    rw [plainJumpTarget_jpCc, Option.ite_none_right_eq_some] at h
    obtain ⟨hcc, ⟨⟩⟩ := h
    exact ⟨rfl, _, if_pos hcc⟩
  | _ => cases h

/-- A form that `xyJumpTarget` sends to `a` jumps there (R417). -/
theorem exec_of_xyJumpTarget {s : State} {f : Form} {a : Word} (h : xyJumpTarget s f = some a) :
    f.category = .normal ∧ ∃ m, f.exec s = .next (s.jumped m a) := by
  cases f with
  | jpXy => cases h; exact ⟨rfl, s.memptr, rfl⟩
  | _ => cases h

/-- What the jump of `s` to itself leaves: of the core, no more than R, MEMPTR, Q and the skip flag have
changed. -/
def Machine.State.jumpedBack (s : State) (r : Byte) (m : Word) : State :=
  { s.jumped m s.pc with pfx := none, r := r, skipInt := false }

theorem jumpHang_jumpedBack {s : State} (h : s.jumpHang) (r : Byte) (m : Word) :
    (s.jumpedBack r m).jumpHang := by
  obtain ⟨hh, -, hiff, hn, hj⟩ := h
  exact ⟨hh, rfl, hiff, hn, hj⟩

/-- An unprefixed jump to itself takes one step. -/
theorem step_of_plainJump {s : State} {f : Form} (hf : s.fault = none) (h : s.jumpHang)
    (hd : s.formAt none s.pc = .ok f) (hj : plainJumpTarget s f = some s.pc) :
    ∃ r m, step s = .next (s.jumpedBack r m) := by
  obtain ⟨hh, hp, hiff, hn, -⟩ := h
  obtain ⟨hc, m, he⟩ := exec_of_plainJumpTarget (s := s.beforeAction f.instr) hj
  exact ⟨_, m, stepWith_jump hf hh hiff hn (by rw [hp]; exact hd) hc he⟩

/-- A prefixed jump to itself takes two, of which the first latches `p`. -/
theorem step_step_of_xyJump {s : State} {f : Form} {p : Pfx} (hf : s.fault = none) (h : s.jumpHang)
    (hb : s.memRead s.pc = p.byte) (hd : s.formAt (some p) (s.pc + 1) = .ok f)
    (hj : xyJumpTarget s f = some s.pc) :
    ∃ r m u, step s = .next u ∧ step u = .next (s.jumpedBack r m) := by
  obtain ⟨hh, hp, hiff, hn, -⟩ := h
  let u : State := { s with pfx := some p, pc := s.pc + 1 }
  obtain ⟨hc, m, he⟩ := exec_of_xyJumpTarget (s := u.beforeAction f.instr) hj
  exact ⟨_, m, u, stepWith_pfx_byte _ hf hh hp hb, stepWith_jump (s := u) hf hh hiff hn hd hc he⟩

/-- A core that hangs in a jump to itself is back after one step or two. -/
theorem step_of_jumpHang {s : State} (hf : s.fault = none) (h : s.jumpHang) :
    ∃ r m, step s = .next (s.jumpedBack r m) ∨
      ∃ u, step s = .next u ∧ step u = .next (s.jumpedBack r m) := by
  have hj : s.jumpTarget = some s.pc := by
    obtain ⟨-, -, -, -, hj⟩ := h
    exact hj
  unfold State.jumpTarget at hj
  split at hj
  · split at hj
    next f hd =>
      obtain ⟨r, m, hs⟩ := step_of_plainJump hf h hd hj
      exact ⟨r, m, .inl hs⟩
    · cases hj
  next p hb =>
    split at hj
    next f hd =>
      obtain ⟨r, m, hs⟩ := step_step_of_xyJump hf h (byte_of_ofByte hb) hd hj
      exact ⟨r, m, .inr hs⟩
    · cases hj

/-- Settles O46, by the two ways a core hangs. -/
theorem haltedStep : Obligations.HaltedStep := by
  refine ⟨fun s hf hh => stepWith_halted _ hf hh, ?_, ?_, ?_, ?_⟩
  · intro s hf h
    refine ⟨?_, h⟩
    rw [step, stepWith_halted _ hf h.1, State.haltedStep, interruptController_of_haltHang h]
  · intro s hf h
    obtain ⟨r, m, hs⟩ := step_of_jumpHang hf h
    exact ⟨_, hs, rfl, jumpHang_jumpedBack h r m⟩
  · rintro stop s ⟨hpc, -, hnf, hh, hnj⟩
    refine ⟨hpc, by simpa using hnf, ?_, hnj⟩
    simp [hh]
  · intro s hf hh hp hj
    refine ⟨rfl, hp, by simp [hf], hh, ?_⟩
    rintro ⟨-, -, -, -, hj'⟩
    exact hj hj'

end Sys2Proof

/-! ## Loads and exchanges (O1 to O8)

Each of these actions makes one named update of the state (a register, a pair, a half, a store), then
sets MEMPTR at most, clears Q and advances PC (LD A,I and LD A,R write F and Q instead). For an update
that several claims share, one lemma turns such a result into their terms: what is written and the frame
around it. -/

namespace Sys2Proof.Machine

@[simp] theorem loByte_bc (s : State) : loByte s.bc = s.c := loByte_mkWord _ _
@[simp] theorem loByte_de (s : State) : loByte s.de = s.e := loByte_mkWord _ _
@[simp] theorem loByte_hl (s : State) : loByte s.hl = s.l := loByte_mkWord _ _
@[simp] theorem hiByte_hl (s : State) : hiByte s.hl = s.h := hiByte_mkWord _ _

section
variable {s : State} {res : Result} {m p : Word}

/-! ### Registers -/

theorem next_setR8 {r : R8} {v : Byte} (h : res = .next { s.setR8 r v with q := 0, pc := p }) :
    ∃ t, res = .next t ∧ writesR8 s t r v ∧ t = { s.withR8Of t with q := 0, pc := p } :=
  ⟨_, h, writesR8_of fun _ => rfl, by cases r <;> rfl⟩

theorem next_setHalf {x : Xy} {k : Half} {v : Byte}
    (h : res = .next { s.setHalf x k v with q := 0, pc := p }) :
    ∃ t, res = .next t ∧ writesHalf s t x k v ∧ t = { s.withXyOf t with q := 0, pc := p } :=
  ⟨_, h, writesHalf_of fun _ => rfl, by cases x <;> cases k <;> rfl⟩

/-! ### Stores -/

theorem next_memWrite {a : Word} {v : Byte}
    (h : res = .next { s with mem := (s.memWrite a v).mem, memptr := m, q := 0, pc := p }) :
    ∃ t, res = .next t ∧ t.memRead a = v ∧ sameMemoryBut s t [a] ∧
      t = { s with mem := t.mem, memptr := m, q := 0, pc := p } :=
  ⟨_, h, memRead_memWrite_self s a v, sameMemoryBut_memWrite s a v, rfl⟩

theorem next_memWrite2 {a v : Word}
    (h : res = .next { s with mem := (s.memWrite2 a v).mem, memptr := m, q := 0, pc := p }) :
    ∃ t, res = .next t ∧ t.memRead a = loByte v ∧ t.memRead (a + 1) = hiByte v ∧
      sameMemoryBut s t [a, a + 1] ∧ t = { s with mem := t.mem, memptr := m, q := 0, pc := p } :=
  ⟨_, h, memRead_memWrite2_lo s a v, memRead_memWrite2_hi s a v, sameMemoryBut_memWrite2 s a v, rfl⟩

end

/-- The flags of `LD A,I` and `LD A,R` (R223, R224). -/
theorem hasFlags_loadIrFlags (v : Byte) (iff2 : Bool) (f : Byte) :
    hasFlags (loadIrFlags v iff2 f) (v.getLsbD 7) (decide (v = 0)) (v.getLsbD 5) false (v.getLsbD 3)
      iff2 false (flagC f) :=
  hasFlags_szxyF false iff2 false (flagC f) v v

end Sys2Proof.Machine

namespace Sys2Proof
open Machine

/-- Settles O1: each load writes its destination by `setR8` (R200 to R203). -/
theorem loadRegister : Obligations.LoadRegister := by
  refine ⟨fun dst src s => ?_, fun dst n s => ?_, fun dst s => ?_, fun dst xy d s => ?_⟩
  · exact next_setR8 ((exec_eq_ldRR dst src s).trans (loadRegReg_eq dst src s))
  · exact next_setR8 ((exec_eq_ldRN dst n s).trans (loadRegImm_eq dst n s))
  · exact next_setR8 ((exec_eq_ldRHl dst s).trans (loadRegHl_eq dst s))
  · exact ⟨_, (exec_eq_ldRXy dst xy d s).trans (loadRegIdx_eq dst xy d s), writesR8_of fun _ => rfl,
      by cases dst <;> rfl⟩

/-- Settles O2: each store is one `memWrite` (R204 to R207). -/
theorem storeRegister : Obligations.StoreRegister := by
  refine ⟨fun r s => ?_, fun n s => ?_, fun xy d r s => ?_, fun xy d n s => ?_⟩
  · exact next_memWrite ((exec_eq_ldHlR r s).trans (storeHlReg_eq r s))
  · exact next_memWrite ((exec_eq_ld_mhl_n n s).trans (storeHlImm_eq n s))
  · exact next_memWrite ((exec_eq_ldXyR xy d r s).trans (storeIdxReg_eq xy d r s))
  · exact next_memWrite ((exec_eq_ldXyN xy d n s).trans (storeIdxImm_eq xy d n s))

/-- Settles O3, from the shared bodies `loadAFrom` and `storeATo` (R208 to R213). -/
theorem accumulatorMemory : Obligations.AccumulatorMemory := by
  refine ⟨fun s => ?_, fun s => ?_, fun nn s => ?_, fun s => ?_, fun s => ?_, fun nn s => ?_⟩
  · exact (exec_eq_ld_a_mbc s).trans (loadAFrom_eq s.bc 1 s)
  · exact (exec_eq_ld_a_mde s).trans (loadAFrom_eq s.de 1 s)
  · exact (exec_eq_ld_a_mnn nn s).trans (loadAFrom_eq nn 3 s)
  · have h := next_memWrite ((exec_eq_ld_mbc_a s).trans (storeATo_eq s.bc 1 s))
    rwa [loByte_bc] at h
  · have h := next_memWrite ((exec_eq_ld_mde_a s).trans (storeATo_eq s.de 1 s))
    rwa [loByte_de] at h
  · exact next_memWrite ((exec_eq_ld_mnn_a nn s).trans (storeATo_eq nn 3 s))

/-- Settles O4: a plain destination is written by `setR8`, a half by `setHalf` (R214, R215). -/
theorem indexHalfLoads : Obligations.IndexHalfLoads := by
  refine ⟨fun r xy h s => ?_, fun xy h r s => ?_, fun xy h k s => ?_, fun xy h n s => ?_⟩
  · exact next_setR8 ((exec_eq_ldPlainHalf r xy h s).trans (loadPlainHalf_eq r xy h s))
  · exact next_setHalf ((exec_eq_ldHalfPlain xy h r s).trans (loadHalfPlain_eq xy h r s))
  · exact next_setHalf ((exec_eq_ldHalfHalf xy h k s).trans (loadHalfHalf_eq xy h k s))
  · exact next_setHalf ((exec_eq_ldHalfN xy h n s).trans (loadHalfImm_eq xy h n s))

/-- Settles O5, with the flags of `hasFlags_loadIrFlags` (R221 to R224). -/
theorem refreshAndVectorLoads : Obligations.RefreshAndVectorLoads := by
  refine ⟨fun s => ?_, fun s => ?_, fun s => ?_, fun s => ?_⟩
  · exact (exec_eq_ld_i_a s).trans (loadIA_eq s)
  · exact (exec_eq_ld_r_a s).trans (loadRA_eq s)
  · exact ⟨_, (exec_eq_ld_a_i s).trans (loadAI_eq s), hasFlags_loadIrFlags s.i s.iff2 s.f, rfl⟩
  · exact ⟨_, (exec_eq_ld_a_r s).trans (loadAR_eq s), hasFlags_loadIrFlags s.r s.iff2 s.f, rfl⟩

/-- Settles O6, by the destination: a pair, an index register, HL or SP (R225 to R229, R233, R234). -/
theorem load16 : Obligations.Load16 := by
  refine ⟨fun dd nn s => ?_, fun xy nn s => ?_, fun nn s => ?_, fun dd nn s => ?_, fun xy nn s => ?_,
    fun s => ?_, fun xy s => ?_⟩
  · exact ⟨_, (exec_eq_ldPairNn dd nn s).trans (loadPairImm_eq dd nn s), writesPair_of fun _ => rfl,
      by cases dd <;> rfl⟩
  · exact ⟨_, (exec_eq_ldXyNn xy nn s).trans (loadXyImm_eq xy nn s), writesXy_of fun _ => rfl,
      by cases xy <;> rfl⟩
  · exact (exec_eq_ld_hl_mnn nn s).trans (loadHlDirect_eq nn s)
  · exact ⟨_, (exec_eq_ldPairMnn dd nn s).trans (loadPairDirect_eq dd nn s), writesPair_of fun _ => rfl,
      by cases dd <;> rfl⟩
  · exact ⟨_, (exec_eq_ldXyMnn xy nn s).trans (loadXyDirect_eq xy nn s), writesXy_of fun _ => rfl,
      by cases xy <;> rfl⟩
  · exact (exec_eq_ld_sp_hl s).trans (loadSpHl_eq s)
  · exact (exec_eq_ldSpXy xy s).trans (loadSpXy_eq xy s)

/-- Settles O7: each store is one `memWrite2` (R230 to R232). -/
theorem store16 : Obligations.Store16 := by
  refine ⟨fun nn s => ?_, fun nn dd s => ?_, fun nn xy s => ?_⟩
  · have h := next_memWrite2 ((exec_eq_ld_mnn_hl nn s).trans (storeWordAt_eq nn s.hl s))
    rwa [loByte_hl, hiByte_hl] at h
  · exact next_memWrite2 ((exec_eq_ldMnnPair nn dd s).trans (storeWordAt_eq nn (s.pair dd) s))
  · exact next_memWrite2 ((exec_eq_ldMnnXy nn xy s).trans (storeWordAt_eq nn (s.xy xy) s))

/-- Settles O8. The two bytes that `EX (SP)` writes at SP are those of `exchangeAtSp` (R238 to R242). -/
theorem exchanges : Obligations.Exchanges := by
  refine ⟨fun s => ?_, fun s => ?_, fun s => ?_, fun s => ?_, fun xy s => ?_⟩
  · exact (exec_eq_ex_de_hl s).trans (exchangeDeHl_eq s)
  · exact (exec_eq_ex_af_afAlt s).trans (exchangeAf_eq s)
  · exact (exec_eq_exx s).trans (exchangeBanks_eq s)
  · exact ⟨_, (exec_eq_ex_msp_hl s).trans (exchangeStackHl_eq s),
      (memRead_exchangeAtSp_lo s s.hl).trans (loByte_hl s),
      (memRead_exchangeAtSp_hi s s.hl).trans (hiByte_hl s), sameMemoryBut_exchangeAtSp s s.hl, rfl⟩
  · exact ⟨_, (exec_eq_exSpXy xy s).trans (exchangeStackXy_eq xy s),
      memRead_exchangeAtSp_lo s (s.xy xy), memRead_exchangeAtSp_hi s (s.xy xy),
      sameMemoryBut_exchangeAtSp s (s.xy xy), writesXy_of fun _ => rfl, by cases xy <;> rfl⟩

end Sys2Proof

/-! ## 8-bit arithmetic and logic (O9 to O14)

Every accumulator operation answers the record of `aluAccumulator_eq`, and every INC and DEC the one of
`increment8_eq` and `decrement8_eq`. What is left to say is arithmetic: what `alu8`, `inc8` and `dec8`
put in the result and in F. -/

namespace Sys2Proof.Machine

/-! ### The accumulator operations (R261 to R268) -/

/-- The difference as an integer, with the borrow in. -/
theorem sub8_r_toInt (a b : Byte) (cin : Bool) :
    ((sub8 a b cin).r.toNat : Int) = ((a.toNat : Int) - b.toNat - cin.toNat) % 256 := by
  have ha := a.isLt
  have hb := b.isLt
  have hc := cin.toNat_le
  rw [sub8_r]
  omega

theorem hasFlags_sumFlags (o : Sum8) (src : Byte) (n : Bool) :
    hasFlags (sumFlags o src n) (decide (128 ≤ o.r.toNat)) (decide (o.r = 0)) (src.getLsbD 5) o.h
      (src.getLsbD 3) o.v n o.c := by
  rw [← msb_eq_decide8]
  exact hasFlags_szxyF o.h o.v n o.c o.r src

/-- The flags of a sum, in exact arithmetic (R261, R262). -/
theorem hasFlags_add8 (a b : Byte) (cin : Bool) :
    hasFlags (sumFlags (add8 a b cin) (add8 a b cin).r false)
      (s := decide (128 ≤ (add8 a b cin).r.toNat)) (z := decide ((add8 a b cin).r = 0))
      (y := (add8 a b cin).r.getLsbD 5)
      (h := decide (15 < a.toNat % 16 + b.toNat % 16 + cin.toNat))
      (x := (add8 a b cin).r.getLsbD 3)
      (pv := decide (a.toInt + b.toInt + cin.toNat < -128 ∨ 127 < a.toInt + b.toInt + cin.toNat))
      (n := false) (c := decide (255 < a.toNat + b.toNat + cin.toNat)) := by
  rw [← add8_v, ← add8_c]
  exact hasFlags_sumFlags (add8 a b cin) (add8 a b cin).r false

/-- The flags of a difference, in exact arithmetic, with Y and X from `src` (R263, R264, R268). -/
theorem hasFlags_sub8 (a b src : Byte) (cin : Bool) :
    hasFlags (sumFlags (sub8 a b cin) src true)
      (s := decide (128 ≤ (sub8 a b cin).r.toNat)) (z := decide ((sub8 a b cin).r = 0))
      (y := src.getLsbD 5) (h := decide (a.toNat % 16 < b.toNat % 16 + cin.toNat))
      (x := src.getLsbD 3)
      (pv := decide (a.toInt - b.toInt - cin.toNat < -128 ∨ 127 < a.toInt - b.toInt - cin.toNat))
      (n := true) (c := decide (a.toNat < b.toNat + cin.toNat)) := by
  rw [← sub8_h, ← sub8_v, ← sub8_c]
  exact hasFlags_sumFlags (sub8 a b cin) src true

/-- The flags of a comparison: those of the difference without a borrow in, with Z as equality (R268). -/
theorem hasFlags_compare (a b : Byte) :
    hasFlags (sumFlags (sub8 a b false) b true)
      (s := decide (128 ≤ ((a.toNat : Int) - b.toNat) % 256)) (z := decide (a = b))
      (y := b.getLsbD 5) (h := decide (a.toNat % 16 < b.toNat % 16)) (x := b.getLsbD 3)
      (pv := decide (a.toInt - b.toInt < -128 ∨ 127 < a.toInt - b.toInt))
      (n := true) (c := decide (a.toNat < b.toNat)) := by
  have hflags := hasFlags_sub8 a b b false
  have hs : 128 ≤ (sub8 a b false).r.toNat ↔ 128 ≤ ((a.toNat : Int) - b.toNat) % 256 := by
    have hr := sub8_r_toInt a b false
    rw [Bool.toNat_false] at hr
    omega
  have hz : (sub8 a b false).r = 0 ↔ a = b := by rw [sub8_r_eq, sub_eq_zero]
  simpa only [hs, hz, Bool.toNat_false, Nat.add_zero, Int.natCast_zero, Int.sub_zero] using hflags

/-- ADD and ADC by one adder: ADD has no carry in. -/
theorem alu8_add (carry : Bool) (a v f : Byte) :
    alu8 (if carry then .adc else .add) a v f =
      { r := (add8 a v (carry && flagC f)).r
        f := sumFlags (add8 a v (carry && flagC f)) (add8 a v (carry && flagC f)).r false } := by
  cases carry <;> rfl

/-- SUB and SBC by one subtracter: SUB has no borrow in. -/
theorem alu8_sub (carry : Bool) (a v f : Byte) :
    alu8 (if carry then .sbc else .sub) a v f =
      { r := (sub8 a v (carry && flagC f)).r
        f := sumFlags (sub8 a v (carry && flagC f)) (sub8 a v (carry && flagC f)).r true } := by
  cases carry <;> rfl

theorem hasFlags_logicFlags (r : Byte) (h : Bool) :
    hasFlags (logicFlags r h) (r.getLsbD 7) (decide (r = 0)) (r.getLsbD 5) h (r.getLsbD 3) (parity r)
      false false :=
  hasFlags_szxyF h (parity r) false false r r

/-! ### INC and DEC (R269 to R276) -/

theorem loNibble_toNat (v : Byte) : (loNibble v).toNat = v.toNat % 16 := by
  rw [loNibble, BitVec.extractLsb'_toNat, Nat.shiftRight_zero]

theorem loNibble_eq_iff (v : Byte) (k : BitVec 4) : loNibble v = k ↔ v.toNat % 16 = k.toNat := by
  rw [← BitVec.toNat_inj, loNibble_toNat]

/-- The result and F of INC, or of DEC if `down`. -/
def incDec8 (down : Bool) (old f : Byte) : Out8 := if down then dec8 old f else inc8 old f

theorem incDec8_r (down : Bool) (old f : Byte) :
    (incDec8 down old f).r = if down then old - 1 else old + 1 := by
  cases down <;> rfl

theorem incDec8_f (down : Bool) (old f : Byte) :
    (incDec8 down old f).f = szxyF (incDec8 down old f).r (incDec8 down old f).r
      (h := decide (old.toNat % 16 = if down then 0 else 15))
      (pv := decide (old = if down then 0x80 else 0x7F)) (n := down) (c := flagC f) := by
  cases down <;> simp [incDec8, inc8, dec8, loNibble_eq_iff, beq_eq_decide]

theorem hasFlags_incDec8 (down : Bool) (old f : Byte) :
    hasFlags (incDec8 down old f).f
      (s := (incDec8 down old f).r.getLsbD 7) (z := decide ((incDec8 down old f).r = 0))
      (y := (incDec8 down old f).r.getLsbD 5)
      (h := decide (old.toNat % 16 = if down then 0 else 15))
      (x := (incDec8 down old f).r.getLsbD 3)
      (pv := decide (old = if down then 0x80 else 0x7F)) (n := down) (c := flagC f) := by
  rw [incDec8_f]
  exact hasFlags_szxyF ..

end Sys2Proof.Machine

namespace Sys2Proof
open Machine

/-- INC and DEC as one action: the result is written back, F and Q are those of `incDec8`. -/
theorem exec_incDec8 (down : Bool) (dst : Dst8) (s : State) :
    exec (if down then .dec8 dst else .inc8 dst) s =
      .next { writeDst8 dst (incDec8 down (readDst8 dst s) s.f).r s with
        f := (incDec8 down (readDst8 dst s) s.f).f, q := (incDec8 down (readDst8 dst s) s.f).f
        pc := s.pc + lenDst8 dst } := by
  cases down with
  | false => exact (exec_eq_inc8 dst s).trans (increment8_eq dst s)
  | true => exact (exec_eq_dec8 dst s).trans (decrement8_eq dst s)

/-- Settles O9: ADD is ADC without a carry in, and the adder's flags are exact (R261, R262). -/
theorem addWithAndWithoutCarry : Obligations.AddWithAndWithoutCarry := by
  intro carry src s
  refine ⟨_, (exec_eq_alu _ src s).trans (aluAccumulator_eq _ src s), ?_, ?_, rfl⟩
  · rw [alu8_add]
    exact add8_r ..
  · rw [alu8_add]
    exact hasFlags_add8 ..

/-- Settles O10: SUB is SBC without a borrow in, and the subtracter's flags are exact (R263, R264). -/
theorem subtractWithAndWithoutBorrow : Obligations.SubtractWithAndWithoutBorrow := by
  intro carry src s
  refine ⟨_, (exec_eq_alu _ src s).trans (aluAccumulator_eq _ src s), ?_, ?_, rfl⟩
  · rw [alu8_sub]
    exact sub8_r_toInt ..
  · rw [alu8_sub]
    exact hasFlags_sub8 ..

/-- Settles O11: CP keeps A and has the flags of `hasFlags_compare` (R268). -/
theorem compare : Obligations.Compare := by
  intro src s
  exact ⟨_, (exec_eq_alu .cp src s).trans (aluAccumulator_eq .cp src s),
    hasFlags_compare s.a (readSrc8 src s), rfl⟩

/-- Settles O12, operation by operation: the bits of the result, and the flags of
`hasFlags_logicFlags` (R265 to R267). -/
theorem bitwiseLogic : Obligations.BitwiseLogic := by
  intro op src s hop
  refine ⟨_, (exec_eq_alu op src s).trans (aluAccumulator_eq op src s), ?_, ?_, rfl⟩
  · intro k _
    obtain rfl | rfl | rfl := hop
    · exact BitVec.getLsbD_and
    · exact BitVec.getLsbD_xor
    · exact BitVec.getLsbD_or
  · obtain rfl | rfl | rfl := hop
    · exact hasFlags_logicFlags (s.a &&& readSrc8 src s) true
    · exact hasFlags_logicFlags (s.a ^^^ readSrc8 src s) false
    · exact hasFlags_logicFlags (s.a ||| readSrc8 src s) false

/-- Settles O13, form by form, from the one record that every accumulator operation answers (R260). -/
theorem operandForms : Obligations.OperandForms := by
  intro op src s t h
  rw [exec_eq_alu, aluAccumulator_eq] at h
  cases h
  cases src with
  | r | n | hl | idx | half => exact ⟨rfl, rfl, rfl⟩

/-- Settles O14: the flags are those of `hasFlags_incDec8`, and each operand form is written back by its
own named update (R269 to R276). -/
theorem incrementDecrement8 : Obligations.IncrementDecrement8 := by
  intro down dst s old res
  have hres : (incDec8 down old s.f).r = res := incDec8_r down old s.f
  have hexec := exec_incDec8 down dst s
  have hflags := hasFlags_incDec8 down old s.f
  rw [hres] at hexec hflags
  refine ⟨_, hexec, hflags, rfl, ?_⟩
  cases dst with
  | r r => exact ⟨rfl, writesR8_of fun _ => rfl, by cases r <;> rfl⟩
  | hl => exact ⟨rfl, memRead_memWrite_self s s.hl res, sameMemoryBut_memWrite s s.hl res, rfl⟩
  | idx x d =>
    exact ⟨rfl, memRead_memWrite_self s (s.ea x d) res, sameMemoryBut_memWrite s (s.ea x d) res, rfl⟩
  | half x h => exact ⟨rfl, writesHalf_of fun _ => rfl, by cases x <;> cases h <;> rfl⟩

end Sys2Proof

/-! ## 16-bit arithmetic, DAA, CPL, NEG (O15 to O19)

The three additions and subtractions to HL leave the bytes of one 16-bit result in H and L (`next_hl`),
and the additions to an index register write it by `setXy`. The 16-bit increments and decrements are one
named update each. What is left is the arithmetic of F: of the 16-bit adders, of the correction of DAA,
and of the subtraction from 0. -/

namespace Sys2Proof.Machine

section
variable {s : State} {res : Result} {v m n : Word} {g : Byte}

/-! ### How a 16-bit result is written -/

/-- An action that leaves the bytes of `v` in H and L and writes F leaves `v` in HL. -/
theorem next_hl (h : res = .next { s with
      h := hiByte v, l := loByte v, f := g, q := g, memptr := m, pc := n }) :
    ∃ t, res = .next t ∧ t.hl = v ∧ t.f = g ∧
      t = { s with h := t.h, l := t.l, f := t.f, q := t.f, memptr := m, pc := n } :=
  ⟨_, h, mkWord_hiByte_loByte v, rfl, rfl⟩

theorem next_setXy_flags {x : Xy} (h : res = .next { s.setXy x v with
      f := g, q := g, memptr := m, pc := n }) :
    ∃ t, res = .next t ∧ writesXy s t x v ∧ t.f = g ∧
      t = { s.withXyOf t with f := t.f, q := t.f, memptr := m, pc := n } :=
  ⟨_, h, writesXy_of fun _ => rfl, rfl, by cases x <;> rfl⟩

theorem next_setPair {p : Pair} (h : res = .next { s.setPair p v with q := 0, pc := n }) :
    ∃ t, res = .next t ∧ writesPair s t p v ∧
      t = { s.withR8Of t with sp := t.sp, q := 0, pc := n } :=
  ⟨_, h, writesPair_of fun _ => rfl, by cases p <;> rfl⟩

theorem next_setXy {x : Xy} (h : res = .next { s.setXy x v with q := 0, pc := n }) :
    ∃ t, res = .next t ∧ writesXy s t x v ∧ t = { s.withXyOf t with q := 0, pc := n } :=
  ⟨_, h, writesXy_of fun _ => rfl, by cases x <;> rfl⟩

end

/-! ### The 16-bit adders (R300 to R303) -/

theorem hiByte_getLsbD (w : Word) {k : Nat} (hk : k < 8) : (hiByte w).getLsbD k = w.getLsbD (8 + k) := by
  simp [hiByte, hk]

theorem addPair16_r (a b : Word) (f : Byte) :
    (addPair16 a b f).r.toNat = (a.toNat + b.toNat) % 65536 :=
  add16_r a b false

/-- ADD keeps S, Z and PV, and H and C are the exact carries (R300, R301). -/
theorem hasFlags_addPair16 (a b : Word) (f : Byte) :
    hasFlags (addPair16 a b f).f (s := flagS f) (z := flagZ f)
      (y := (hiByte (addPair16 a b f).r).getLsbD 5)
      (h := decide (4095 < a.toNat % 4096 + b.toNat % 4096))
      (x := (hiByte (addPair16 a b f).r).getLsbD 3) (pv := flagPV f) (n := false)
      (c := decide (65535 < a.toNat + b.toNat)) :=
  hasFlags_packF (hs := rfl) (hz := rfl) (hy := rfl) (hh := rfl) (hx := rfl) (hpv := rfl) (hn := rfl)
    (hc := add16_c a b false)

theorem hasFlags_sumFlags16 (o : Sum16) (n : Bool) :
    hasFlags (sumFlags16 o n) (decide (32768 ≤ o.r.toNat)) (decide (o.r = 0)) ((hiByte o.r).getLsbD 5)
      o.h ((hiByte o.r).getLsbD 3) o.v n o.c :=
  hasFlags_packF (hs := getLsbD_eq_decide o.r) (hz := beq_eq_decide _ _) (hy := rfl) (hh := rfl) (hx := rfl)
    (hpv := rfl) (hn := rfl) (hc := rfl)

/-- The flags of a 16-bit sum, in exact arithmetic (R302). -/
theorem hasFlags_add16 (a b : Word) (cin : Bool) :
    hasFlags (sumFlags16 (add16 a b cin) false)
      (s := decide (32768 ≤ (add16 a b cin).r.toNat)) (z := decide ((add16 a b cin).r = 0))
      (y := (hiByte (add16 a b cin).r).getLsbD 5)
      (h := decide (4095 < a.toNat % 4096 + b.toNat % 4096 + cin.toNat))
      (x := (hiByte (add16 a b cin).r).getLsbD 3)
      (pv := decide (a.toInt + b.toInt + cin.toNat < -32768 ∨ 32767 < a.toInt + b.toInt + cin.toNat))
      (n := false) (c := decide (65535 < a.toNat + b.toNat + cin.toNat)) := by
  rw [← add16_v, ← add16_c]
  exact hasFlags_sumFlags16 (add16 a b cin) false

/-- The flags of a 16-bit difference, in exact arithmetic (R303). -/
theorem hasFlags_sub16 (a b : Word) (cin : Bool) :
    hasFlags (sumFlags16 (sub16 a b cin) true)
      (s := decide (32768 ≤ (sub16 a b cin).r.toNat)) (z := decide ((sub16 a b cin).r = 0))
      (y := (hiByte (sub16 a b cin).r).getLsbD 5)
      (h := decide (a.toNat % 4096 < b.toNat % 4096 + cin.toNat))
      (x := (hiByte (sub16 a b cin).r).getLsbD 3)
      (pv := decide (a.toInt - b.toInt - cin.toNat < -32768 ∨ 32767 < a.toInt - b.toInt - cin.toNat))
      (n := true) (c := decide (a.toNat < b.toNat + cin.toNat)) := by
  rw [← sub16_h, ← sub16_v, ← sub16_c]
  exact hasFlags_sumFlags16 (sub16 a b cin) true

/-- The 16-bit difference as an integer, with the borrow in. -/
theorem sub16_r_toInt (a b : Word) (cin : Bool) :
    ((sub16 a b cin).r.toNat : Int) = ((a.toNat : Int) - b.toNat - cin.toNat) % 65536 := by
  have ha := a.isLt
  have hb := b.isLt
  have hc := cin.toNat_le
  rw [sub16_r]
  omega

/-! ### DAA (R308) -/

/-- The correction of DAA as a number: 06, 60, both or neither. -/
def daaCorrection (a f : Byte) : Int :=
  (if flagH f = true ∨ 9 < a.toNat % 16 then 6 else 0) +
    (if flagC f = true ∨ 0x99 < a.toNat then 96 else 0)

/-- 06 and 60 have no bit in common, so their `or` is their sum. -/
theorem daa_or_toNat (low high : Bool) :
    ((((if low then 0x06 else 0x00) ||| (if high then 0x60 else 0x00) : Byte).toNat : Nat) : Int) =
      (if low = true then 6 else 0) + (if high = true then 96 else 0) := by
  cases low <;> cases high <;> rfl

theorem daa8_r (a f : Byte) :
    ((daa8 a f).r.toNat : Int) =
      ((a.toNat : Int) + if flagN f then -daaCorrection a f else daaCorrection a f) % 256 := by
  have hadj := daa_or_toNat (flagH f || decide (9 < (loNibble a).toNat)) (flagC f || decide (0x99 < a.toNat))
  simp only [Bool.or_eq_true, decide_eq_true_eq, loNibble_toNat] at hadj
  rw [daaCorrection, ← hadj]
  simp only [daa8, Bool.or_eq_true, decide_eq_true_eq, loNibble_toNat]
  cases flagN f with
  | true => simp only [if_true, BitVec.toNat_sub]; omega
  | false => simp only [Bool.false_eq_true, if_false, BitVec.toNat_add]; omega

theorem hasFlags_daa8 (a f : Byte) :
    hasFlags (daa8 a f).f (s := (daa8 a f).r.getLsbD 7) (z := decide ((daa8 a f).r = 0))
      (y := (daa8 a f).r.getLsbD 5)
      (h := if flagN f then flagH f && decide (a.toNat % 16 < 6) else decide (9 < a.toNat % 16))
      (x := (daa8 a f).r.getLsbD 3) (pv := parity (daa8 a f).r) (n := flagN f)
      (c := decide (flagC f = true ∨ 0x99 < a.toNat)) := by
  rw [Bool.decide_or, Bool.decide_eq_true, ← loNibble_toNat]
  exact hasFlags_szxyF ..

/-! ### CPL and NEG (R309, R310) -/

theorem hasFlags_cpl8 (a f : Byte) :
    hasFlags (cpl8 a f).f (flagS f) (flagZ f) ((~~~a).getLsbD 5) true ((~~~a).getLsbD 3) (flagPV f) true
      (flagC f) :=
  hasFlags_packF (hs := rfl) (hz := rfl) (hy := rfl) (hh := rfl) (hx := rfl) (hpv := rfl) (hn := rfl)
    (hc := rfl)

/-- The one byte whose negation overflows is 80. -/
theorem neg_overflow_iff (a : Byte) :
    ((0 : Byte).toInt - a.toInt < -128 ∨ 127 < (0 : Byte).toInt - a.toInt) ↔ a = 0x80 := by
  have ha := a.isLt
  have h0 : (0 : Byte).toInt = 0 := rfl
  have h80 : (0x80 : Byte).toNat = 128 := rfl
  rw [← BitVec.toNat_inj, BitVec.toInt_eq_toNat_cond a, h0, h80]
  split <;> omega

/-- The flags of the subtraction from 0, by the value negated (R310). -/
theorem hasFlags_neg8 (a : Byte) :
    hasFlags (neg8 a).f (s := (neg8 a).r.getLsbD 7) (z := decide ((neg8 a).r = 0))
      (y := (neg8 a).r.getLsbD 5) (h := decide (a.toNat % 16 ≠ 0)) (x := (neg8 a).r.getLsbD 3)
      (pv := decide (a = 0x80)) (n := true) (c := decide (a ≠ 0)) := by
  have hflags := hasFlags_sub8 0 a (neg8 a).r false
  have hh : (0 : Byte).toNat % 16 < a.toNat % 16 ↔ a.toNat % 16 ≠ 0 := Nat.pos_iff_ne_zero
  have hc : (0 : Byte).toNat < a.toNat ↔ a ≠ 0 := by
    rw [ne_eq, ← BitVec.toNat_inj]
    exact Nat.pos_iff_ne_zero
  rw [← msb_eq_decide8] at hflags
  simp only [hh, hc, neg_overflow_iff, Bool.toNat_false, Nat.add_zero, Int.natCast_zero,
    Int.sub_zero] at hflags
  exact hflags

theorem neg8_r (a : Byte) : (neg8 a).r.toNat = (256 - a.toNat) % 256 := by
  rw [show (neg8 a).r = 0 - a from sub8_r_eq 0 a, zero_sub, BitVec.toNat_neg]

end Sys2Proof.Machine

namespace Sys2Proof
open Machine

/-- Settles O15: HL is written by its bytes, an index register by `setXy`; the flags are those of
`hasFlags_addPair16` (R300, R301). -/
theorem add16 : Obligations.Add16 := by
  refine ⟨fun ss s => ?_, fun xy pp s => ?_⟩
  · obtain ⟨t, hexec, hhl, hf, hframe⟩ := next_hl ((exec_eq_addHl ss s).trans (addHlPair_eq ss s))
    refine ⟨t, hexec, ?_, ?_, hframe⟩
    · rw [hhl]
      exact addPair16_r ..
    · rw [← hiByte_hl t, hhl, hf]
      exact hasFlags_addPair16 ..
  · intro v
    have hv : s.addPair xy pp = v := by cases pp <;> rfl
    obtain ⟨t, hexec, ⟨hxy, hother⟩, hf, hframe⟩ :=
      next_setXy_flags ((exec_eq_addXy xy pp s).trans (addXyPair_eq xy pp s))
    rw [hv] at hxy hf
    refine ⟨t, hexec, ?_, hother, ?_, hframe⟩
    · rw [hxy]
      exact addPair16_r ..
    · rw [hxy, hf, ← hiByte_getLsbD _ (k := 5) (by decide), ← hiByte_getLsbD _ (k := 3) (by decide)]
      exact hasFlags_addPair16 ..

/-- Settles O16: both results are written to HL by their bytes, and the flags of the 16-bit adders are
exact (R302, R303). -/
theorem adcSbcHl : Obligations.AdcSbcHl := by
  intro ss s a b cin
  constructor
  · obtain ⟨t, hexec, hhl, hf, hframe⟩ := next_hl ((exec_eq_adcHl ss s).trans (adcHlPair_eq ss s))
    refine ⟨t, hexec, ?_, ?_, hframe⟩
    · rw [hhl]
      exact add16_r ..
    · rw [← hiByte_hl t, hhl, hf]
      exact hasFlags_add16 ..
  · obtain ⟨t, hexec, hhl, hf, hframe⟩ := next_hl ((exec_eq_sbcHl ss s).trans (sbcHlPair_eq ss s))
    refine ⟨t, hexec, ?_, ?_, hframe⟩
    · rw [hhl]
      exact sub16_r_toInt ..
    · rw [← hiByte_hl t, hhl, hf]
      exact hasFlags_sub16 ..

/-- Settles O17: each is one `setPair` or one `setXy` (R304 to R307). -/
theorem incrementDecrement16 : Obligations.IncrementDecrement16 := by
  refine ⟨fun ss s => ?_, fun ss s => ?_, fun xy s => ?_, fun xy s => ?_⟩
  · exact next_setPair ((exec_eq_incPair ss s).trans (incrementPair_eq ss s))
  · exact next_setPair ((exec_eq_decPair ss s).trans (decrementPair_eq ss s))
  · exact next_setXy ((exec_eq_incXy xy s).trans (incrementXy_eq xy s))
  · exact next_setXy ((exec_eq_decXy xy s).trans (decrementXy_eq xy s))

/-- Settles O18, with the correction as the number `daaCorrection` (R308). -/
theorem decimalAdjust : Obligations.DecimalAdjust := by
  intro s lo high adj
  exact ⟨_, (exec_eq_daa s).trans (decimalAdjust_eq s), daa8_r s.a s.f, hasFlags_daa8 s.a s.f, rfl⟩

/-- Settles O19: CPL is the bitwise complement, NEG the subtraction from 0 in every encoding
(R309, R310). -/
theorem complementAndNegate : Obligations.ComplementAndNegate := by
  refine ⟨fun s => ?_, fun y s => ?_⟩
  · refine ⟨_, (exec_eq_cpl s).trans (complementA_eq s), fun k hk => ?_, hasFlags_cpl8 s.a s.f, rfl⟩
    simp [hk]
  · exact ⟨_, (exec_eq_negRow y s).trans (negate_eq y s), neg8_r s.a, hasFlags_neg8 s.a, rfl⟩

end Sys2Proof

/-! ## Rotates, shifts and bits (O20 to O23)

Every row of R334 moves the byte one place and lets one bit enter at the free end (`rot8_eq`), and RES and
SET put one bit (`putBit`). What the CB-space operations write is said once for all operand forms, in
`writesM8_writeM8`. -/

namespace Sys2Proof.Machine

/-! ### One place to the left or to the right (R330 to R334) -/

/-- `v` moved one place, to the left or to the right, with `b` at the free end. -/
def shiftIn (left b : Bool) (v : Byte) : Byte :=
  if left then v.extractLsb' 0 7 ++ BitVec.ofBool b else BitVec.ofBool b ++ v.extractLsb' 1 7

/-- The rows of R334 that move to the left. -/
def rotLeft (op : RotOp) : Bool := decide (op = .rlc ∨ op = .rl ∨ op = .sla ∨ op = .sll)

/-- The bit that enters in row `op` of R334. -/
def rotEnters (op : RotOp) (v : Byte) (cin : Bool) : Bool :=
  match op with
  | .rlc => v.getLsbD 7
  | .rrc => v.getLsbD 0
  | .rl => cin
  | .rr => cin
  | .sla => false
  | .sra => v.getLsbD 7
  | .sll => true
  | .srl => false

/-- The bit that leaves in row `op` of R334. -/
def rotLeaves (op : RotOp) (v : Byte) : Bool := v.getLsbD (if rotLeft op then 7 else 0)

theorem shiftIn_getLsbD (left b : Bool) (v : Byte) {k : Nat} (hk : k < 7) :
    if left then (shiftIn left b v).getLsbD (k + 1) = v.getLsbD k
      else (shiftIn left b v).getLsbD k = v.getLsbD (k + 1) := by
  cases left with
  | false => exact BitVec.getLsbD_append.trans (by simp [hk, Nat.add_comm])
  | true => exact BitVec.getLsbD_append.trans (by simp [hk])

theorem shiftIn_getLsbD_free (left b : Bool) (v : Byte) :
    (shiftIn left b v).getLsbD (if left then 0 else 7) = b := by
  cases left with
  | false | true => exact BitVec.getLsbD_append.trans (by simp)

theorem rot8_eq (op : RotOp) (v : Byte) (cin : Bool) :
    rot8 op v cin = (shiftIn (rotLeft op) (rotEnters op v cin) v, rotLeaves op v) := by
  cases op <;> rfl

theorem rotOut_r (op : RotOp) (v f : Byte) :
    (rotOut op v f).r = shiftIn (rotLeft op) (rotEnters op v (flagC f)) v := by
  rw [rotOut, rot8_eq]

theorem rotAOut_r (op : RotOp) (a f : Byte) :
    (rotAOut op a f).r = shiftIn (rotLeft op) (rotEnters op a (flagC f)) a := by
  rw [rotAOut, rot8_eq]

theorem hasFlags_rotOut (op : RotOp) (v f : Byte) :
    hasFlags (rotOut op v f).f (s := (rotOut op v f).r.getLsbD 7) (z := decide ((rotOut op v f).r = 0))
      (y := (rotOut op v f).r.getLsbD 5) (h := false) (x := (rotOut op v f).r.getLsbD 3)
      (pv := parity (rotOut op v f).r) (n := false) (c := rotLeaves op v) := by
  rw [rotOut, rot8_eq]
  exact hasFlags_szxyF ..

theorem hasFlags_rotAOut (op : RotOp) (a f : Byte) :
    hasFlags (rotAOut op a f).f (s := flagS f) (z := flagZ f) (y := (rotAOut op a f).r.getLsbD 5)
      (h := false) (x := (rotAOut op a f).r.getLsbD 3) (pv := flagPV f) (n := false)
      (c := rotLeaves op a) := by
  rw [rotAOut, rot8_eq]
  exact hasFlags_packF (hs := rfl) (hz := rfl) (hy := rfl) (hh := rfl) (hx := rfl) (hpv := rfl)
    (hn := rfl) (hc := rfl)

/-- What an accumulator rotate answers, in the terms of row `op` of R334. -/
theorem next_rotateA {s : State} {res : Result} (op : RotOp) (h : res = rotateA op s) :
    ∃ t, res = .next t ∧
      (∀ k < 7, if rotLeft op then t.a.getLsbD (k + 1) = s.a.getLsbD k
        else t.a.getLsbD k = s.a.getLsbD (k + 1)) ∧
      t.a.getLsbD (if rotLeft op then 0 else 7) = rotEnters op s.a (flagC s.f) ∧
      hasFlags t.f (s := flagS s.f) (z := flagZ s.f) (y := t.a.getLsbD 5) (h := false)
        (x := t.a.getLsbD 3) (pv := flagPV s.f) (n := false) (c := rotLeaves op s.a) ∧
      t = { s with a := t.a, f := t.f, q := t.f, pc := s.pc + 1 } := by
  refine ⟨_, h.trans (rotateA_eq op s), fun k hk => ?_, ?_, hasFlags_rotAOut op s.a s.f, rfl⟩
  · rw [rotAOut_r]
    exact shiftIn_getLsbD _ _ s.a hk
  · rw [rotAOut_r]
    exact shiftIn_getLsbD_free ..

/-! ### How a result goes to the operand (R343, R351) -/

/-- From `s` to `t`, `res` goes to the operand `m`, and to the copy register where `m` names one, and to no
other register or byte of memory; F and Q become `f` and `q`, MEMPTR the effective address of an indexed
form, PC advances, and nothing else changes. -/
def writesM8 (s t : State) (m : M8) (res f q : Byte) : Prop :=
  match m with
  | .r r => writesR8 s t r res ∧ t = { s.withR8Of t with f := f, q := q, pc := s.pc + 1 }
  | .hl =>
    t.memRead s.hl = res ∧ sameMemoryBut s t [s.hl] ∧
      t = { s with mem := t.mem, f := f, q := q, pc := s.pc + 1 }
  | .idx x d =>
    t.memRead (s.ea x d) = res ∧ sameMemoryBut s t [s.ea x d] ∧
      t = { s with mem := t.mem, f := f, q := q, memptr := s.ea x d, pc := s.pc + 3 }
  | .idxCopy x d r =>
    t.memRead (s.ea x d) = res ∧ sameMemoryBut s t [s.ea x d] ∧ writesR8 s t r res ∧
      t = { s.withR8Of t with mem := t.mem, f := f, q := q, memptr := s.ea x d, pc := s.pc + 3 }

/-- The register copy as one update of `s` (R351). -/
theorem writeM8_idxCopy (x : Xy) (d : Byte) (r : R8) (v : Byte) (s : State) :
    writeM8 (.idxCopy x d r) v s =
      { s.setR8 r v with mem := (s.memWrite (s.ea x d) v).mem, memptr := s.ea x d } := by
  cases r <;> rfl

theorem writesM8_writeM8 (s : State) (m : M8) (res f q : Byte) :
    writesM8 s { writeM8 m res s with f := f, q := q, pc := s.pc + lenM8 m } m res f q := by
  cases m with
  | r r => exact ⟨writesR8_of fun _ => rfl, by cases r <;> rfl⟩
  | hl => exact ⟨memRead_memWrite_self s s.hl res, sameMemoryBut_memWrite s s.hl res, rfl⟩
  | idx x d =>
    exact ⟨memRead_memWrite_self s (s.ea x d) res, sameMemoryBut_memWrite s (s.ea x d) res, rfl⟩
  | idxCopy x d r =>
    rw [writeM8_idxCopy]
    exact ⟨memRead_memWrite_self s (s.ea x d) res, sameMemoryBut_memWrite s (s.ea x d) res,
      writesR8_of fun _ => rfl, by cases r <;> rfl⟩

/-! ### Single bits (R346 to R350) -/

theorem hasFlags_bitFlags (b : BitNo) (v src f : Byte) :
    hasFlags (bitFlags b v src f) (s := decide (b = .b7) && v.getLsbD (bitIndex b))
      (z := !v.getLsbD (bitIndex b)) (y := src.getLsbD 5) (h := true) (x := src.getLsbD 3)
      (pv := !v.getLsbD (bitIndex b)) (n := false) (c := flagC f) :=
  hasFlags_packF (hs := by rw [beq_eq_decide]) (hz := rfl) (hy := rfl) (hh := rfl) (hx := rfl)
    (hpv := rfl) (hn := rfl) (hc := rfl)

/-- The result of SET b, or of RES b if not `on`. -/
def putBit (on : Bool) (b : BitNo) (v : Byte) : Byte := if on then setBit b v else resBit b v

theorem one_shiftLeft_getLsbD (n : Nat) {k : Nat} (hk : k < 8) :
    ((1 : Byte) <<< n).getLsbD k = decide (k = n) := by
  refine (BitVec.getLsbD_twoPow n k).trans ?_
  rw [Bool.eq_iff_iff]
  simp only [Bool.and_eq_true, decide_eq_true_iff]
  omega

theorem putBit_getLsbD (on : Bool) (b : BitNo) (v : Byte) {k : Nat} (hk : k < 8) :
    (putBit on b v).getLsbD k = if k = bitIndex b then on else v.getLsbD k := by
  cases on with
  | false =>
    simp only [putBit, resBit, Bool.false_eq_true, if_false, BitVec.getLsbD_and, BitVec.getLsbD_not,
      one_shiftLeft_getLsbD _ hk]
    split <;> simp [*]
  | true =>
    simp only [putBit, setBit, if_true, BitVec.getLsbD_or, one_shiftLeft_getLsbD _ hk]
    split <;> simp [*]

end Sys2Proof.Machine

namespace Sys2Proof
open Machine

/-- RES and SET as one action: the result is written back, and F is kept. -/
theorem exec_putBit (on : Bool) (b : BitNo) (m : M8) (s : State) :
    exec (if on then .set b m else .res b m) s =
      .next { writeM8 m (putBit on b (readM8 m s)) s with f := s.f, q := 0, pc := s.pc + lenM8 m } := by
  rw [← writeM8_f m (putBit on b (readM8 m s)) s]
  cases on with
  | false => exact (exec_eq_res b m s).trans (bitReset_eq b m s)
  | true => exact (exec_eq_set b m s).trans (bitSet_eq b m s)

/-- Settles O20: each is one row of R334 on A, with S, Z and PV kept (R330 to R333). -/
theorem accumulatorRotates : Obligations.AccumulatorRotates := by
  intro left through s
  cases left with
  | false =>
    cases through with
    | false => exact next_rotateA .rrc (exec_eq_rrca s)
    | true => exact next_rotateA .rr (exec_eq_rra s)
  | true =>
    cases through with
    | false => exact next_rotateA .rlc (exec_eq_rlca s)
    | true => exact next_rotateA .rl (exec_eq_rla s)

/-- Settles O21: the result is one `shiftIn`, written back as `writesM8` says (R334 to R343, R351). -/
theorem rotatesAndShifts : Obligations.RotatesAndShifts := by
  intro op m s v left enters
  have hr : (rotOut op v s.f).r = shiftIn left enters v := rotOut_r op v s.f
  refine ⟨_, (rotOut op v s.f).r, (exec_eq_rot op m s).trans (rotateShift_eq op m s), fun k hk => ?_, ?_,
    hasFlags_rotOut op v s.f, rfl, ?_⟩
  · rw [hr]
    exact shiftIn_getLsbD left enters v hk
  · rw [hr]
    exact shiftIn_getLsbD_free left enters v
  · have hw := writesM8_writeM8 s m (rotOut op v s.f).r (rotOut op v s.f).f (rotOut op v s.f).f
    cases m with
    | r | hl | idx | idxCopy => exact ⟨rfl, hw⟩

/-- Settles O22: nothing is written but F and MEMPTR; Y and X come from the byte `bitXySource`
(R346 to R348). -/
theorem bitTest : Obligations.BitTest := by
  intro b m s bit
  obtain ⟨hs, hz, hy, hh, hx, hpv, hn, hc⟩ := hasFlags_bitFlags b (readM8 m s) (bitXySource m s) s.f
  refine ⟨_, (exec_eq_bit b m s).trans (bitTest_eq b m s), ?_, ⟨hs, hz, rfl, hh, rfl, hpv, hn, hc⟩, ?_⟩
  · cases m with
    | r r => exact ⟨rfl, hy, hx⟩
    | hl | idx | idxCopy =>
      exact ⟨rfl, hy.trans (hiByte_getLsbD _ (by decide)), hx.trans (hiByte_getLsbD _ (by decide))⟩
  · cases m with
    | r | hl | idx | idxCopy => rfl

/-- Settles O23: the result is `putBit` of the operand, written back as `writesM8` says (R349 to R351). -/
theorem bitResetAndSet : Obligations.BitResetAndSet := by
  intro on b m s v
  refine ⟨_, putBit on b v, exec_putBit on b m s, fun k hk => putBit_getLsbD on b v hk, ?_⟩
  have hw := writesM8_writeM8 s m (putBit on b v) s.f 0
  cases m with
  | r | hl | idx | idxCopy => exact ⟨rfl, hw⟩

end Sys2Proof

/-! ## Block transfer, block search, RLD and RRD (O24 to O26)

A repeating block instruction is the single iteration with another end: where its repeat condition holds, PC
goes back to the ED byte and MEMPTR is the address after it (R380). So one equation serves both forms, with
`repeats` as its parameter. The flags, and the nibbles that RLD and RRD move, are said apart. -/

namespace Sys2Proof.Machine

/-! ### The pointers -/

theorem add_dirStep_dec (w : Word) : w + dirStep .dec = w - 1 := (sub_eq_add_neg w 1).symm

theorem blockLoadMove_hl (dir : Dir) (s : State) : (blockLoadMove dir s).hl = s.hl + dirStep dir :=
  mkWord_hiByte_loByte _

theorem blockLoadMove_de (dir : Dir) (s : State) : (blockLoadMove dir s).de = s.de + dirStep dir :=
  mkWord_hiByte_loByte _

theorem blockLoadMove_bc (dir : Dir) (s : State) : (blockLoadMove dir s).bc = s.bc - 1 :=
  mkWord_hiByte_loByte _

theorem blockCompareMove_hl (dir : Dir) (s : State) :
    (blockCompareMove dir s).hl = s.hl + dirStep dir :=
  mkWord_hiByte_loByte _

theorem blockCompareMove_bc (dir : Dir) (s : State) : (blockCompareMove dir s).bc = s.bc - 1 :=
  mkWord_hiByte_loByte _

/-! ### The flags of one iteration (R381, R385) -/

theorem bne_eq_decide_ne (v w : Word) : (v != w) = decide (v ≠ w) := by
  rw [bne, beq_eq_decide, decide_not]

theorem hasFlags_blockLoadF (s : State) :
    let n := s.memRead s.hl + s.a
    hasFlags (blockLoadF s) (s := flagS s.f) (z := flagZ s.f) (y := n.getLsbD 1) (h := false)
      (x := n.getLsbD 3) (pv := decide (s.bc - 1 ≠ 0)) (n := false) (c := flagC s.f) :=
  hasFlags_packF (hs := rfl) (hz := rfl) (hy := rfl) (hh := rfl) (hx := rfl)
    (hpv := bne_eq_decide_ne (s.bc - 1) 0) (hn := rfl) (hc := rfl)

theorem carryIn_eq_ite (cin : Bool) : carryIn 8 cin = if cin then 1 else 0 := by
  cases cin <;> rfl

theorem sub8_r_eq_zero_iff (a v : Byte) : (sub8 a v false).r = 0 ↔ a = v := by
  rw [sub8_r_eq, sub_eq_zero]

/-- The flags of a block comparison, with the borrow of the low digit as `hasFlags_sub8` has it (R385). -/
theorem hasFlags_blockCompareF (s : State) :
    let v := s.memRead s.hl
    let borrow := decide (s.a.toNat % 16 < v.toNat % 16)
    let n := s.a - v - (if borrow then 1 else 0)
    hasFlags (blockCompareF s) (s := (s.a - v).getLsbD 7) (z := decide (s.a = v))
      (y := n.getLsbD 1) (h := borrow) (x := n.getLsbD 3) (pv := decide (s.bc - 1 ≠ 0)) (n := true)
      (c := flagC s.f) := by
  intro v borrow n
  have hh : (sub8 s.a v false).h = borrow := sub8_h s.a v false
  have hz : ((sub8 s.a v false).r == 0) = decide (s.a = v) := by
    rw [beq_eq_decide, decide_eq_decide, sub8_r_eq_zero_iff]
  have hn : (sub8 s.a v false).r - carryIn 8 (sub8 s.a v false).h = n := by
    rw [sub8_r_eq, carryIn_eq_ite, hh]
  exact hasFlags_packF (hs := by rw [sub8_r_eq]) (hz := hz) (hy := by rw [hn]) (hh := hh)
    (hx := by rw [hn]) (hpv := bne_eq_decide_ne (s.bc - 1) 0) (hn := rfl) (hc := rfl)

/-! ### RLD and RRD (R390, R391) -/

theorem hiNibble_append (hi lo : BitVec 4) : hiNibble (hi ++ lo) = hi :=
  BitVec.extractLsb'_append_eq_left

theorem loNibble_append (hi lo : BitVec 4) : loNibble (hi ++ lo) = lo :=
  BitVec.extractLsb'_append_eq_right

theorem hasFlags_logicKeepCarry (v f : Byte) :
    hasFlags (logicKeepCarry v f) (s := v.getLsbD 7) (z := decide (v = 0)) (y := v.getLsbD 5)
      (h := false) (x := v.getLsbD 3) (pv := parity v) (n := false) (c := flagC f) :=
  hasFlags_szxyF false (parity v) false (flagC f) v v

/-- What a digit rotation answers: `k` becomes the low nibble of A, and `hi` and `lo` the byte at HL. -/
theorem next_rotateDigit {s : State} {res : Result} {k hi lo : BitVec 4}
    (h : res = .next { s with
      mem := (s.memWrite s.hl (hi ++ lo)).mem
      a := hiNibble s.a ++ k
      f := logicKeepCarry (hiNibble s.a ++ k) s.f
      q := logicKeepCarry (hiNibble s.a ++ k) s.f
      memptr := s.hl + 1, pc := s.pc + 1 }) :
    ∃ t, res = .next t ∧ hiNibble t.a = hiNibble s.a ∧ loNibble t.a = k ∧
      hiNibble (t.memRead s.hl) = hi ∧ loNibble (t.memRead s.hl) = lo ∧ sameMemoryBut s t [s.hl] ∧
      hasFlags t.f (s := t.a.getLsbD 7) (z := decide (t.a = 0)) (y := t.a.getLsbD 5) (h := false)
        (x := t.a.getLsbD 3) (pv := parity t.a) (n := false) (c := flagC s.f) ∧
      t = { s with a := t.a, mem := t.mem, f := t.f, q := t.f, memptr := s.hl + 1, pc := s.pc + 1 } := by
  have hread := memRead_memWrite_self s s.hl (hi ++ lo)
  exact ⟨_, h, hiNibble_append .., loNibble_append .., (congrArg hiNibble hread).trans (hiNibble_append ..),
    (congrArg loNibble hread).trans (loNibble_append ..), sameMemoryBut_memWrite s s.hl (hi ++ lo),
    hasFlags_logicKeepCarry .., rfl⟩

end Sys2Proof.Machine

namespace Sys2Proof
open Machine

/-- One iteration of a block transfer, the repeating forms included (R380 to R384). -/
theorem exec_blockLoad (dir : Dir) (repeats : Bool) (s : State) :
    exec (if repeats then .ldRep dir else .ldStep dir) s =
      .next { blockLoadMove dir s with
        f := blockLoadF s, q := blockLoadF s
        memptr := if repeats && decide (s.bc - 1 ≠ 0) then s.pc else s.memptr
        pc := if repeats && decide (s.bc - 1 ≠ 0) then s.pc - 1 else s.pc + 1 } := by
  cases repeats with
  | false => exact (exec_eq_ldStep dir s).trans (blockLoadOnce_eq dir s)
  | true =>
    refine (exec_eq_ldRep dir s).trans ((blockLoadRepeat_eq dir s).trans ?_)
    simp only [Bool.true_and, decide_eq_true_iff]
    split <;> rfl

/-- One iteration of a block search, the repeating forms included: they stop at a match (R380, R385 to
R388). -/
theorem exec_blockCompare (dir : Dir) (repeats : Bool) (s : State) :
    let again := repeats && decide (s.bc - 1 ≠ 0) && decide (s.a ≠ s.memRead s.hl)
    exec (if repeats then .cpRep dir else .cpStep dir) s =
      .next { blockCompareMove dir s with
        f := blockCompareF s, q := blockCompareF s
        memptr := if again then s.pc else s.memptr + dirStep dir
        pc := if again then s.pc - 1 else s.pc + 1 } := by
  intro again
  cases repeats with
  | false => exact (exec_eq_cpStep dir s).trans (blockCompareOnce_eq dir s)
  | true =>
    have hagain : (s.bc - 1 ≠ 0 ∧ (sub8 s.a (s.memRead s.hl) false).r ≠ 0) ↔ again = true := by
      simp only [again, ne_eq, sub8_r_eq_zero_iff, Bool.true_and, Bool.and_eq_true, decide_eq_true_iff]
    refine (exec_eq_cpRep dir s).trans ((blockCompareRepeat_eq dir s).trans ?_)
    simp only [hagain]
    split <;> rfl

/-- Settles O24: the store is `blockLoadMove`'s, the flags are those of `hasFlags_blockLoadF`
(R380 to R384). -/
theorem blockTransfer : Obligations.BlockTransfer := by
  intro dir repeats s n again
  have hhl := blockLoadMove_hl dir s
  have hde := blockLoadMove_de dir s
  have hflags := hasFlags_blockLoadF s
  rw [← blockLoadMove_bc dir s] at hflags
  refine ⟨_, exec_blockLoad dir repeats s, memRead_memWrite_self s s.de (s.memRead s.hl),
    sameMemoryBut_memWrite s s.de (s.memRead s.hl), ?_, blockLoadMove_bc dir s, hflags, rfl⟩
  cases dir with
  | inc => exact ⟨hhl, hde⟩
  | dec => exact ⟨hhl.trans (add_dirStep_dec s.hl), hde.trans (add_dirStep_dec s.de)⟩

/-- Settles O25: the flags are those of `hasFlags_blockCompareF`; HL and MEMPTR step alike, unless the
repeat sets MEMPTR (R380, R385 to R388). -/
theorem blockSearch : Obligations.BlockSearch := by
  intro dir repeats s v borrow n again
  have hhl := blockCompareMove_hl dir s
  have hflags := hasFlags_blockCompareF s
  rw [← blockCompareMove_bc dir s] at hflags
  refine ⟨_, exec_blockCompare dir repeats s, ?_, blockCompareMove_bc dir s, hflags, ?_⟩
  · cases dir with
    | inc => exact hhl
    | dec => exact hhl.trans (add_dirStep_dec s.hl)
  · cases dir with
    | inc => rfl
    | dec =>
      rw [add_dirStep_dec]
      rfl

/-- Settles O26: each is one digit rotation, with its own choice of the three nibbles (R390, R391). -/
theorem nibbleRotates : Obligations.NibbleRotates := by
  intro left s m
  cases left with
  | false => exact next_rotateDigit ((exec_eq_rrd s).trans (rotateDigitRight_eq s))
  | true => exact next_rotateDigit ((exec_eq_rld s).trans (rotateDigitLeft_eq s))

end Sys2Proof

/-! ## Control transfer and the stack (O27 to O32)

A jump writes PC, and MEMPTR as its rule says; a call, a restart or a PUSH makes one `push16`, and a return
or a POP takes one `popValue`. A conditional action answers one of two states, and its claim says each
(`next_ite`). -/

namespace Sys2Proof.Machine

/-- What a conditional action answers, one claim per branch. -/
theorem next_ite {c : Prop} [Decidable c] {res : Result} {u v : State} {P Q : State → Prop}
    (h : res = if c then .next u else .next v) (hu : P u) (hv : Q v) :
    ∃ t, res = .next t ∧ if c then P t else Q t := by
  by_cases hc : c
  · exact ⟨u, h.trans (if_pos hc), by rwa [if_pos hc]⟩
  · exact ⟨v, h.trans (if_neg hc), by rwa [if_neg hc]⟩

/-- The target of a relative jump, with the displacement as a signed number (R116, R413). -/
theorem relTarget_toNat (s : State) (e : Byte) :
    ((s.relTarget e).toNat : Int) = ((s.pc.toNat : Int) + 2 + e.toInt) % 65536 := by
  have hsext : ((sext16 e).toNat : Int) = e.toInt % 65536 := by
    rw [sext16, BitVec.signExtend, BitVec.toNat_ofInt]
    exact Int.toNat_of_nonneg (Int.emod_nonneg _ (by decide))
  have h2 : (2 : Word).toNat = 2 := rfl
  rw [State.relTarget, BitVec.toNat_add, BitVec.toNat_add, h2]
  omega

/-- DJNZ by the value of B it finds: at 1 it ends the loop (R415). -/
theorem decrementJump_eq_ite (e : Byte) (s : State) :
    decrementJump e s =
      if s.b = 1 then .next { s with b := 0, q := 0, pc := s.pc + 2 }
      else .next { s with b := s.b - 1, memptr := s.relTarget e, q := 0, pc := s.relTarget e } := by
  rw [decrementJump_eq]
  by_cases hb : s.b = 1
  · have hzero : s.b - 1 = 0 := sub_eq_zero.mpr hb
    rw [if_neg (not_not.mpr hzero), if_pos hb, hzero]
  · rw [if_pos (sub_ne_zero.mpr hb), if_neg hb]

/-- What an action that pushes `v` answers (R86). -/
theorem next_push16 {s : State} {res : Result} {v m p : Word}
    (h : res = .next { s with
      mem := (s.push16 v).mem, sp := s.sp - 2, memptr := m, q := 0, pc := p }) :
    ∃ t, res = .next t ∧ t.memRead (s.sp - 1) = hiByte v ∧ t.memRead (s.sp - 2) = loByte v ∧
      sameMemoryBut s t [s.sp - 1, s.sp - 2] ∧
      t = { s with mem := t.mem, sp := s.sp - 2, memptr := m, q := 0, pc := p } :=
  ⟨_, h, memRead_push16_hi s v, memRead_push16_lo s v, sameMemoryBut_push16 s v, rfl⟩

theorem hiByte_popValue (s : State) : hiByte s.popValue = s.memRead (s.sp + 1) := hiByte_mkWord _ _
theorem loByte_popValue (s : State) : loByte s.popValue = s.memRead s.sp := loByte_mkWord _ _

end Sys2Proof.Machine

namespace Sys2Proof
open Machine

/-- Settles O28: the target is that of `relTarget_toNat`, and DJNZ is read by the value of B it finds
(R413 to R415). -/
theorem relativeJumps : Obligations.RelativeJumps := by
  refine ⟨fun e s => ?_, fun cc e s => ?_, fun e s => ?_⟩
  · exact ⟨_, (exec_eq_jr_e e s).trans (jumpRelative_eq e s), relTarget_toNat s e, rfl⟩
  · have h := (exec_eq_jrCc cc e s).trans (jumpRelativeIf_eq cc e s)
    cases cc with
    | nz | z | nc | c => exact next_ite h ⟨relTarget_toNat s e, rfl⟩ rfl
  · exact next_ite ((exec_eq_djnz_e e s).trans (decrementJump_eq_ite e s)) rfl
      ⟨relTarget_toNat s e, rfl⟩

/-- Settles O29: each pushes by one `push16` (R418, R419, R424). -/
theorem callsAndRestarts : Obligations.CallsAndRestarts := by
  refine ⟨fun nn s => ?_, fun cc nn s => ?_, fun p s => ?_⟩
  · exact next_push16 ((exec_eq_call_nn nn s).trans (callTo_eq nn s))
  · exact next_ite ((exec_eq_callCc cc nn s).trans (callIf_eq cc nn s))
      ⟨memRead_push16_hi s (s.pc + 3), memRead_push16_lo s (s.pc + 3),
        sameMemoryBut_push16 s (s.pc + 3), rfl⟩ rfl
  · have h := next_push16 ((exec_eq_rst p s).trans (restart_eq p s))
    cases p with
    | p00 | p08 | p10 | p18 | p20 | p28 | p30 | p38 => exact h

/-- Settles O31: the two bytes pushed are those of the named pair (R425, R426). -/
theorem pushRegisters : Obligations.PushRegisters := by
  refine ⟨fun qq s => ?_, fun xy s => ?_⟩
  · obtain ⟨t, ht, hhi, hlo, hsame, hframe⟩ :=
      next_push16 ((exec_eq_push qq s).trans (pushPair_eq qq s))
    refine ⟨t, ht, hhi.trans ?_, hlo.trans ?_, hsame, hframe⟩
    · cases qq with
      | bc | de | hl | af => exact hiByte_mkWord _ _
    · cases qq with
      | bc | de | hl | af => exact loByte_mkWord _ _
  · exact next_push16 ((exec_eq_pushXy xy s).trans (pushXyReg_eq xy s))

/-- Settles O27, condition by condition and jump by jump (R410 to R412, R416, R417). -/
theorem absoluteJumps : Obligations.AbsoluteJumps := by
  refine ⟨fun cc f => ?_, fun nn s => ?_, fun cc nn s => ?_, fun s => ?_, fun xy s => ?_⟩
  · cases cc with
    | nz | z | nc | c | po | pe | p | m => rfl
  · exact (exec_eq_jp_nn nn s).trans (jumpTo_eq nn s)
  · exact (exec_eq_jpCc cc nn s).trans (jumpIf_eq cc nn s)
  · exact (exec_eq_jp_hl s).trans (jumpHl_eq s)
  · exact (exec_eq_jpXy xy s).trans (jumpXy_eq xy s)

/-- Settles O30: the target is `popValue` (R420 to R423). -/
theorem returns : Obligations.Returns := by
  intro s target
  refine ⟨(exec_eq_ret s).trans (returnAlways_eq s), fun cc => ?_, fun y => ?_⟩
  · exact (exec_eq_retCc cc s).trans ((returnIf_eq cc s).trans (apply_ite Host.Outcome.next _ _ _).symm)
  · exact (exec_eq_retRow y s).trans (returnFromHandler_eq y s)

/-- Settles O32: the bytes at SP and SP + 1 are the two of `popValue` (R427, R428). -/
theorem popRegisters : Obligations.PopRegisters := by
  refine ⟨fun qq s => ?_, fun xy s => ?_⟩
  · rw [exec_eq_pop, popPair_eq, ← hiByte_popValue s, ← loByte_popValue s]
    cases qq with
    | bc | de | hl | af => rfl
  · exact ⟨_, (exec_eq_popXy xy s).trans (popXyReg_eq xy s), writesXy_of fun _ => rfl,
      by cases xy <;> rfl⟩

end Sys2Proof

/-! ## Ports and block input and output (O33 to O36)

A port read takes the platform's byte and records the access; a port write records the byte in the paging
latches and runs the platform's hook (`hookRan_of`). A repeating block form is the single iteration with
another end: where B is not yet 0, PC goes back to the ED byte. So one equation serves both, and one lemma
says the flags of all eight forms (R466). -/

namespace Sys2Proof.Machine

/-! ### Port reads and port writes (R88, R450 to R457) -/

/-- What an output of `v` to `pa` answers: the latches take the byte by their predicates, and the hook has
run (R88, R451). -/
theorem next_portWrite {s : State} {res : Result} {pa m p : Word} {v : Byte}
    (h : res = .next { s.portWrite pa v with memptr := m, q := 0, pc := p }) :
    ∃ t, res = .next t ∧ hookRan s t ∧
      t = { s with
        memptr := m, q := 0, pc := p
        pageA := if Config.pagingPortA pa then v else s.pageA
        pageB := if Config.pagingPortB pa then v else s.pageB
        portHist := .write pa v :: s.portHist
        mem := t.mem, portHooks := t.portHooks } :=
  ⟨_, h, hookRan_of rfl rfl, rfl⟩

/-! ### The flags of a block input or output (R466) -/

theorem zeroExtend9_add_toNat (v k8 : Byte) :
    (v.zeroExtend 9 + k8.zeroExtend 9 : BitVec 9).toNat = v.toNat + k8.toNat := by
  have hv := v.isLt; have hk := k8.isLt
  simp only [BitVec.toNat_add, BitVec.toNat_setWidth, BitVec.zeroExtend]; omega

/-- The low three bits of the 9-bit sum, as the byte that PV is the parity of. -/
theorem lowBits_zeroExtend9_add (v k8 : Byte) :
    ((v.zeroExtend 9 + k8.zeroExtend 9 : BitVec 9).extractLsb' 0 3).zeroExtend 8 =
      BitVec.ofNat 8 ((v.toNat + k8.toNat) % 8) := by
  apply BitVec.eq_of_toNat_eq
  rw [BitVec.zeroExtend, BitVec.toNat_setWidth, BitVec.extractLsb'_toNat, zeroExtend9_add_toNat,
    BitVec.toNat_ofNat, Nat.shiftRight_zero]

theorem hasFlags_blockIoFlags (v b k8 : Byte) :
    let k := v.toNat + k8.toNat
    hasFlags (blockIoFlags v b k8) (s := b.getLsbD 7) (z := decide (b = 0)) (y := b.getLsbD 5)
      (h := decide (255 < k)) (x := b.getLsbD 3) (pv := parity (BitVec.ofNat 8 (k % 8) ^^^ b))
      (n := v.getLsbD 7) (c := decide (255 < k)) := by
  intro k
  have hcarry : (v.zeroExtend 9 + k8.zeroExtend 9 : BitVec 9).getLsbD 8 = decide (255 < k) := by
    rw [getLsbD_eq_decide, zeroExtend9_add_toNat]
    rfl
  rw [← lowBits_zeroExtend9_add, ← hcarry]
  exact hasFlags_szxyF _ _ _ _ b b

/-! ### The pointers -/

theorem add_dirStep8_dec (v : Byte) : v + dirStep8 .dec = v - 1 := (sub_eq_add_neg v 1).symm

theorem blockInMove_hl (dir : Dir) (s : State) : (blockInMove dir s).hl = s.hl + dirStep dir :=
  mkWord_hiByte_loByte _

theorem blockOutMove_hl (dir : Dir) (s : State) : (blockOutMove dir s).hl = s.hl + dirStep dir :=
  mkWord_hiByte_loByte _

end Sys2Proof.Machine

namespace Sys2Proof
open Machine

/-- One iteration of a block input, the repeating forms included (R458 to R461). -/
theorem exec_blockIn (dir : Dir) (repeats : Bool) (s : State) :
    exec (if repeats then .inRep dir else .inStep dir) s =
      .next { blockInMove dir s with
        f := blockInF dir s, q := blockInF dir s
        pc := if repeats && decide (s.b - 1 ≠ 0) then s.pc - 1 else s.pc + 1 } := by
  cases repeats with
  | false => exact (exec_eq_inStep dir s).trans (blockInOnce_eq dir s)
  | true =>
    simp only [Bool.true_and, decide_eq_true_iff]
    exact (exec_eq_inRep dir s).trans (blockInRepeat_eq dir s)

/-- One iteration of a block output, the repeating forms included (R462 to R465). -/
theorem exec_blockOut (dir : Dir) (repeats : Bool) (s : State) :
    exec (if repeats then .outRep dir else .outStep dir) s =
      .next { blockOutMove dir s with
        f := blockOutF dir s, q := blockOutF dir s
        pc := if repeats && decide (s.b - 1 ≠ 0) then s.pc - 1 else s.pc + 1 } := by
  cases repeats with
  | false => exact (exec_eq_outStep dir s).trans (blockOutOnce_eq dir s)
  | true =>
    simp only [Bool.true_and, decide_eq_true_iff]
    exact (exec_eq_outRep dir s).trans (blockOutRepeat_eq dir s)

/-- Settles O34: each is one `portWrite` (R88, R451, R455 to R457). -/
theorem portOutput : Obligations.PortOutput := by
  refine ⟨fun n s => ?_, fun r s => ?_, fun s => ?_⟩
  · exact next_portWrite ((exec_eq_out_portN_a n s).trans (outPortA_eq n s))
  · exact next_portWrite ((exec_eq_outR r s).trans (outC_eq (s.r8 r) s))
  · exact next_portWrite ((exec_eq_out_portC_0 s).trans (outC_eq 0 s))

/-- Settles O35: the store is `blockInMove`'s, the flags are those of `hasFlags_blockIoFlags` with C one
step on (R458 to R461, R466). -/
theorem blockInput : Obligations.BlockInput := by
  intro dir repeats s v k again
  have hexec := exec_blockIn dir repeats s
  have hhl := blockInMove_hl dir s
  have hflags := hasFlags_blockIoFlags v (s.b - 1) (s.c + dirStep8 dir)
  rw [blockInMove_eq] at hexec hhl
  refine ⟨_, hexec, memRead_memWrite_self s s.hl v,
    sameMemoryBut_memWrite s s.hl v, ?_⟩
  cases dir with
  | inc => exact ⟨hhl, hflags, rfl⟩
  | dec =>
    have hk : k = v.toNat + (s.c + dirStep8 .dec).toNat := by
      rw [add_dirStep8_dec]
    rw [hk, ← add_dirStep_dec s.hl, ← add_dirStep_dec s.bc]
    exact ⟨hhl, hflags, rfl⟩

/-- Settles O36: the write is `blockOutMove`'s `portWrite`, the flags are those of `hasFlags_blockIoFlags`
with the new L (R462 to R466). -/
theorem blockOutput : Obligations.BlockOutput := by
  intro dir repeats s v pa again
  have hhl := blockOutMove_hl dir s
  have hflags := hasFlags_blockIoFlags v (s.b - 1) (loByte (s.hl + dirStep dir))
  refine ⟨_, exec_blockOut dir repeats s, hookRan_of rfl rfl, ?_⟩
  cases dir with
  | inc => exact ⟨hhl, hflags, rfl⟩
  | dec =>
    rw [← add_dirStep_dec s.hl, ← add_dirStep_dec pa]
    exact ⟨hhl, hflags, rfl⟩

/-- Settles O33: the flags of `IN r,(C)` and `IN (C)` are those of `logicKeepCarry` (R450, R452 to R454). -/
theorem portInput : Obligations.PortInput := by
  refine ⟨fun n s => ?_, fun r s => ?_, fun s => ?_⟩
  · exact (exec_eq_in_a_portN n s).trans (inAPort_eq n s)
  · exact ⟨_, (exec_eq_inR r s).trans (inRegC_eq r s), writesR8_of fun _ => rfl,
      hasFlags_logicKeepCarry (s.portValue s.bc) s.f, by cases r <;> rfl⟩
  · exact ⟨_, (exec_eq_in_portC s).trans (inFlagsC_eq s),
      hasFlags_logicKeepCarry (s.portValue s.bc) s.f, rfl⟩

end Sys2Proof

/-! ## Control latches, interrupts and reset (O37 to O39, O48 to O51, O58)

Each control instruction is one update of the state (`noOperation_eq` to `complementCarry_eq`), and each
acceptance one equation (`acceptNmi_eq`, `acceptInt_eq`). What is left to say is that the target word of a
maskable interrupt reads the same in the memory after the push and in the state after the whole pass, and
that no pass touches the skip flag. -/

namespace Sys2Proof.Machine

/-! ### Carry (R486, R487) -/

theorem hasFlags_scfFlags (q f a : Byte) :
    hasFlags (scfFlags q f a) (flagS f) (flagZ f) (((q ^^^ f) ||| a).getLsbD 5) false
      (((q ^^^ f) ||| a).getLsbD 3) (flagPV f) false true :=
  hasFlags_packF (hs := rfl) (hz := rfl) (hy := rfl) (hh := rfl) (hx := rfl) (hpv := rfl) (hn := rfl)
    (hc := rfl)

theorem hasFlags_ccfFlags (q f a : Byte) :
    hasFlags (ccfFlags q f a) (flagS f) (flagZ f) (((q ^^^ f) ||| a).getLsbD 5) (flagC f)
      (((q ^^^ f) ||| a).getLsbD 3) (flagPV f) false (!flagC f) :=
  hasFlags_packF (hs := rfl) (hz := rfl) (hy := rfl) (hh := rfl) (hx := rfl) (hpv := rfl) (hn := rfl)
    (hc := rfl)

/-! ### What an acceptance leaves (R505, R506, R517) -/

/-- What a state whose memory is that after the push of `v` holds on the stack (R86). -/
theorem pushed_of_mem {s t : State} {v : Word} (h : t.mem = (s.push16 v).mem) :
    t.memRead (s.sp - 1) = hiByte v ∧ t.memRead (s.sp - 2) = loByte v ∧
      sameMemoryBut s t [s.sp - 1, s.sp - 2] := by
  refine ⟨?_, ?_, fun a ha => ?_⟩
  · rw [memRead_of_mem h, memRead_push16_hi]
  · rw [memRead_of_mem h, memRead_push16_lo]
  · rw [memRead_of_mem h, sameMemoryBut_push16 s v a ha]

theorem acceptInt_clears (s : State) : s.acceptInt.intPending = false ∧ s.acceptInt.iff1 = false := by
  rw [acceptInt_eq]
  split
  · exact ⟨rfl, rfl⟩
  · exact ⟨rfl, rfl⟩

/-- A pass reads the skip flag and leaves it. -/
theorem interruptController_skipInt (s : State) : s.interruptController.skipInt = s.skipInt := by
  rcases interruptController_cases s with hc | ⟨-, -, hc⟩ | ⟨-, -, -, -, hc⟩
  · rw [hc]
  · rw [hc, acceptNmi_eq]
  · rw [hc, acceptInt_eq]
    split
    · rfl
    · rfl

/-! ### The target of a maskable interrupt (R511 to R514) -/

theorem intTarget_of_mem (s : State) {m m' : State} (h : m'.mem = m.mem) :
    intTarget s m' = intTarget s m := by
  simp only [intTarget, memRead2_of_mem h]

/-- Whether control is transferred does not depend on memory. -/
theorem intTarget_eq_none {s m : State} (h : intTarget s m = none) (m' : State) :
    intTarget s m' = none := by
  unfold intTarget at h ⊢
  cases him : s.im with
  | im0 =>
    simp only [him] at h ⊢
    split at h
    · cases h
    next hrst =>
      split at h
      · cases h
      next hcall => rw [if_neg hrst, if_neg hcall]
  | im1 => simp [him] at h
  | im2 => simp [him] at h

/-- The target is the same word before and after the rest of the pass. -/
theorem intTarget_acceptInt (s : State) : intTarget s s.acceptInt = intTarget s (s.push16 s.pc) := by
  rw [acceptInt_eq]
  cases h : intTarget s (s.push16 s.pc) with
  | some a => exact (intTarget_of_mem s rfl).trans h
  | none => exact intTarget_eq_none h _

/-! ### The step (R152, R156) -/

theorem beforeAction_of_pfx_none {s : State} (hp : s.pfx = none) (i : Instr) :
    s.beforeAction i = { s with r := incR (refreshStep i) s.r } := by
  rw [State.beforeAction, ← hp]

end Sys2Proof.Machine

namespace Sys2Proof
open Machine

/-- Settles O37, by the equation of each operation (R480 to R485, R153). -/
theorem controlLatches : Obligations.ControlLatches := by
  intro s
  refine ⟨(exec_eq_nop s).trans (noOperation_eq s), (exec_eq_halt s).trans (haltCore_eq s),
    (exec_eq_di s).trans (disableInterrupts_eq s), (exec_eq_ei s).trans (enableInterrupts_eq s),
    fun y => ?_, fun p => exec_eq_prefixOf p s⟩
  rw [exec_eq_imRow, interruptMode_eq]
  cases y with
  | b0 | b1 | b2 | b3 | b4 | b5 | b6 | b7 => rfl

/-- Settles O38, with the flags of `hasFlags_scfFlags` and `hasFlags_ccfFlags` (R486, R487). -/
theorem carryInstructions : Obligations.CarryInstructions := fun s =>
  ⟨⟨_, (exec_eq_scf s).trans (setCarry_eq s), hasFlags_scfFlags s.q s.f s.a, rfl⟩,
    ⟨_, (exec_eq_ccf s).trans (complementCarry_eq s), hasFlags_ccfFlags s.q s.f s.a, rfl⟩⟩

/-- A core without a fault has a step: it halts on, faults, or runs an action, which answers (R500). -/
theorem stepWith_next (undoc : Bool) {s : State} (hf : s.fault = none) :
    ∃ t, stepWith undoc s = .next t := by
  rcases stepWith_cases undoc s with ⟨idx, hidx, -⟩ | ⟨-, -, he⟩ | ⟨idx, -, -, -, he⟩ | ⟨i, -, hh, hd, -⟩
  · rw [hf] at hidx; cases hidx
  · exact ⟨_, he⟩
  · exact ⟨_, he⟩
  · obtain ⟨u, hu⟩ := exec_next i (s.beforeAction i)
    exact ⟨_, stepWith_of_exec hf hh hd hu⟩

/-- Settles O39 (R500 to R502). -/
theorem everyInstructionCompletes : Obligations.EveryInstructionCompletes :=
  ⟨exec_next, fun undoc _ hf => stepWith_next undoc hf⟩

/-- Settles O48, by the outcomes of a pass (R504 to R506, R516). -/
theorem controllerPriority : Obligations.ControllerPriority := by
  refine fun s => ⟨interruptController_skip, fun hs hn => ?_, fun hs hn hi hf => ?_, interruptController_idle⟩
  · rw [interruptController_nmi hs hn, acceptNmi_eq]
    exact ⟨rfl, rfl, rfl⟩
  · rw [interruptController_int hs hn hi hf]
    exact acceptInt_clears s

/-- Settles O49 (R505, R517). -/
theorem nmiEntry : Obligations.NmiEntry := by
  intro s hs hn t
  have ht : t = _ := (interruptController_nmi hs hn).trans (acceptNmi_eq s)
  have hmem : t.mem = (s.push16 s.pc).mem := by rw [ht]
  obtain ⟨hhi, hlo, hsame⟩ := pushed_of_mem hmem
  exact ⟨hhi, hlo, hsame, ht.trans (by rw [hmem])⟩

/-- Settles O50: the obligation's target is `intTarget` in the state after the pass (R506, R511 to R515,
R517). -/
theorem intEntry : Obligations.IntEntry := by
  intro s hs hn hi hf t wordAt target
  have hpass : t = s.acceptInt := interruptController_int hs hn hi hf
  have htarget : target = intTarget s (s.push16 s.pc) := by
    rw [← intTarget_acceptInt, ← hpass]
    rfl
  have ht := hpass.trans (acceptInt_eq s)
  rw [htarget]
  cases h : intTarget s (s.push16 s.pc) with
  | some a =>
    rw [h] at ht
    have hmem : t.mem = (s.push16 s.pc).mem := by rw [ht]
    obtain ⟨hhi, hlo, hsame⟩ := pushed_of_mem hmem
    exact ⟨hhi, hlo, hsame, ht.trans (by rw [hmem])⟩
  | none => rwa [h] at ht

theorem decodeForm_ei (undoc : Bool) (b1 b2 : Byte) : decodeForm undoc none 0xFB b1 b2 = .ok .ei := by
  cases undoc <;> rfl

/-- The step of EI: the controller runs with the skip flag set, and takes nothing (R483, R159). -/
theorem stepWith_ei (undoc : Bool) {s : State} (hf : s.fault = none) (hh : s.halted = false)
    (hp : s.pfx = none) (hb : s.memRead s.pc = 0xFB) :
    stepWith undoc s = .next { s with
      iff1 := true, iff2 := true, skipInt := true, q := 0, pc := s.pc + 1, r := incR 1 s.r } := by
  have hd : s.fetch undoc = .ok .ei :=
    fetch_of_decodeForm (f := .ei) (by rw [hp, hb]; exact decodeForm_ei undoc _ _)
  have hcat : Instr.ei.desc.category = .enableInterrupts := (agrees .ei).category
  have hr : refreshStep .ei = 1 := (agrees .ei).refresh
  have he := (exec_eq_ei (s.beforeAction .ei)).trans (enableInterrupts_eq _)
  rw [stepWith_of_exec hf hh hd he, State.afterAction, hcat, beforeAction_of_pfx_none hp, hr]
  exact congrArg _ (interruptController_skip rfl)

/-- A step of a `normal` instruction ends with the skip flag clear: it is cleared before the pass, which
leaves it (R158, R553). -/
theorem skipInt_of_normal {undoc : Bool} {s t : State} {i : Instr} (hf : s.fault = none)
    (hh : s.halted = false) (hc : i.desc.category = .normal) (hd : s.fetch undoc = .ok i)
    (h : stepWith undoc s = .next t) : t.skipInt = false := by
  rw [stepWith_running undoc hf hh hd] at h
  obtain ⟨u, -, rfl⟩ := runInstruction_next h
  rw [State.afterAction, hc]
  exact interruptController_skipInt { u with skipInt := false }

/-- Settles O51, by the step of EI and the step after it (R483, R553). -/
theorem eiShadow : Obligations.EiShadow :=
  ⟨fun _ hf hh hp hb => stepWith_ei _ hf hh hp hb,
    fun _ _ _ hf hh hc hd h => skipInt_of_normal hf hh hc hd h⟩

/-- Settles O58: the move puts the platform's state of `s` into the reset values (R550, R551). -/
theorem hostReset : Obligations.HostReset := fun _ _ _ _ => rfl

end Sys2Proof
